-- ==== Sys2Proof/Word.lean ====
section
/-! DEFINITION. The two plain types everything else is written in: a byte of the link, and a moment
or a duration in whole microseconds (00 Conventions: every interval to a resolution of 1 µs). -/

namespace Sys2Proof

/-- One byte of the link (11 R192). -/
abbrev Byte := BitVec 8

/-- A moment or a duration, in µs of the part's nominal oscillator (00 Conventions). -/
abbrev Micros := Nat

end Sys2Proof
end

