-- ==== Sys2Proof/Syntax.lean ====
section
/-! DEFINITION. The commands of the part: one constructor for each row of spec/opcode_table.json, in
the table's order. Every command carries `dt`, the µs that have passed since the command before it
(assumption log entry 1, DESIGN CHOICE). A request of the host carries its tag and the bytes of its payload, one
operand for each field of 11 section 11.5, so that a value out of range can be written as well. -/

namespace Sys2Proof

/-- The end of a frame on TXD, `dt` µs after the command before it, with the BAUD strap as it then stands. -/
structure FrameEnd where
  dt : Nat
  baudHigh : Bool
  deriving DecidableEq, Repr

/-- VDD in mV, with the BAUD strap as it stands when VDD takes that value. -/
structure SupplyLevel where
  vdd : Nat
  baudHigh : Bool
  deriving DecidableEq, Repr

/-- The commands, in the order of the opcode table. -/
inductive Instr where
  /-- POWER_ON_RESET: `vdd` in mV, `baudHigh` the BAUD strap as found (10 R179, 09 R161). -/
  | powerOnReset (dt : Nat) (vdd : Nat) (baudHigh : Bool)
  /-- PIN_RESET: RESETn is driven low and then released, `release` the BAUD strap as found at the release;
  with `none` RESETn is driven low and stays low (10 R179, 03 R52, 09 R161). -/
  | pinReset (dt : Nat) (release : Option Bool)
  /-- LINK_FRAME_RECEIVED: a complete link frame, its length the length of `payload` (09 R166). -/
  | linkFrameReceived (dt : Nat) (kind tag : Byte) (payload : List Byte) (check : Byte)
  /-- INTER_BYTE_TIMEOUT (09 R165). -/
  | interByteTimeout (dt : Nat)
  /-- UNKNOWN_KIND_REQUEST (09 R167). -/
  | unknownKindRequest (dt : Nat) (kind tag : Byte) (payload : List Byte)
  /-- OUTBOUND_FRAME_END: the soft reset that the end of the OK of a RESTART brings reads the BAUD strap, any
  other end does not (09 R172, R175, R161). -/
  | outboundFrameEnd (ending : FrameEnd)
  /-- REPLY_CACHE_WINDOW_CLOSE (09 R168). -/
  | replyCacheWindowClose (dt : Nat)
  /-- PING with its data bytes (09 R174). -/
  | ping (dt : Nat) (tag : Byte) (data : List Byte)
  /-- RESTART (09 R175). -/
  | restart (dt : Nat) (tag : Byte)
  /-- SET of a setting id to a value (09 R176). -/
  | set (dt : Nat) (tag id : Byte) (value : BitVec 32)
  /-- GET of a setting id (09 R176). -/
  | get (dt : Nat) (tag id : Byte)
  /-- SAVE (10 R180). -/
  | save (dt : Nat) (tag : Byte)
  /-- WIPE (10 R184). -/
  | wipe (dt : Nat) (tag : Byte)
  /-- STORE_STATUS (10 R185). -/
  | storeStatus (dt : Nat) (tag : Byte)
  /-- TPL_OPEN of a slot in a mode (01 R9). -/
  | tplOpen (dt : Nat) (tag slot mode : Byte)
  /-- TPL_PUT of a section: the section byte and the bytes after it (01 R11, 11 section 11.5). -/
  | tplPut (dt : Nat) (tag part : Byte) (data : List Byte)
  /-- TPL_COMMIT (01 R14). -/
  | tplCommit (dt : Nat) (tag : Byte)
  /-- TPL_ABORT (01 R17). -/
  | tplAbort (dt : Nat) (tag : Byte)
  /-- TPL_ERASE of a slot (01 R19). -/
  | tplErase (dt : Nat) (tag slot : Byte)
  /-- TPL_READ of a slot, copy, section and symbol number (01 R20). -/
  | tplRead (dt : Nat) (tag slot copy part n : Byte)
  /-- TPL_STATUS (01 R21). -/
  | tplStatus (dt : Nat) (tag : Byte)
  /-- DRAFT_EXPIRY (01 R18). -/
  | draftExpiry (dt : Nat)
  /-- SEND: the job header and the payload bytes (04 R60). -/
  | send (dt : Nat) (tag template lengthMode count mask cls report : Byte) (payload : List Byte)
  /-- RELEASE of a job id (04 R68). -/
  | release (dt : Nat) (tag job : Byte)
  /-- CANCEL of a job id (04 R69). -/
  | cancel (dt : Nat) (tag job : Byte)
  /-- FLUSH (04 R72). -/
  | flush (dt : Nat) (tag : Byte)
  /-- QUEUE_STATUS (04 R76). -/
  | queueStatus (dt : Nat) (tag : Byte)
  /-- STOP (05 R96). -/
  | stop (dt : Nat) (tag : Byte)
  /-- RESUME (05 R99). -/
  | resume (dt : Nat) (tag : Byte)
  /-- INTERVAL_END (02 R34). -/
  | intervalEnd (dt : Nat)
  /-- SPACING_END (05 R88). -/
  | spacingEnd (dt : Nat)
  /-- HOLD_LIMIT_EXPIRY of the live job with this id (05 R93, 04 R71). -/
  | holdLimitExpiry (dt : Nat) (job : Byte)
  /-- IND_TAIL_EXPIRY (03 R53). -/
  | indTailExpiry (dt : Nat)
  /-- KEY_EDGE: line K`key` goes to the level `high` (06 R107). -/
  | keyEdge (dt : Nat) (key : Fin 8) (high : Bool)
  /-- DEBOUNCE_EXPIRY of a key (06 R107). -/
  | debounceExpiry (dt : Nat) (key : Fin 8)
  /-- BIND: the key, the job header and the payload bytes (06 R111). -/
  | bind (dt : Nat) (tag key template lengthMode count mask cls report : Byte)
      (payload : List Byte)
  /-- UNBIND of a key (06 R112). -/
  | unbind (dt : Nat) (tag key : Byte)
  /-- KEY_STATUS (06 R117). -/
  | keyStatus (dt : Nat) (tag : Byte)
  /-- RXIN_CHANGE: RXIN goes to the level `high` (07 R122). -/
  | rxinChange (dt : Nat) (high : Bool)
  /-- GLITCH_CONFIRM (07 R122). -/
  | glitchConfirm (dt : Nat)
  /-- BURST_END_TIMER (07 R127, R130). -/
  | burstEndTimer (dt : Nat)
  /-- MARK_LIMIT (07 R129). -/
  | markLimit (dt : Nat)
  /-- BLANK_TAIL_EXPIRY (07 R133). -/
  | blankTailExpiry (dt : Nat)
  /-- MATCHING_END (08 R140). -/
  | matchingEnd (dt : Nat)
  /-- RX_WINDOW_EXPIRY (08 R152). -/
  | rxWindowExpiry (dt : Nat)
  /-- LEARN_ARM with a timeout in seconds (08 R157). -/
  | learnArm (dt : Nat) (tag timeout : Byte)
  /-- LEARN_CANCEL (08 R158). -/
  | learnCancel (dt : Nat) (tag : Byte)
  /-- LEARN_READ from an offset (08 R159). -/
  | learnRead (dt : Nat) (tag offset : Byte)
  /-- LEARN_TIMER_EXPIRY (08 R157). -/
  | learnTimerExpiry (dt : Nat)
  /-- RX_STATUS (07 R137). -/
  | rxStatus (dt : Nat) (tag : Byte)
  /-- SAVE_WRITE_COMPLETE (10 R181). -/
  | saveWriteComplete (dt : Nat)
  /-- WIPE_ERASE_END (10 R184). -/
  | wipeEraseEnd (dt : Nat)
  /-- SUPPLY_CHANGE: the power-on reset that VDD's return brings reads the BAUD strap, any other change does
  not (10 R186, 09 R161). -/
  | supplyChange (dt : Nat) (supply : SupplyLevel)
  /-- DOZE_DELAY_EXPIRY (10 R189). -/
  | dozeDelayExpiry (dt : Nat)
  /-- RXD_WAKE_EDGE (10 R191). -/
  | rxdWakeEdge (dt : Nat)
  /-- WAKE_LATENCY_END (10 R191). -/
  | wakeLatencyEnd (dt : Nat)
  /-- CHARACTER_RECEIVED: the byte, how many µs ago its start bit fell, and whether its stop bit is
  high (09 R161, R164; 10 R191). -/
  | characterReceived (dt : Nat) (byte : Byte) (startAgo : Nat) (stopHigh : Bool)
  deriving DecidableEq, Repr

end Sys2Proof
end

