-- ==== Sys2Proof/Decode.lean ====
section
/-! DEFINITION. The command that a word spells by the table's bits. No row of spec/opcode_table.json
gives any bits (every row's "fields" is empty), so no word spells a command. The byte layout of the
messages on the link (11 Message Formats) is modelled in Sys2Proof/Machine/Operands.lean and
Sys2Proof/Machine/Formats.lean. -/

namespace Sys2Proof

/-- The command of a table word: none, for no row of the table gives bits. -/
def decodeTableWord (_nbits _w : Nat) : Option Instr := none

end Sys2Proof
end

