-- ==== Sys2Proof/Config.lean ====
section
/-! DEFINITION. The fixed numbers of the part, each with the rule that gives it, and the one free
value of the model (assumption log entry 6, DESIGN CHOICE). -/

namespace Sys2Proof.Config

/-- 02 R39: the minimum inter-frame space MIN_SPACE, 2,000 µs. -/
def minSpace : Micros := 2000

/-- 04 R58: the emission queue holds at most 8 entries. -/
def queueRoom : Nat := 8

/-- 09 R170: the notice queue holds at most 12 notices. -/
def noticeRoom : Nat := 12

/-- 09 R166: the intake queue holds at most 3 frames. -/
def intakeRoom : Nat := 3

/-- 09 R167: the reply buffer holds at most 2 replies. -/
def replyRoom : Nat := 2

/-- 09 R162: a link frame carries at most 60 payload bytes. -/
def maxPayload : Nat := 60

/-- 09 R162: the start byte of a link frame. -/
def startByte : Byte := 0xB5#8

/-- 09 R165: the inter-byte timer falls due when more than 10 ms have passed. -/
def interByteDue : Micros := 10001

/-- 09 R168: the reply cache window closes 2 s after the reply has left. -/
def cacheWindow : Micros := 2000000

/-- 01 R18: the draft expiry falls 30 s after last touched. -/
def draftLife : Micros := 30000000

/-- 07 R128: a burst is dropped when it reaches 192 intervals. -/
def burstRoom : Nat := 192

/-- 07 R124: the mark limit falls due 65,001 µs after the mark edge. -/
def markLimitDue : Micros := 65001

/-- 08 R159: LEARN_READ returns at most 24 intervals. -/
def learnChunk : Nat := 24

/-- 01 R14: the longest frame, 250,000 µs. -/
def longestFrame : Micros := 250000

/-- 01 R14, 02 R34: the most intervals of a frame, the room of the render buffer. -/
def bufferRoom : Nat := 160

/-- 10 R178: the greatest generation of a bank. -/
def lastGeneration : Nat := 4294967295

/-- 10 R186: below 1.8 V (here in mV) the part is held in reset. -/
def resetVoltage : Nat := 1800

/-- 10 R181: the write time of a blank library, of each READY slot and of each binding, in µs. -/
def writeBase : Micros := 40000
@[inherit_doc writeBase] def writePerSlot : Micros := 6000
@[inherit_doc writeBase] def writePerBinding : Micros := 3000

/-- 10 R184: the erase of one bank lasts 30 ms. -/
def eraseTime : Micros := 30000

/-- A FREE VALUE: how many candidates the Matcher has gone through when another event reaches it,
the n-th time that this matters. 08 R140 leaves the Matcher's speed open, so nothing constrains it
(assumption log entry 6, DESIGN CHOICE). -/
opaque matcherPace : Nat → Nat

end Sys2Proof.Config
end

