-- ==== Sys2Proof/Machine/Types.lean ====
section
/-! DEFINITION. The kinds of data the part holds: intervals and templates (01), jobs and bindings (04,
06), the receiver's bursts (07), notices and replies (09, 11), images (10). Every type is plain data. -/

namespace Sys2Proof.Machine

/-! ### Intervals and templates (01) -/

/-- The kind of an interval, and the condition of the receiver's line (01 R3, 07 R121). -/
inductive IKind where
  | mark
  | space
  deriving DecidableEq, Repr

/-- An interval: a MARK or a SPACE with a duration in µs (01 R3). -/
structure Interval where
  kind : IKind
  dur : Nat
  deriving DecidableEq, Repr

/-- The duty of the carrier (01 R4, 03 R44). -/
inductive Duty where
  | half
  | third
  | quarter
  deriving DecidableEq, Repr

/-- The order in which payload bits are sent (01 R4, 02 R27). -/
inductive BitOrder where
  | lsbFirst
  | msbFirst
  deriving DecidableEq, Repr

/-- The check field of a template (01 R4, R5). -/
inductive Check where
  | none
  | invertBytes
  | sum8
  deriving DecidableEq, Repr

/-- What a template's repeat frame is (01 R4, 02 R35). -/
inductive RepeatForm where
  | none
  | full
  | marker
  deriving DecidableEq, Repr

/-- How the spacing deadline is reckoned (01 R4, 02 R39, R40). -/
inductive SpacingMode where
  | gap
  | period
  deriving DecidableEq, Repr

/-- A template record (01 R4). An absent symbol and an absent marker are empty lists (R3, R13). -/
structure Template where
  /-- 0, or the carrier frequency in units of 100 Hz -/
  carrier : Nat
  duty : Duty
  lead : List Interval
  symbols : Vector (List Interval) 4
  payloadBits : Nat
  bitOrder : BitOrder
  check : Check
  /-- absent, or a payload bit position -/
  toggle : Option Nat
  trailer : List Interval
  repeatForm : RepeatForm
  marker : List Interval
  spacingMode : SpacingMode
  spacing : Nat
  minFrames : Nat
  listen : Bool
  /-- in percent -/
  tolerance : Nat
  deriving DecidableEq, Repr

/-- A section of the template record; each symbol number is a section of its own (01 R2, R4). -/
inductive Part where
  | carrier
  | lead
  | symbol (n : Fin 4)
  | format
  | trailer
  | repetition
  | spacing
  | receive
  deriving DecidableEq, Repr

/-- What a TPL_PUT puts: the section's data, each value in its range (01 R12). -/
inductive PartData where
  | carrier (carrier : Nat) (duty : Duty)
  | lead (ivs : List Interval)
  | symbol (n : Fin 4) (ivs : List Interval)
  | format (bits : Nat) (order : BitOrder) (check : Check) (toggle : Option Nat)
  | trailer (ivs : List Interval)
  | repetition (form : RepeatForm) (marker : List Interval)
  | spacing (mode : SpacingMode) (value : Nat) (minFrames : Nat)
  | receive (listen : Bool) (tolerance : Nat)
  deriving DecidableEq, Repr

/-- The state of a template slot, with the definition it holds (01 R1). -/
inductive SlotState where
  | empty
  | draft
  | revising (kept : Template)
  | ready (t : Template)
  deriving DecidableEq, Repr

/-- The mode of a draft (01 R2). -/
inductive DraftMode where
  | new
  | revise
  deriving DecidableEq, Repr

/-- Why a commit is refused (01 R14, in its order). -/
inductive InvalidReason where
  | noSymbols
  | oddPayload
  | checkLength
  | toggleRange
  | noMark
  | badMarker
  | tooMany
  | tooLong
  deriving DecidableEq, Repr

/-- A timer: stopped, running with the moment it falls due, or paused in DOZE with the time it has
left (10 R190). -/
inductive Timer where
  | stopped
  | running (due : Nat)
  | paused (left : Nat)
  deriving DecidableEq, Repr

/-- A template slot with its reference count and toggle state (01 R1, R7, R8). -/
structure Slot where
  state : SlotState
  refs : Nat
  toggle : Bool
  deriving DecidableEq, Repr

/-- The Draft Record (01 R2). `expiry` is last touched plus 30 s (R18). -/
structure Draft where
  slot : Fin 16
  mode : DraftMode
  work : Template
  put : List Part
  expiry : Timer
  deriving DecidableEq, Repr

/-- The Code Library (01). -/
structure Library where
  slots : Vector Slot 16
  draft : Option Draft
  deriving DecidableEq, Repr

/-! ### Emitter lines, jobs and bindings (03, 04, 06) -/

/-- The setting of one emitter line (03 R49). -/
structure LineSetting where
  enabled : Bool
  /-- level LOW rather than HIGH -/
  low : Bool
  /-- drive OPEN_DRAIN rather than PUSH_PULL -/
  openDrain : Bool
  deriving DecidableEq, Repr

/-- How a pin stands (03 R49, R52). -/
inductive PinLevel where
  | drivenHigh
  | drivenLow
  | notDriven
  deriving DecidableEq, Repr

/-- The setting of the carrier generator, in steps of 62.5 ns (03 R43 to R45, R48). -/
inductive Carrier where
  | unmodulated
  | modulated (period active : Nat)
  deriving DecidableEq, Repr

/-- Where a job comes from (04 R56). -/
inductive Source where
  | host
  | key (k : Fin 8)
  deriving DecidableEq, Repr

/-- The length of a job (04 R56). -/
inductive Length where
  | count (n : Nat)
  | hold
  deriving DecidableEq, Repr

/-- The class of a job (04 R56). -/
inductive JobClass where
  | normal
  | urgent
  deriving DecidableEq, Repr

/-- The report of a job: NONE, END or BOTH (04 R56). -/
inductive Report where
  | never
  | atEnd
  | both
  deriving DecidableEq, Repr

/-- Why a job is to end (04 R66). -/
inductive PendingEnd where
  | released
  | cancelled
  | holdLimit
  deriving DecidableEq, Repr

/-- Why a job ended (04 R75). -/
inductive EndReason where
  | done
  | released
  | cancelled
  | holdLimit
  | cut
  | flushed
  deriving DecidableEq, Repr

/-- The state of a job (04 R56). -/
inductive JobState where
  | waiting
  | parked
  | current
  deriving DecidableEq, Repr

/-- What a SEND or a binding asks for: the fields they have in common (04 R60, 06 R110).
Bit k of `mask` names line Ek. -/
structure JobSpec where
  template : Fin 16
  payload : List Byte
  length : Length
  mask : BitVec 3
  cls : JobClass
  report : Report
  deriving DecidableEq, Repr

/-- A job record (04 R56), with its hold-limit expiry (05 R92). -/
structure Job where
  id : Nat
  source : Source
  spec : JobSpec
  state : JobState
  framesSent : Nat
  endPending : Option PendingEnd
  holdStarted : Option Nat
  toggleBit : Option Bool
  holdExpiry : Option Nat
  deriving DecidableEq, Repr

/-- The Emission Queue: its entries, head first, and the next-id counter (04 R58, R63). -/
structure Queue where
  jobs : List Job
  nextId : Nat
  deriving DecidableEq, Repr

/-- The state of the Emission Engine (05 R79). -/
inductive EngineState where
  | idle
  | emitting
  | spacing
  | stopped
  deriving DecidableEq, Repr

/-- The frame-in-progress position (02 R34): the interval's number, the moment it began, the frame
start (R33), and the moment at which the position stopped, at a frame end or a cut. -/
structure Position where
  index : Nat
  since : Nat
  frameStart : Nat
  stoppedAt : Option Nat
  deriving DecidableEq, Repr

/-- The Emission Engine (05 R79). `resumed` is the parked-since-last-frame mark, `emitting` the
emission activity (R80). -/
structure Engine where
  state : EngineState
  current : Option Job
  buffer : List Interval
  position : Option Position
  deadline : Timer
  resumed : Bool
  emitting : Bool
  deriving DecidableEq, Repr

/-- The kind of a rendered frame (02 R25). -/
inductive FrameKind where
  | fullFrame
  | markerFrame
  deriving DecidableEq, Repr

/-- The indicator line and its tail timer (03 R53). -/
structure Indicator where
  asserted : Bool
  tail : Timer
  deriving DecidableEq, Repr

/-- The debounced condition of a key (06 R104). -/
inductive KeyState where
  | up
  | pressing
  | down
  | releasing
  | locked
  deriving DecidableEq, Repr

/-- A key record (06 R104). -/
structure KeyRec where
  state : KeyState
  expiry : Timer
  live : Option Nat
  binding : Option JobSpec
  deriving DecidableEq, Repr

/-! ### Reception (07, 08) -/

/-- A change of RXIN that the glitch filter has not yet confirmed (07 R122). -/
structure Candidate where
  since : Nat
  due : Nat
  deriving DecidableEq, Repr

/-- The receiver state (07 R124). -/
inductive RxState where
  | off
  | quiet
  | inBurst
  | blanked
  | discard
  deriving DecidableEq, Repr

/-- A burst slot with its burst record (07 R125). -/
inductive BurstSlot where
  | free
  | filling (start : Nat) (ivs : List Interval)
  | full (start stop order : Nat) (ivs : List Interval)
  deriving DecidableEq, Repr

/-- Which of the two burst slots (07 R125). -/
inductive SlotName where
  | a
  | b
  deriving DecidableEq, Repr

/-- The Receiver Front End (07). -/
structure Receiver where
  lineHigh : Bool
  filtered : IKind
  candidate : Option Candidate
  state : RxState
  lastEdge : Nat
  burstEnd : Timer
  markLimit : Timer
  blankTail : Timer
  slotA : BurstSlot
  slotB : BurstSlot
  nextOrder : Nat
  deriving DecidableEq, Repr

/-- What a burst has been found to be (08 R142). -/
inductive MatchResult where
  | fullFrame (t : Fin 16) (payload : List Byte)
  | marker (t : Fin 16)
  deriving DecidableEq, Repr

/-- A working Matcher: its burst slot, the candidates it has not yet tried, in ascending order, and
the result once a candidate has matched (08 R140, R142). -/
structure Matching where
  slot : SlotName
  untried : List (Fin 16)
  result : Option MatchResult
  deriving DecidableEq, Repr

/-- The tracked code record of a HELD tracker (08 R149). -/
structure Tracked where
  template : Fin 16
  payload : List Byte
  toggle : Option Bool
  repeats : Nat
  deadline : Nat
  deriving DecidableEq, Repr

/-- The Receive Tracker (08 R149). -/
inductive Tracker where
  | quiet
  | held (code : Tracked)
  deriving DecidableEq, Repr

/-- The Learn Buffer with its timer and record (08 R156). -/
inductive LearnBuffer where
  | idle
  | armed (expiry : Nat)
  | filled (ivs : List Interval)
  deriving DecidableEq, Repr

/-- Why an RX session ended (08 R153). -/
inductive RxEndReason where
  | timeout
  | changed
  | gone
  deriving DecidableEq, Repr

/-- Why a burst was dropped (07 R131). -/
inductive DropReason where
  | busy
  | overflow
  | stuck
  deriving DecidableEq, Repr

/-! ### Settings, images and the store (10) -/

/-- Every setting of the part (09 R176, 11 section 11.5), each in the unit of its SET value. -/
structure Settings where
  holdLimit : Nat
  debounce : Nat
  keyEnable : BitVec 8
  keyReport : Bool
  rxEnable : Bool
  /-- RX_POLARITY is HIGH_ACTIVE -/
  rxHighActive : Bool
  rxGlitch : Nat
  rxBurstEnd : Nat
  rxBlank : Bool
  rxBlankTail : Nat
  rxWindow : Nat
  rxReportRepeats : Bool
  rxReportUnknown : Bool
  rxWake : Bool
  indTail : Nat
  lineE0 : LineSetting
  lineE1 : LineSetting
  lineE2 : LineSetting
  supplyThreshold : Nat
  doze : Bool
  dozeDelay : Nat
  deriving DecidableEq, Repr

/-- The settings by name (11 section 11.5). -/
inductive SettingId where
  | holdLimit
  | debounce
  | keyEnable
  | keyReport
  | rxEnable
  | rxPolarity
  | rxGlitch
  | rxBurstEnd
  | rxBlank
  | rxBlankTail
  | rxWindow
  | rxReportRepeats
  | rxReportUnknown
  | rxWake
  | indTail
  | lineE0
  | lineE1
  | lineE2
  | supplyThreshold
  | doze
  | dozeDelay
  deriving DecidableEq, Repr

/-- One complete image (10 R178). -/
structure Image where
  slots : Vector (Option Template) 16
  bindings : Vector (Option JobSpec) 8
  settings : Settings
  deriving DecidableEq, Repr

/-- The two image banks by name (10 R178). -/
inductive BankName where
  | a
  | b
  deriving DecidableEq, Repr

/-- An image bank (10 R178). -/
inductive Bank where
  | invalid
  | valid (generation : Nat) (image : Image)
  deriving DecidableEq, Repr

/-- What the Image Store is doing (10 section 10.2). -/
inductive StoreOp where
  | idle
  | writing (target : BankName) (generation : Nat) (done : Nat) (image : Image)
  | wiping (bank : BankName) (done : Nat) (second : Bool)
  deriving DecidableEq, Repr

/-- The Image Store (10 R178). -/
structure Store where
  bankA : Bank
  bankB : Bank
  op : StoreOp
  deriving DecidableEq, Repr

/-- The Supply Watch: VDD in mV and the supply state (10 R186). -/
structure Supply where
  vdd : Nat
  low : Bool
  deriving DecidableEq, Repr

/-- The doze state; in the wake latency, whether RXIN woke the part (10 R191). -/
inductive DozeState where
  | awake
  | dozing
  | waking (byRxin : Bool)
  deriving DecidableEq, Repr

/-- Doze Control (10 section 10.5). -/
structure Doze where
  state : DozeState
  delay : Timer
  deriving DecidableEq, Repr

/-! ### Messages (09, 11) -/

/-- The statuses of replies, and STILL_LIVE of KEY_REFUSED (11 section 11.4). -/
inductive Status where
  | ok
  | accepted
  | unknownKind
  | badLength
  | badValue
  | saving
  | draftBusy
  | noDraft
  | slotState
  | inUse
  | invalid
  | noTemplate
  | badPayload
  | badRepeat
  | badEmitter
  | queueFull
  | lowSupply
  | noJob
  | notHold
  | ending
  | notStopped
  | lineInUse
  | stillLive
  | learnBusy
  | notFilled
  deriving DecidableEq, Repr

/-- The reason a START notice carries (09 R177). -/
inductive ResetReason where
  | power
  | pin
  | restart
  deriving DecidableEq, Repr

/-- The image status a START notice carries (10 R179). -/
inductive ImageStatus where
  | loaded (bank : BankName) (generation : Nat)
  | blank
  | kept (bank : Option (BankName × Nat))
  deriving DecidableEq, Repr

/-- Why a link frame was lost (09 R165, R166). -/
inductive LinkFault where
  | truncated (bytes : Nat)
  | badCheck
  | badKind (kind tag : Byte)
  | intakeFull (kind tag : Byte)
  deriving DecidableEq, Repr

/-- The result a SAVE_DONE notice carries (10 R181, R183, R184). -/
inductive SaveResult where
  | ok (bank : BankName) (generation : Nat)
  | failedSupply (bank : BankName)
  | wiped
  deriving DecidableEq, Repr

/-- The notices, each with its fields (11 section 11.6). -/
inductive Notice where
  | start (reason : ResetReason) (image : ImageStatus)
  | jobStart (id : Nat) (source : Source) (template : Fin 16) (cls : JobClass)
      (toggle : Option Bool)
  | jobEnd (id : Nat) (source : Source) (template : Fin 16) (reason : EndReason) (frames : Nat)
  | keyEvent (key : Fin 8) (down : Bool)
  | keyRefused (key : Fin 8) (status : Status) (live : Option Nat)
  | rxCode (template : Fin 16) (toggle : Option Bool) (payload : List Byte)
  | rxRepeat (template : Fin 16) (count : Nat) (kind : FrameKind)
  | rxEnd (template : Fin 16) (reason : RxEndReason) (count : Nat) (payload : List Byte)
  | rxUnknown (count total : Nat)
  | rxDropped (reason : DropReason) (count : Nat)
  | learnDone (count total : Nat)
  | learnExpired
  | draftExpired (slot : Fin 16) (mode : DraftMode)
  | saveDone (result : SaveResult)
  | supply (low : Bool) (threshold : Nat)
  | linkFault (fault : LinkFault)
  deriving DecidableEq, Repr

/-- A request frame (09 R162); its length is the length of the payload. -/
structure Request where
  kind : Byte
  tag : Byte
  payload : List Byte
  deriving DecidableEq, Repr

/-- Whether a released or cancelled job has left the live set (04 R68). -/
inductive JobOutcome where
  | pending
  | ended
  deriving DecidableEq, Repr

/-- What a reply carries after its kind and tag: a status alone, INVALID with its reason, or the
fields of its kind (11 R194, section 11.5). The snapshot replies carry their bytes. -/
inductive ReplyBody where
  | status (st : Status)
  | invalid (reason : InvalidReason)
  /-- the OK of RESTART, which the soft reset follows (09 R175) -/
  | restarting
  | pong (data : List Byte)
  | setting (id : Byte) (value : BitVec 32)
  | saveAccepted (bank : BankName) (generation : Nat)
  /-- a section as TPL_PUT carries it (01 R20) -/
  | part (bytes : List Byte)
  | jobId (id : Nat)
  | outcome (o : JobOutcome)
  | removed (n : Nat)
  | replaced (was : Bool)
  | learnWas (state : Byte)
  | learnData (count offset : Nat) (ivs : List Interval)
  | snapshot (bytes : List Byte)
  deriving DecidableEq, Repr

/-- A reply in the reply buffer. `resent` is the RESENT flag (11 R194); `ofEntry` says that it is
the reply of the present cache entry or a copy of it (09 R168). -/
structure Reply where
  kind : Byte
  tag : Byte
  body : ReplyBody
  resent : Bool
  ofEntry : Bool
  deriving DecidableEq, Repr

/-- The reply cache's entry; `closing` is stopped while no closing moment is set (09 R168). -/
structure CacheEntry where
  request : Request
  reply : ReplyBody
  closing : Timer
  deriving DecidableEq, Repr

/-- The frame receiver with the frame being assembled (09 R164). -/
inductive HuntState where
  | hunt
  | length
  | kind (len : Nat)
  | tag (len : Nat) (kind : Byte)
  | payload (len : Nat) (kind tag : Byte) (got : List Byte)
  | check (kind tag : Byte) (payload : List Byte)
  deriving DecidableEq, Repr

/-- The Command Handler between steps: idle, or taking nothing more until the soft reset (R175). -/
inductive Handler where
  | idle
  | restarting
  deriving DecidableEq, Repr

/-- What the outbound serializer is sending: the reply at the front of the reply buffer, or the notice
at the front of the notice queue with its tag and LOST flag (09 R171, R172: each keeps its place until
its last character has been sent). -/
inductive Sending where
  | reply
  | notice (tag : Byte) (lost : Bool)
  deriving DecidableEq, Repr

/-- The Link Port and the Command Handler (09). -/
structure Link where
  receiver : HuntState
  interByte : Timer
  listenFrom : Nat
  intake : List Request
  handler : Handler
  replies : List Reply
  cache : Option CacheEntry
  notices : List Notice
  lost : Bool
  seq : Byte
  sending : Option Sending
  fast : Bool
  deriving DecidableEq, Repr

end Sys2Proof.Machine
end

