-- ==== Sys2Proof/Machine/Formats.lean ====
section
/-! DEFINITION. How the part's messages are written as bytes: the numbers of chapter 11, the reply and
notice payloads, the link frame and its CRC (09 R162, R163). -/

namespace Sys2Proof.Machine

/-! ### Numbers (11 R192: least significant byte first) -/

/-- A one-byte field. -/
def u8 (n : Nat) : Byte := BitVec.ofNat 8 n

/-- A two-byte field, least significant byte first (11 R192). -/
def u16 (n : Nat) : List Byte := [u8 n, u8 (n / 256)]

/-- A four-byte field, least significant byte first (11 R192). -/
def u32 (n : Nat) : List Byte := [u8 n, u8 (n / 256), u8 (n / 65536), u8 (n / 16777216)]

/-- A one-byte yes or no (11 section 11.4). -/
def flagByte (b : Bool) : Byte := if b then 1#8 else 0#8

/-- A one-byte field that may be absent: absent is 0xFF (11 R192). -/
def orAbsent : Option Nat → Byte
  | none => 0xFF#8
  | some n => u8 n

/-! ### Codes (11 section 11.4) -/

def Status.code : Status → Byte
  | .ok => 0x00#8
  | .accepted => 0x01#8
  | .unknownKind => 0x02#8
  | .badLength => 0x03#8
  | .badValue => 0x04#8
  | .saving => 0x05#8
  | .draftBusy => 0x10#8
  | .noDraft => 0x11#8
  | .slotState => 0x12#8
  | .inUse => 0x13#8
  | .invalid => 0x14#8
  | .noTemplate => 0x20#8
  | .badPayload => 0x21#8
  | .badRepeat => 0x22#8
  | .badEmitter => 0x23#8
  | .queueFull => 0x24#8
  | .lowSupply => 0x25#8
  | .noJob => 0x26#8
  | .notHold => 0x27#8
  | .ending => 0x28#8
  | .notStopped => 0x29#8
  | .lineInUse => 0x2A#8
  | .stillLive => 0x2B#8
  | .learnBusy => 0x30#8
  | .notFilled => 0x31#8

def InvalidReason.code : InvalidReason → Byte
  | .noSymbols => 1#8
  | .oddPayload => 2#8
  | .checkLength => 3#8
  | .toggleRange => 4#8
  | .noMark => 5#8
  | .badMarker => 6#8
  | .tooMany => 7#8
  | .tooLong => 8#8

def IKind.code : IKind → Byte
  | .mark => 0#8
  | .space => 1#8

def Duty.code : Duty → Byte
  | .half => 0#8
  | .third => 1#8
  | .quarter => 2#8

def BitOrder.code : BitOrder → Byte
  | .lsbFirst => 0#8
  | .msbFirst => 1#8

def Check.code : Check → Byte
  | .none => 0#8
  | .invertBytes => 1#8
  | .sum8 => 2#8

def RepeatForm.code : RepeatForm → Byte
  | .none => 0#8
  | .full => 1#8
  | .marker => 2#8

def SpacingMode.code : SpacingMode → Byte
  | .gap => 0#8
  | .period => 1#8

def DraftMode.code : DraftMode → Byte
  | .new => 0#8
  | .revise => 1#8

def SlotState.code : SlotState → Byte
  | .empty => 0#8
  | .draft => 1#8
  | .revising _ => 2#8
  | .ready _ => 3#8

def JobClass.code : JobClass → Byte
  | .normal => 0#8
  | .urgent => 1#8

def Source.code : Source → Nat
  | .host => 0
  | .key k => k.val + 1

def JobState.code : JobState → Nat
  | .waiting => 0
  | .parked => 1
  | .current => 2

/-- The numbers of end pending, absent 0 (11 section 11.4). -/
def pendingCode : Option PendingEnd → Nat
  | none => 0
  | some .released => 1
  | some .cancelled => 2
  | some .holdLimit => 3

def EngineState.code : EngineState → Byte
  | .idle => 0#8
  | .emitting => 1#8
  | .spacing => 2#8
  | .stopped => 3#8

def KeyState.code : KeyState → Byte
  | .up => 0#8
  | .pressing => 1#8
  | .down => 2#8
  | .releasing => 3#8
  | .locked => 4#8

def RxState.code : RxState → Byte
  | .off => 0#8
  | .quiet => 1#8
  | .inBurst => 2#8
  | .blanked => 3#8
  | .discard => 4#8

def BurstSlot.code : BurstSlot → Byte
  | .free => 0#8
  | .filling .. => 1#8
  | .full .. => 2#8

def LearnBuffer.code : LearnBuffer → Byte
  | .idle => 0#8
  | .armed _ => 1#8
  | .filled _ => 2#8

def StoreOp.code : StoreOp → Byte
  | .idle => 0#8
  | .writing .. => 1#8
  | .wiping .. => 2#8

def BankName.code : BankName → Byte
  | .a => 0#8
  | .b => 1#8

def JobOutcome.code : JobOutcome → Byte
  | .pending => 0#8
  | .ended => 1#8

def EndReason.code : EndReason → Byte
  | .done => 0#8
  | .released => 1#8
  | .cancelled => 2#8
  | .holdLimit => 3#8
  | .cut => 4#8
  | .flushed => 5#8

def FrameKind.code : FrameKind → Byte
  | .fullFrame => 0#8
  | .markerFrame => 1#8

def RxEndReason.code : RxEndReason → Byte
  | .timeout => 0#8
  | .changed => 1#8
  | .gone => 2#8

def DropReason.code : DropReason → Byte
  | .busy => 0#8
  | .overflow => 1#8
  | .stuck => 2#8

def ResetReason.code : ResetReason → Byte
  | .power => 0#8
  | .pin => 1#8
  | .restart => 2#8

/-- A toggle bit that may be absent (11 section 11.6). -/
def toggleByte : Option Bool → Byte
  | none => 0xFF#8
  | some b => flagByte b

/-! ### Interval lists and sections (11 R193, section 11.5) -/

/-- An interval list as the part sends it: kind byte, count byte and durations; an empty list has
kind 0 (11 R193). -/
def listBytes (ivs : List Interval) : List Byte :=
  (match ivs with
    | [] => 0#8
    | iv :: _ => iv.kind.code) :: u8 ivs.length :: ivs.flatMap fun iv => u16 iv.dur

/-- A section of a template exactly as TPL_PUT carries it (01 R20, 11 section 11.5). -/
def Template.partBytes (t : Template) : Part → List Byte
  | .carrier => 0#8 :: u16 t.carrier ++ [t.duty.code]
  | .lead => 1#8 :: listBytes t.lead
  | .symbol n => 2#8 :: u8 n.val :: listBytes t.symbols[n]
  | .format => [3#8, u8 t.payloadBits, t.bitOrder.code, t.check.code, orAbsent t.toggle]
  | .trailer => 4#8 :: listBytes t.trailer
  | .repetition => 5#8 :: t.repeatForm.code :: listBytes t.marker
  | .spacing => 6#8 :: t.spacingMode.code :: u32 t.spacing ++ [u8 t.minFrames]
  | .receive => [7#8, flagByte t.listen, u8 t.tolerance]

/-- The bit of a section in the sections put set of TPL_STATUS (11 section 11.5). -/
def Part.bit : Part → Nat
  | .carrier => 0
  | .lead => 1
  | .symbol n => 2 + n.val
  | .format => 6
  | .trailer => 7
  | .repetition => 8
  | .spacing => 9
  | .receive => 10

/-- The sections put set as a number, a bit for each section (11 section 11.5). -/
def putMask (put : List Part) : Nat := put.foldl (fun acc p => acc ||| 2 ^ p.bit) 0

/-! ### Job summaries (04 R76, 11 section 11.5) -/

/-- The length byte of a job summary: 0 for HOLD, otherwise n. -/
def Length.code : Length → Nat
  | .hold => 0
  | .count n => n

/-- The five bytes of a job summary (11 section 11.5). -/
def Job.summary (j : Job) : List Byte :=
  [ u8 j.id,
    u8 (j.source.code + 16 * (match j.spec.cls with | .normal => 0 | .urgent => 1)
      + 32 * j.spec.mask.toNat),
    u8 (j.spec.template.val + 16 * j.state.code + 64 * pendingCode j.endPending),
    u8 j.spec.length.code,
    u8 j.framesSent ]

/-! ### Notice and reply payloads (11 sections 11.5 and 11.6) -/

/-- The image status, bank and generation of a START notice (11 section 11.6). -/
def ImageStatus.bytes : ImageStatus → List Byte
  | .loaded bank gen => 0#8 :: bank.code :: u32 gen
  | .blank => 1#8 :: 0xFF#8 :: u32 0
  | .kept (some (bank, gen)) => 2#8 :: bank.code :: u32 gen
  | .kept none => 2#8 :: 0xFF#8 :: u32 0

/-- The kind byte of a notice (11 section 11.3). -/
def Notice.kind : Notice → Byte
  | .start .. => 0x40#8
  | .jobStart .. => 0x41#8
  | .jobEnd .. => 0x42#8
  | .keyEvent .. => 0x43#8
  | .keyRefused .. => 0x44#8
  | .rxCode .. => 0x48#8
  | .rxRepeat .. => 0x49#8
  | .rxEnd .. => 0x4A#8
  | .rxUnknown .. => 0x4B#8
  | .rxDropped .. => 0x4C#8
  | .learnDone .. => 0x4D#8
  | .learnExpired => 0x4E#8
  | .draftExpired .. => 0x50#8
  | .saveDone .. => 0x51#8
  | .supply .. => 0x52#8
  | .linkFault .. => 0x53#8

/-- The fields of a notice after its flags byte (11 section 11.6). -/
def Notice.fields : Notice → List Byte
  | .start reason image => reason.code :: image.bytes
  | .jobStart id source template cls toggle =>
      [u8 id, u8 source.code, u8 template.val, cls.code, toggleByte toggle]
  | .jobEnd id source template reason frames =>
      [u8 id, u8 source.code, u8 template.val, reason.code, u8 frames]
  | .keyEvent key down => [u8 key.val, flagByte !down]
  | .keyRefused key status live => [u8 key.val, status.code, u8 (live.getD 0)]
  | .rxCode template toggle payload => u8 template.val :: toggleByte toggle :: payload
  | .rxRepeat template count kind => u8 template.val :: u16 count ++ [kind.code]
  | .rxEnd template reason count payload => u8 template.val :: reason.code :: u16 count ++ payload
  | .rxUnknown count total => u8 count :: u32 total
  | .rxDropped reason count => [reason.code, u8 count]
  | .learnDone count total => u8 count :: u32 total
  | .learnExpired => []
  | .draftExpired slot mode => [u8 slot.val, mode.code]
  | .saveDone (.ok bank gen) => 0#8 :: bank.code :: u32 gen
  | .saveDone (.failedSupply bank) => 1#8 :: bank.code :: u32 0
  | .saveDone .wiped => 2#8 :: 0xFF#8 :: u32 0
  | .supply low threshold => [flagByte low, u8 threshold]
  | .linkFault (.truncated bytes) => [0#8, u8 bytes, 0#8]
  | .linkFault .badCheck => [1#8, 0#8, 0#8]
  | .linkFault (.badKind kind tag) => [2#8, kind, tag]
  | .linkFault (.intakeFull kind tag) => [3#8, kind, tag]

/-- The payload of a notice: the flags byte with the LOST flag in bit 0 (11 R194), then the fields. -/
def Notice.payload (n : Notice) (lost : Bool) : List Byte := flagByte lost :: n.fields

/-- The status of a reply (09 R167). -/
def ReplyBody.statusOf : ReplyBody → Status
  | .status st => st
  | .invalid _ => .invalid
  | .saveAccepted .. => .accepted
  | .restarting | .pong _ | .setting .. | .part _ | .jobId _ | .outcome _ | .removed _ | .replaced _
  | .learnWas _ | .learnData .. | .snapshot _ => .ok

/-- The bytes of a reply after its status byte (11 section 11.5). -/
def ReplyBody.fields : ReplyBody → List Byte
  | .status _ | .restarting => []
  | .invalid reason => [reason.code]
  | .pong data => 0x18#8 :: 0x03#8 :: data
  | .setting id value => id :: u32 value.toNat
  | .saveAccepted bank gen => bank.code :: u32 gen
  | .part bytes => bytes
  | .jobId id => [u8 id]
  | .outcome o => [o.code]
  | .removed n => [u8 n]
  | .replaced was => [flagByte was]
  | .learnWas state => [state]
  | .learnData count offset ivs => u8 count :: u8 offset :: listBytes ivs
  | .snapshot bytes => bytes

/-- The payload of a reply: the status byte with the RESENT flag in bit 7 (11 R194), then the
fields. -/
def Reply.payload (r : Reply) : List Byte :=
  (r.body.statusOf.code ||| (if r.resent then 0x80#8 else 0#8)) :: r.body.fields

/-! ### The link frame (09 R162, R163) -/

/-- One shift of the CRC register: left by one place, and 0x07 by exclusive-or when the bit shifted
out was 1 (09 R163). -/
def crcShift (r : Byte) : Byte := if r.msb then (r <<< 1) ^^^ 0x07#8 else r <<< 1

/-- One covered byte into the CRC register: exclusive-or, then eight shifts (09 R163). -/
def crcByte (r b : Byte) : Byte := Nat.iterate crcShift 8 (r ^^^ b)

/-- The check byte over the covered bytes: the register starts at 0xFF (09 R163). -/
def crc (bytes : List Byte) : Byte := bytes.foldl crcByte 0xFF#8

/-- The check byte of a frame: over the length byte, the kind, the tag and the payload (R163). -/
def frameCheck (kind tag : Byte) (payload : List Byte) : Byte :=
  crc (u8 payload.length :: kind :: tag :: payload)

/-- A whole link frame as bytes (09 R162, 11 section 11.1). -/
def frameBytes (kind tag : Byte) (payload : List Byte) : List Byte :=
  Config.startByte :: u8 payload.length :: kind :: tag :: payload ++ [frameCheck kind tag payload]

/-- The link frame of a reply (09 R167 step 5, R162). -/
def Reply.frame (r : Reply) : List Byte := frameBytes r.kind r.tag r.payload

/-- The link frame of a notice with its tag and LOST flag (09 R171, R162). -/
def Notice.frame (n : Notice) (tag : Byte) (lost : Bool) : List Byte :=
  frameBytes n.kind tag (n.payload lost)

/-- The bytes of the frame that the outbound serializer is sending on TXD, if it sends one (09 R172). -/
def Link.frame (l : Link) : Option (List Byte) :=
  match l.sending with
  | none => none
  | some .reply => l.replies.head?.map Reply.frame
  | some (.notice tag lost) => l.notices.head?.map fun n => n.frame tag lost

end Sys2Proof.Machine
end

