-- ==== Sys2Proof/Machine/State.lean ====
section
/-! DEFINITION. The state of the part, every field plain data; the reasons a step can stop; and the
state right after a power-on reset. -/

namespace Sys2Proof.Machine

/-- The reasons the machine stops with a fault: none. No rule of the spec stops the part: a refused
request is answered, a bad frame is reported by a notice, and the part goes on. -/
inductive Fault where
  deriving DecidableEq, Repr

/-- The reasons a command is refused. -/
inductive Refusal where
  /-- Raised by an arm of `exec` whose command has no meaning yet; no arm is. Safe: the machine
  stops. -/
  | notModelled (mnemonic : String)
  deriving DecidableEq, Repr

/-- The state of the FOLMAND F318, block by block. INVENTORY.md names each field's rule. -/
structure State where
  /-- the moment at which the present command is taken, in µs -/
  now : Nat
  /-- RESETn stands low (the pin table of 00; 03 R52) -/
  resetLow : Bool
  settings : Settings
  lib : Library
  queue : Queue
  engine : Engine
  carrier : Carrier
  ind : Indicator
  keys : Vector KeyRec 8
  kLines : BitVec 8
  rx : Receiver
  matcher : Option Matching
  tracker : Tracker
  learn : LearnBuffer
  link : Link
  store : Store
  supply : Supply
  doze : Doze
  /-- the MODEL's own: how many free values have been used (assumption log entry 6, DESIGN CHOICE) -/
  freeUses : Nat
  /-- the MODEL's own: the commands that wait, first in, first out -/
  pending : List Instr
  deriving DecidableEq, Repr

/-- The defaults of the settings (03 R49, R53; 05 R92; 06 R104; 07 R123; 08 R139; 10 R186, R188). -/
def Settings.defaults : Settings where
  holdLimit := 15
  debounce := 16
  keyEnable := 0xFF#8
  keyReport := true
  rxEnable := true
  rxHighActive := false
  rxGlitch := 40
  rxBurstEnd := 12
  rxBlank := true
  rxBlankTail := 5
  rxWindow := 150
  rxReportRepeats := false
  rxReportUnknown := false
  rxWake := false
  indTail := 100
  lineE0 := ⟨true, false, false⟩
  lineE1 := ⟨false, false, false⟩
  lineE2 := ⟨false, false, false⟩
  supplyThreshold := 24
  doze := false
  dozeDelay := 100

/-- The part right after a power-on reset with no VALID bank (01 R23, 03 R45, R55, 04 R78, 05 R103,
06 R120, 07 R138, 08 R149, R156, 09 R177, 10 R179, R186, R189): BLANK is reported by a START notice,
which is being sent. The pins stand as assumption log entry 8 says (DESIGN CHOICE). -/
def State.reset : State where
  now := 0
  resetLow := false
  settings := Settings.defaults
  lib := { slots := Vector.replicate 16 ⟨.empty, 0, false⟩, draft := none }
  queue := { jobs := [], nextId := 1 }
  engine :=
    { state := .idle, current := none, buffer := [], position := none, deadline := .stopped,
      resumed := false, emitting := false }
  carrier := .modulated 421 140
  ind := { asserted := false, tail := .stopped }
  keys := Vector.replicate 8 ⟨.up, .stopped, none, none⟩
  kLines := 0xFF#8
  rx :=
    { lineHigh := true, filtered := .space, candidate := none, state := .quiet, lastEdge := 0,
      burstEnd := .stopped, markLimit := .stopped, blankTail := .stopped, slotA := .free,
      slotB := .free, nextOrder := 0 }
  matcher := none
  tracker := .quiet
  learn := .idle
  link :=
    { receiver := .hunt, interByte := .stopped, listenFrom := 0, intake := [], handler := .idle,
      replies := [], cache := none, notices := [.start .power .blank], lost := false, seq := 0#8,
      sending := some (.notice 0#8 false), fast := false }
  store := { bankA := .invalid, bankB := .invalid, op := .idle }
  supply := { vdd := 3000, low := false }
  doze := { state := .awake, delay := .stopped }
  freeUses := 0
  pending := []

end Sys2Proof.Machine
end

