-- ==== Sys2Proof/Machine/Ops.lean ====
section
/-! DEFINITION. The operations that several blocks share: time and timers, the hold in reset (10 R186), posting a notice and
starting the serializer (09 R170 to R172), reference counts (01 R7), and the bookkeeping of a job that
leaves the live set (04 R74). -/

namespace Sys2Proof.Machine

/-! ### Time and timers -/

/-- `dt` µs pass before the command is taken (assumption log entry 1, DESIGN CHOICE). -/
def State.advance (dt : Nat) (s : State) : State := { s with now := s.now + dt }

/-- Whether a timer is running and has fallen due. -/
def Timer.isDue (t : Timer) (now : Nat) : Bool :=
  match t with
  | .running due => decide (due ≤ now)
  | .stopped | .paused _ => false

/-- Whether a timer is running. -/
def Timer.isRunning : Timer → Bool
  | .running _ => true
  | .stopped | .paused _ => false

/-- 10 R190: a running timer is paused with its time remaining. -/
def Timer.pause (t : Timer) (now : Nat) : Timer :=
  match t with
  | .running due => .paused (due - now)
  | .stopped => .stopped
  | .paused left => .paused left

/-- 10 R190: a paused timer resumes with the time it had remaining. -/
def Timer.resume (t : Timer) (now : Nat) : Timer :=
  match t with
  | .paused left => .running (now + left)
  | .stopped => .stopped
  | .running due => .running due

/-- The µs left on a timer. -/
def Timer.left (t : Timer) (now : Nat) : Nat :=
  match t with
  | .running due => due - now
  | .stopped => 0
  | .paused left => left

/-- The sum of an interval list's durations. -/
def total (ivs : List Interval) : Nat := (ivs.map Interval.dur).sum

/-- How many parts of a size a length fills, the last one possibly in part. -/
def ceilDiv (n d : Nat) : Nat := (n + d - 1) / d

/-! ### The hold in reset -/

/-- 10 R186, 03 R52: the part is held in reset while RESETn is low and while VDD is below 1.8 V. -/
def State.heldInReset (s : State) : Bool := s.resetLow || decide (s.supply.vdd < Config.resetVoltage)

/-! ### The outbound side of the link (09 R170 to R172) -/

/-- 09 R172: an idle serializer starts the oldest unsent reply, otherwise the front notice, which is
given its tag and its LOST flag now (R171). A sending serializer goes on. -/
def Link.startNext (l : Link) : Link :=
  match l.sending with
  | some _ => l
  | none =>
    match l.replies with
    | _ :: _ => { l with sending := some .reply }
    | [] =>
      match l.notices with
      | _ :: _ => { l with sending := some (.notice l.seq l.lost), lost := false }
      | [] => l

/-- 09 R170: a notice joins the back of the notice queue, or is dropped and sets the lost marker. -/
def Link.post (n : Notice) (l : Link) : Link :=
  if l.notices.length < Config.noticeRoom then
    Link.startNext { l with notices := l.notices ++ [n] }
  else { l with lost := true }

/-- 09 R170: a block posts a notice. -/
def State.post (n : Notice) (s : State) : State := { s with link := s.link.post n }

/-! ### Reference counts (01 R7) -/

/-- 01 R7: a claim of +1 on a template. -/
def Library.claim (t : Fin 16) (l : Library) : Library :=
  { l with slots := l.slots.set t { l.slots[t] with refs := l.slots[t].refs + 1 } }

/-- 01 R7: a claim of −1 on a template. -/
def Library.unclaim (t : Fin 16) (l : Library) : Library :=
  { l with slots := l.slots.set t { l.slots[t] with refs := l.slots[t].refs - 1 } }

/-- The definition a slot holds: of a READY slot, and the retained one of a REVISING slot (01 R1). -/
def SlotState.definition : SlotState → Option Template
  | .ready t => some t
  | .revising t => some t
  | .empty | .draft => none

/-- The definition that a READY slot holds, which is what jobs, bindings and the Matcher may use
(01 R1). -/
def SlotState.usable : SlotState → Option Template
  | .ready t => some t
  | .revising _ | .empty | .draft => none

/-- The template of a live job. 01 R7: it is READY. -/
def State.templateOf (s : State) (t : Fin 16) : Option Template := s.lib.slots[t].state.usable

/-! ### Jobs (04) -/

/-- 04 R56: the minimum of a job: its template's min frames for HOLD, 1 for COUNT. -/
def State.minimum (s : State) (j : Job) : Nat :=
  match j.spec.length with
  | .count _ => 1
  | .hold =>
    match s.templateOf j.spec.template with
    | some t => t.minFrames
    | none => 1

/-- 04 R56: a job has reached its minimum. -/
def State.reachedMin (s : State) (j : Job) : Bool := decide (s.minimum j ≤ j.framesSent)

/-- 04 R75: the JOB_END reason of an end pending reason. -/
def PendingEnd.reason : PendingEnd → EndReason
  | .released => .released
  | .cancelled => .cancelled
  | .holdLimit => .holdLimit

/-- 06 R114: the Key Scanner clears the live job id of the key named by the job's source, when it
equals the job's id. -/
def clearLive (j : Job) (keys : Vector KeyRec 8) : Vector KeyRec 8 :=
  match j.source with
  | .host => keys
  | .key k =>
    if keys[k].live = some j.id then keys.set k { keys[k] with live := none } else keys

/-- 04 R74 step 3: JOB_END is posted when the job's report is END or BOTH. -/
def Link.postJobEnd (j : Job) (reason : EndReason) (l : Link) : Link :=
  match j.spec.report with
  | .never => l
  | .atEnd | .both => l.post (.jobEnd j.id j.source j.spec.template reason j.framesSent)

/-- 04 R74: the bookkeeping of a job that leaves the live set: −1 on its template's reference count,
the key's live job id, and JOB_END if the report asks for it. -/
def State.jobLeaves (j : Job) (reason : EndReason) (s : State) : State :=
  { s with
    lib := s.lib.unclaim j.spec.template
    keys := clearLive j s.keys
    link := s.link.postJobEnd j reason }

/-! ### The supply and the oscillator -/

/-- Whether the oscillator runs (10 section 10.5). -/
def State.isAwake (s : State) : Bool := decide (s.doze.state = .awake)

end Sys2Proof.Machine
end

