-- ==== Sys2Proof/Machine/Render.lean ====
section
/-! DEFINITION. Frame Rendering (02): how a template, a payload and a toggle bit become the interval
list of a frame, and how the spacing deadline after a frame is reckoned. -/

namespace Sys2Proof.Machine

/-! ### The encoded bit sequence (02 section 2.2) -/

/-- 02 R26: payload bit i is bit (i mod 8) of payload byte (i div 8). -/
def payloadBit (payload : List Byte) (i : Nat) : Bool := (payload.getD (i / 8) 0#8).getLsbD (i % 8)

/-- 02 R27: the payload's bits from bit 0 up, with the toggle bit in its place. -/
def toggledBits (t : Template) (payload : List Byte) (toggleBit : Bool) : List Bool :=
  (List.range t.payloadBits).map fun i =>
    if t.toggle = some i then toggleBit else payloadBit payload i

/-- A list of bits in a bit order, given from bit 0 up (02 R27). -/
def BitOrder.arrange (o : BitOrder) (bits : List Bool) : List Bool :=
  match o with
  | .lsbFirst => bits
  | .msbFirst => bits.reverse

/-- The first `n` groups of eight bits of a sequence. -/
def octets (n : Nat) (bits : List Bool) : List (List Bool) :=
  (List.range n).map fun j => (bits.drop (8 * j)).take 8

/-- The value of bits given from bit 0 up. -/
def bitsValue : List Bool → Nat
  | [] => 0
  | b :: rest => b.toNat + 2 * bitsValue rest

/-- The eight bits of a value from bit 0 up. -/
def bitsOfByte (n : Nat) : List Bool := (List.range 8).map fun i => n.testBit i

/-- 02 R29: the check byte of SUM8: the sum of the payload bytes modulo 256. The bits are the
payload's, from bit 0 up, a whole number of bytes. -/
def sumByte (bits : List Bool) : Nat :=
  ((octets (bits.length / 8) bits).map bitsValue).sum % 256

/-- 02 R27 to R29: the encoded bit sequence of a payload given as bits from bit 0 up. -/
def encodeBits (order : BitOrder) (check : Check) (bits : List Bool) : List Bool :=
  let seq := order.arrange bits
  match check with
  | .none => seq
  | .invertBytes => (octets (bits.length / 8) seq).flatMap fun g => g ++ g.map (!·)
  | .sum8 => seq ++ order.arrange (bitsOfByte (sumByte bits))

/-! ### Symbols, lead and trailer (02 section 2.3) -/

/-- 01 R5: the symbol count of a template: 2, 4, or none that can be committed. -/
def Template.symbolCount (t : Template) : Option Nat :=
  match t.symbols[0].isEmpty, t.symbols[1].isEmpty, t.symbols[2].isEmpty, t.symbols[3].isEmpty with
  | false, false, true, true => some 2
  | false, false, false, false => some 4
  | _, _, _, _ => none

/-- 01 R5: bits per symbol. -/
def Template.bitsPerSymbol (t : Template) : Nat := if t.symbolCount = some 4 then 2 else 1

/-- The symbol with an index; indices above 3 do not arise (02 R30). -/
def Template.symbol (t : Template) (i : Nat) : List Interval :=
  if h : i < 4 then t.symbols[i] else []

/-- 02 R30 for 4 symbols: each step takes two bits, the first the high bit of the index. -/
def pairIndices : List Bool → List Nat
  | hi :: lo :: rest => (2 * hi.toNat + lo.toNat) :: pairIndices rest
  | _ => []

/-- 02 R30: the symbol indices that an encoded bit sequence places. -/
def Template.steps (t : Template) (bits : List Bool) : List Nat :=
  if t.symbolCount = some 4 then pairIndices bits else bits.map Bool.toNat

/-- 02 R31: the raw list of a full frame: lead, symbols, trailer. -/
def Template.rawFrame (t : Template) (bits : List Bool) : List Interval :=
  t.lead ++ (t.steps bits).flatMap t.symbol ++ t.trailer

/-! ### Merging and dropping (02 section 2.4) -/

/-- 02 R32: adjacent intervals of one kind become one interval of the summed duration. -/
def merge (raw : List Interval) : List Interval :=
  raw.foldr
    (fun iv done =>
      match done with
      | next :: rest =>
        if iv.kind = next.kind then { kind := iv.kind, dur := iv.dur + next.dur } :: rest
        else iv :: next :: rest
      | [] => [iv])
    []

/-- 02 R33: a SPACE that stands first is dropped. -/
def dropLeading : List Interval → List Interval
  | iv :: rest => if iv.kind = .space then rest else iv :: rest
  | [] => []

/-- 02 R33: a SPACE that stands last is dropped. -/
def dropTrailing (ivs : List Interval) : List Interval := (dropLeading ivs.reverse).reverse

/-- 02 R32, R33: a raw list becomes the rendered frame. -/
def render (raw : List Interval) : List Interval := dropTrailing (dropLeading (merge raw))

/-- 02 R27 to R33: a full frame of a payload given as bits from bit 0 up, toggle in place. -/
def Template.frameOfBits (t : Template) (bits : List Bool) : List Interval :=
  render (t.rawFrame (encodeBits t.bitOrder t.check bits))

/-- 02 R25: a full frame of a payload with a toggle bit. -/
def Template.fullFrame (t : Template) (payload : List Byte) (toggleBit : Bool) : List Interval :=
  t.frameOfBits (toggledBits t payload toggleBit)

/-- 02 R36: the marker frame. -/
def Template.markerFrame (t : Template) : List Interval := render t.marker

/-! ### Spacing (02 section 2.7) -/

/-- 02 R39, R40: the spacing deadline after a frame of this template. -/
def Template.deadline (t : Template) (frameStart frameEnd : Nat) : Nat :=
  match t.spacingMode with
  | .gap => frameEnd + t.spacing
  | .period => max (frameStart + t.spacing) (frameEnd + Config.minSpace)

/-! ### The carrier (03 section 3.1) -/

/-- 03 R43: the carrier period in steps of 62.5 ns: the whole number nearest to
16,000,000 ÷ (c × 100), the longer one when it lies halfway. -/
def carrierPeriod (c : Nat) : Nat := (32000000 + c * 100) / (2 * (c * 100))

/-- 03 R44: the active part of a period. -/
def Duty.active (d : Duty) (period : Nat) : Nat :=
  match d with
  | .half => period / 2
  | .third => period / 3
  | .quarter => period / 4

/-- 03 R43 to R45, R48: the carrier generator's setting for a template. -/
def Template.carrierSetting (t : Template) : Carrier :=
  if t.carrier = 0 then .unmodulated
  else .modulated (carrierPeriod t.carrier) (t.duty.active (carrierPeriod t.carrier))

/-- 03 R46 to R48: whether a line of the mask stands at its active level in the `step`-th step of
62.5 ns of a mark: the active part comes first in each period; unmodulated, always. -/
def Carrier.isActive (c : Carrier) (step : Nat) : Bool :=
  match c with
  | .unmodulated => true
  | .modulated period active => decide (step % period < active)

/-- 03 R47: the number of active pulses in a mark of `d` µs: the whole quotient of 16 × d by the
period, plus 1 when a remainder is left. -/
def pulses (period d : Nat) : Nat :=
  16 * d / period + (if 16 * d % period = 0 then 0 else 1)

end Sys2Proof.Machine
end

