-- ==== Sys2Proof/Machine/Matcher.lean ====
section
/-! DEFINITION. The Matcher, the Receive Tracker and the Learn Buffer's diversion (08): how a burst is
decoded against a template, what a take and a matching end do, and how a session is followed. -/

namespace Sys2Proof.Machine

/-! ### Decoding a full frame (08 section 8.2) -/

/-- 08 R144: the cursor of a full-frame trial, with the residue of the burst interval it stands in
and the intervals after it. -/
inductive Cursor where
  | leading (burst : List Interval)
  | inside (kind : IKind) (residue : Nat) (rest : List Interval)
  | trailing
  deriving DecidableEq, Repr

/-- 08 R144: a consumed residue moves the cursor to the next burst interval, or to the trailing
space. -/
def Cursor.next : List Interval → Cursor
  | [] => .trailing
  | iv :: rest => .inside iv.kind iv.dur rest

/-- 08 R145: a duration differs from the expected one by no more than the tolerance. -/
def within (tolerance expected got : Nat) : Bool :=
  decide ((got - expected + (expected - got)) * 100 ≤ expected * tolerance)

/-- 08 R145: a burst interval of kind `k` and residue `r` against an expected interval. `goesOn` holds the
kinds with which the frame may go on after it; a split is kept only when one of them is its own kind
(assumption log entry 15, DEDUCED). -/
def matchInside (tolerance : Nat) (goesOn : List IKind) (e : Interval) (k : IKind) (r : Nat)
    (rest : List Interval) : Option Cursor :=
  if e.kind ≠ k then none
  else if within tolerance e.dur r then some (Cursor.next rest)
  else if e.dur < r ∧ e.kind ∈ goesOn then some (.inside k (r - e.dur) rest)
  else none

/-- 08 R145: one expected interval at the cursor; `goesOn` is empty when it has no successor (R144). -/
def matchOne (tolerance : Nat) (goesOn : List IKind) (e : Interval) : Cursor → Option Cursor
  | .trailing => if e.kind = .space then some .trailing else none
  | .inside k r rest => matchInside tolerance goesOn e k r rest
  | .leading burst =>
    if e.kind = .space then some (.leading burst)
    else
      match burst with
      | iv :: rest => matchInside tolerance goesOn e iv.kind iv.dur rest
      | [] => none

/-- 08 R144, R146: a list of expected intervals in order; only its last one may have a successor. -/
def matchList (tolerance : Nat) (goesOn : List IKind) : List Interval → Cursor → Option Cursor
  | [], c => some c
  | e :: rest, c =>
    (matchOne tolerance (if rest.isEmpty then goesOn else []) e c).bind
      (matchList tolerance goesOn rest)

/-- The kind with which an interval list begins. -/
def opening (ivs : List Interval) : List IKind := (ivs.head?.map Interval.kind).toList

/-- The symbol indices of a template, in order (08 R146). -/
def Template.indices (t : Template) : List Nat := List.range (if t.symbolCount = some 4 then 4 else 2)

/-- The kinds with which a step may begin: those of the template's symbols. -/
def Template.openings (t : Template) : List IKind := t.indices.flatMap fun i => opening (t.symbol i)

/-- 08 R146: the first symbol all of whose intervals are accepted, and the cursor after it. -/
def trySymbols (t : Template) (goesOn : List IKind) (c : Cursor) : Option (Nat × Cursor) :=
  t.indices.findSome? fun i =>
    (matchList t.tolerance goesOn (t.symbol i) c).map fun c' => (i, c')

/-- 08 R146: the steps of a frame. After a step comes the next one, and after the last one the trailer: the
last interval of the last step has a successor only when the trailer is not empty (R144). -/
def walkSteps (t : Template) : Nat → Cursor → Option (List Nat × Cursor)
  | 0, c => some ([], c)
  | n + 1, c =>
    (trySymbols t (if n = 0 then opening t.trailer else t.openings) c).bind fun (i, c') =>
      (walkSteps t n c').map fun (is, c'') => (i :: is, c'')

/-- 01 R5: the number of encoded bits of a frame. -/
def Template.encodedBits (t : Template) : Nat :=
  match t.check with
  | .none => t.payloadBits
  | .invertBytes => 2 * t.payloadBits
  | .sum8 => t.payloadBits + 8

/-- 01 R5: the number of steps of a frame. -/
def Template.stepCount (t : Template) : Nat := t.encodedBits / t.bitsPerSymbol

/-- 08 R147: the received encoded bit sequence of the symbols found. -/
def Template.receivedBits (t : Template) (symbols : List Nat) : List Bool :=
  if t.symbolCount = some 4 then symbols.flatMap fun i => [decide (2 ≤ i), decide (i % 2 = 1)]
  else symbols.map fun i => decide (i = 1)

/-- 08 R147: the payload bits, from bit 0 up, when the check verifies. -/
def splitCheck (t : Template) (bits : List Bool) : Option (List Bool) :=
  match t.check with
  | .none => some (t.bitOrder.arrange bits)
  | .invertBytes =>
    let groups := octets (bits.length / 8) bits
    let firsts := everyOther groups
    let seconds := everyOther (groups.drop 1)
    if seconds = firsts.map (fun g => g.map (!·)) then some (t.bitOrder.arrange firsts.flatten)
    else none
  | .sum8 =>
    let payload := t.bitOrder.arrange (bits.take t.payloadBits)
    if t.bitOrder.arrange (bits.drop t.payloadBits) = bitsOfByte (sumByte payload) then some payload
    else none
where
  /-- every other element of a list, the first one included -/
  everyOther : List (List Bool) → List (List Bool)
    | x :: _ :: rest => x :: everyOther rest
    | [x] => [x]
    | [] => []

/-- 08 R147: bits from bit 0 up as payload bytes, with zeros above the payload length. -/
def bytesOfBits (bits : List Bool) : List Byte :=
  (octets (ceilDiv bits.length 8) bits).map fun g => BitVec.ofNat 8 (bitsValue g)

/-- 08 R144 to R147: the full-frame trial of a burst on a template: the received payload. -/
def fullFrameTrial (t : Template) (burst : List Interval) : Option (List Byte) :=
  ((matchList t.tolerance t.openings t.lead (.leading burst)).bind fun c =>
    (walkSteps t t.stepCount c).bind fun (symbols, c') =>
      (matchList t.tolerance [] t.trailer c').bind fun c'' =>
        if c'' = .trailing then splitCheck t (t.receivedBits symbols) else none).map bytesOfBits

/-- 08 R148: the marker trial of a burst on a template. -/
def markerTrial (t : Template) (burst : List Interval) : Bool :=
  decide (burst.length = t.markerFrame.length)
    && (List.zip burst t.markerFrame).all fun (got, e) =>
        decide (got.kind = e.kind) && within t.tolerance e.dur got.dur

/-! ### The trials of a burst (08 section 8.1) -/

/-- Whether the tracker is HELD on a template (08 R149). -/
def Tracker.heldOn (tr : Tracker) (t : Fin 16) : Bool :=
  match tr with
  | .quiet => false
  | .held code => decide (code.template = t)

/-- 08 R142: one candidate: the full-frame trial, then the marker trial, which counts only while the
tracker is HELD on the template. -/
def tryCandidate (s : State) (burst : List Interval) (t : Fin 16) : Option MatchResult :=
  match s.templateOf t with
  | none => none
  | some d =>
    match fullFrameTrial d burst with
    | some payload => some (.fullFrame t payload)
    | none =>
      if d.repeatForm = .marker ∧ s.tracker.heldOn t ∧ markerTrial d burst then some (.marker t)
      else none

/-- 08 R142: the Matcher goes through at most `n` more candidates; it stops at the first match. -/
def runTrials (s : State) (burst : List Interval) : Nat → Matching → Matching
  | 0, m => m
  | n + 1, m =>
    match m.result, m.untried with
    | none, t :: rest =>
      runTrials s burst n { m with untried := rest, result := tryCandidate s burst t }
    | _, _ => m

/-- The burst slot of a name (07 R125). -/
def Receiver.slot (rx : Receiver) : SlotName → BurstSlot
  | .a => rx.slotA
  | .b => rx.slotB

/-- A burst slot takes a new state (07 R125). -/
def Receiver.setSlot (rx : Receiver) (n : SlotName) (b : BurstSlot) : Receiver :=
  match n with
  | .a => { rx with slotA := b }
  | .b => { rx with slotB := b }

/-- The intervals of a burst record (07 R125). -/
def BurstSlot.intervals : BurstSlot → List Interval
  | .free => []
  | .filling _ ivs => ivs
  | .full _ _ _ ivs => ivs

/-- The end time of a burst record (07 R125). -/
def BurstSlot.endTime : BurstSlot → Nat
  | .full _ stop _ _ => stop
  | .free | .filling .. => 0

/-- 08 R140, R143: another event reaches a working Matcher. How many candidates it has gone through
by then is a free value (assumption log entry 6, DESIGN CHOICE); the trials made so far are as the state stood
before the event. -/
def State.matcherReached (s : State) : State :=
  match s.matcher with
  | none => s
  | some m =>
    { s with
      matcher := some (runTrials s (s.rx.slot m.slot).intervals (Config.matcherPace s.freeUses) m)
      freeUses := s.freeUses + 1 }

/-- 08 R143: a template leaves the candidate list of a working Matcher. If it had already won, its
result is dropped and the burst is unmatched. -/
def Matching.drop (t : Fin 16) (m : Matching) : Matching :=
  match m.result with
  | some (.fullFrame w _) => if w = t then { m with untried := [], result := none } else m
  | some (.marker w) => if w = t then { m with untried := [], result := none } else m
  | none => { m with untried := m.untried.filter (· ≠ t) }

/-! ### Taking a burst (08 R140 to R142) -/

/-- The FULL slot with the earlier completion order (07 R125). -/
def Receiver.oldestFull (rx : Receiver) : Option SlotName :=
  match rx.slotA, rx.slotB with
  | .full _ _ oa _, .full _ _ ob _ => if oa ≤ ob then some .a else some .b
  | .full .., _ => some .a
  | _, .full .. => some .b
  | _, _ => none

/-- 08 R142: the templates that are READY with listen yes, in ascending slot number. -/
def Library.listening (l : Library) : List (Fin 16) :=
  (List.finRange 16).filter fun t =>
    match l.slots[t].state.usable with
    | some d => d.listen
    | none => false

/-- 08 R141: the burst is diverted into an ARMED Learn Buffer. -/
def State.divert (n : SlotName) (s : State) : State :=
  let ivs := (s.rx.slot n).intervals
  { s with
    learn := .filled ivs
    rx := s.rx.setSlot n .free
    link := s.link.post (.learnDone ivs.length (total ivs)) }

/-- 08 R140: an idle Matcher takes the oldest FULL slot, if one waits: it diverts the burst to an
ARMED Learn Buffer and is idle again (R141), or starts matching with its candidate list (R142). -/
def State.matcherTakeOne (s : State) : State :=
  match s.matcher, s.rx.oldestFull with
  | none, some n =>
    match s.learn with
    | .armed _ => s.divert n
    | .idle | .filled _ =>
      { s with matcher := some { slot := n, untried := s.lib.listening, result := none } }
  | _, _ => s

/-- 08 R140: the Matcher takes as soon as it is idle and a FULL slot waits. After a diversion it is
idle again, so it may take the other slot as well. -/
def State.matcherTake (s : State) : State := s.matcherTakeOne.matcherTakeOne

/-! ### The Receive Tracker (08 section 8.3) -/

/-- 08 R152: the window deadline after a counted frame. -/
def State.windowAfter (s : State) (burstEnd : Nat) : Nat := burstEnd + s.settings.rxWindow * 1000

/-- 08 R149: the repeat count rises by 1 and stops at 65,535. -/
def raiseCount (n : Nat) : Nat := min (n + 1) 65535

/-- 08 R149: the toggle bit as received, for a template with a toggle position. -/
def State.receivedToggle (s : State) (t : Fin 16) (payload : List Byte) : Option Bool :=
  (s.templateOf t).bind fun d => d.toggle.map fun p => payloadBit payload p

/-- 08 R150: a session begins, with RX_CODE. -/
def State.beginSession (t : Fin 16) (payload : List Byte) (burstEnd : Nat) (s : State) : State :=
  { s with
    tracker := .held
      { template := t, payload := payload, toggle := s.receivedToggle t payload, repeats := 0,
        deadline := s.windowAfter burstEnd }
    link := s.link.post (.rxCode t (s.receivedToggle t payload) payload) }

/-- 08 R150, R151: a repeat of the held code is counted, with RX_REPEAT when it is reported. -/
def State.countRepeat (code : Tracked) (kind : FrameKind) (burstEnd : Nat) (s : State) : State :=
  { s with
    tracker := .held
      { code with repeats := raiseCount code.repeats, deadline := s.windowAfter burstEnd }
    link :=
      if s.settings.rxReportRepeats then
        s.link.post (.rxRepeat code.template (raiseCount code.repeats) kind)
      else s.link }

/-- 08 R152, R153, 01 R10: a session ends with RX_END, and the tracker is QUIET. -/
def State.endSession (code : Tracked) (reason : RxEndReason) (s : State) : State :=
  { s with
    tracker := .quiet
    link := s.link.post (.rxEnd code.template reason code.repeats code.payload) }

/-- 08 R150: a full-frame match reaches the tracker. -/
def State.trackFull (t : Fin 16) (payload : List Byte) (burstEnd : Nat) (s : State) : State :=
  match s.tracker with
  | .quiet => s.beginSession t payload burstEnd
  | .held code =>
    if code.template = t ∧ code.payload = payload then s.countRepeat code .fullFrame burstEnd
    else (s.endSession code .changed).beginSession t payload burstEnd

/-- 08 R154: an unmatched burst is reported when RX_REPORT_UNKNOWN is on. -/
def State.reportUnknown (burst : List Interval) (s : State) : State :=
  { s with
    link :=
      if s.settings.rxReportUnknown then s.link.post (.rxUnknown burst.length (total burst))
      else s.link }

/-- 08 R151: a marker match reaches the tracker. -/
def State.trackMarker (t : Fin 16) (burst : List Interval) (burstEnd : Nat) (s : State) : State :=
  match s.tracker with
  | .quiet => s.reportUnknown burst
  | .held code =>
    if code.template = t then s.countRepeat code .markerFrame burstEnd else s.reportUnknown burst

/-- 08 R140: the Matcher's result is applied. -/
def State.applyMatch (burst : List Interval) (burstEnd : Nat) (r : Option MatchResult) (s : State) :
    State :=
  match r with
  | some (.fullFrame t payload) => s.trackFull t payload burstEnd
  | some (.marker t) => s.trackMarker t burst burstEnd
  | none => s.reportUnknown burst

/-- 08 R140, R142: the remaining trials are made, and the result is applied. -/
def State.deliver (m : Matching) (s : State) : State :=
  s.applyMatch (s.rx.slot m.slot).intervals (s.rx.slot m.slot).endTime
    (runTrials s (s.rx.slot m.slot).intervals m.untried.length m).result

/-- 08 R140: the Matcher has finished with a burst slot. -/
def State.freeBurst (n : SlotName) (s : State) : State :=
  { s with rx := s.rx.setSlot n .free, matcher := none }

/-- 08 R140: the matching end of a working Matcher: the remaining trials are made, the result is
applied, the slot becomes FREE, and the Matcher takes the next FULL slot. -/
def State.matchingEnds (s : State) : State :=
  match s.matcher with
  | none => s
  | some m => ((s.deliver m).freeBurst m.slot).matcherTake

/-- 08 R152: the window deadline falls due while HELD. It may change what a working Matcher's
marker trials find, so the Matcher is reached first. -/
def State.windowExpires (s : State) : State :=
  match s.tracker with
  | .held code => if code.deadline ≤ s.now then s.matcherReached.endSession code .timeout else s
  | .quiet => s

/-- 08 R143: the Matcher drops a template. -/
def State.dropTemplate (t : Fin 16) (s : State) : State :=
  { s with matcher := s.matcher.map (Matching.drop t) }

/-- 01 R10: the tracker's session on a template ends with RX_END GONE. -/
def State.endSessionOn (t : Fin 16) (s : State) : State :=
  match s.tracker with
  | .held code => if code.template = t then s.endSession code .gone else s
  | .quiet => s

/-- 01 R10: a slot leaves READY: the tracker's session on it ends with RX_END GONE, and the Matcher
drops it. -/
def State.slotLeavesReady (t : Fin 16) (s : State) : State :=
  (s.matcherReached.dropTemplate t).endSessionOn t

/-! ### The Learn Buffer (08 section 8.4) -/

/-- 08 R157: the learn timer falls due while ARMED. -/
def State.learnExpires (s : State) : State :=
  match s.learn with
  | .armed expiry =>
    if expiry ≤ s.now then { s with learn := .idle, link := s.link.post .learnExpired } else s
  | .idle | .filled _ => s

end Sys2Proof.Machine
end

