-- ==== Sys2Proof/Machine/Operands.lean ====
section
/-! DEFINITION. How the payload bytes of a request are read: the request kinds and their lengths (11
sections 11.2, 11.3), the job header of SEND and BIND (04 R60), the sections of TPL_PUT (01 R12, 11 R193)
and the values of the settings (11 section 11.5). -/

namespace Sys2Proof.Machine

/-! ### Request kinds and lengths -/

/-- The requests in use (11 section 11.3). -/
inductive RequestKind where
  | ping | restart | set | get | save | wipe | storeStatus
  | tplOpen | tplPut | tplCommit | tplAbort | tplErase | tplRead | tplStatus
  | send | release | cancel | flush | stop | resume | queueStatus
  | bind | unbind | keyStatus
  | learnArm | learnCancel | learnRead | rxStatus
  deriving DecidableEq, Repr

/-- The kind bytes in use (11 section 11.3). -/
def RequestKind.code : RequestKind → Byte
  | .ping => 0x01#8
  | .restart => 0x02#8
  | .set => 0x03#8
  | .get => 0x04#8
  | .save => 0x08#8
  | .wipe => 0x09#8
  | .storeStatus => 0x0A#8
  | .tplOpen => 0x10#8
  | .tplPut => 0x11#8
  | .tplCommit => 0x12#8
  | .tplAbort => 0x13#8
  | .tplErase => 0x14#8
  | .tplRead => 0x15#8
  | .tplStatus => 0x16#8
  | .send => 0x20#8
  | .release => 0x21#8
  | .cancel => 0x22#8
  | .flush => 0x23#8
  | .stop => 0x24#8
  | .resume => 0x25#8
  | .queueStatus => 0x26#8
  | .bind => 0x28#8
  | .unbind => 0x29#8
  | .keyStatus => 0x2A#8
  | .learnArm => 0x30#8
  | .learnCancel => 0x31#8
  | .learnRead => 0x32#8
  | .rxStatus => 0x33#8

/-- All requests in use. -/
def RequestKind.all : List RequestKind :=
  [.ping, .restart, .set, .get, .save, .wipe, .storeStatus, .tplOpen, .tplPut, .tplCommit,
   .tplAbort, .tplErase, .tplRead, .tplStatus, .send, .release, .cancel, .flush, .stop, .resume,
   .queueStatus, .bind, .unbind, .keyStatus, .learnArm, .learnCancel, .learnRead, .rxStatus]

/-- The request that a kind byte names, if it is in use (09 R167 step 2). -/
def RequestKind.ofByte (b : Byte) : Option RequestKind :=
  RequestKind.all.find? fun k => decide (k.code = b)

/-- 09 R162: kinds 0x00 to 0x3F are requests. -/
def isRequest (kind : Byte) : Bool := decide (kind.toNat < 0x40)

/-- 11 R193 check 1: an interval list whose count byte is `c` takes 2 + 2c bytes. -/
def listLength (c : Byte) : Nat := 2 + 2 * c.toNat

/-- 11 R194, section 11.5: the lengths of a TPL_PUT that the Command Handler accepts. A section byte
that is no section number is not judged by length; a payload that ends before its count byte is
refused. -/
def putLengthOk : List Byte → Bool
  | [] => false
  | part :: data =>
    match part.toNat with
    | 0 => decide (data.length = 3)
    | 1 | 4 =>
      match data with
      | _ :: c :: _ => decide (data.length = listLength c)
      | _ => false
    | 2 | 5 =>
      match data with
      | _ :: _ :: c :: _ => decide (data.length = 1 + listLength c)
      | _ => false
    | 3 => decide (data.length = 4)
    | 6 => decide (data.length = 6)
    | 7 => decide (data.length = 2)
    | _ => true

/-- 09 R167 step 3, 11 section 11.3: whether a request kind allows a payload. -/
def RequestKind.lengthOk (k : RequestKind) (payload : List Byte) : Bool :=
  match k with
  | .ping => decide (payload.length ≤ 16)
  | .set => decide (payload.length = 5)
  | .tplOpen => decide (payload.length = 2)
  | .tplRead => decide (payload.length = 4)
  | .tplPut => putLengthOk payload
  | .get | .tplErase | .release | .cancel | .unbind | .learnArm | .learnRead =>
    decide (payload.length = 1)
  | .send => decide (7 ≤ payload.length ∧ payload.length ≤ 14)
  | .bind => decide (8 ≤ payload.length ∧ payload.length ≤ 15)
  | .restart | .save | .wipe | .storeStatus | .tplCommit | .tplAbort | .tplStatus | .flush | .stop
  | .resume | .queueStatus | .keyStatus | .learnCancel | .rxStatus => decide (payload.length = 0)

/-! ### Numbers of the tables (11 section 11.4) -/

/-- A slot number, 0 to 15. -/
def slotOf (b : Byte) : Option (Fin 16) := if h : b.toNat < 16 then some ⟨b.toNat, h⟩ else none

/-- A key number, 0 to 7. -/
def keyOf (b : Byte) : Option (Fin 8) := if h : b.toNat < 8 then some ⟨b.toNat, h⟩ else none

/-- A yes or no, on or off (11 section 11.4). -/
def flagOf (b : Byte) : Option Bool :=
  match b.toNat with
  | 0 => some false
  | 1 => some true
  | _ => none

/-- The mode of TPL_OPEN (11 section 11.4). -/
def modeOf (b : Byte) : Option DraftMode :=
  match b.toNat with
  | 0 => some .new
  | 1 => some .revise
  | _ => none

/-- The class of a job (11 section 11.4). -/
def classOf (b : Byte) : Option JobClass :=
  match b.toNat with
  | 0 => some .normal
  | 1 => some .urgent
  | _ => none

/-- The report of a job (11 section 11.4). -/
def reportOf (b : Byte) : Option Report :=
  match b.toNat with
  | 0 => some .never
  | 1 => some .atEnd
  | 2 => some .both
  | _ => none

/-- The length of a job: COUNT n with n from 1 to 255, or HOLD, whose count byte is ignored (04 R60). -/
def lengthOf (mode count : Byte) : Option Length :=
  match mode.toNat with
  | 0 => if count = 0#8 then none else some (.count count.toNat)
  | 1 => some .hold
  | _ => none

/-- An emitter mask of E0 to E2; an empty mask is in range (04 R60). -/
def maskOf (b : Byte) : Option (BitVec 3) :=
  if b.toNat < 8 then some (b.setWidth 3) else none

/-- 04 R60, 06 R111 check 1: a job header and payload with every field in its range. -/
def jobSpecOf (template mode count mask cls report : Byte) (payload : List Byte) :
    Option JobSpec := do
  let t ← slotOf template
  let len ← lengthOf mode count
  let m ← maskOf mask
  let c ← classOf cls
  let r ← reportOf report
  return { template := t, payload := payload, length := len, mask := m, cls := c, report := r }

/-! ### Sections of a template (01 R12, 11 R193) -/

/-- The duty of a CARRIER section (11 section 11.4). -/
def dutyOf (b : Byte) : Option Duty :=
  match b.toNat with
  | 0 => some .half
  | 1 => some .third
  | 2 => some .quarter
  | _ => none

/-- The bit order of a FORMAT section (11 section 11.4). -/
def orderOf (b : Byte) : Option BitOrder :=
  match b.toNat with
  | 0 => some .lsbFirst
  | 1 => some .msbFirst
  | _ => none

/-- The check of a FORMAT section (11 section 11.4). -/
def checkOf (b : Byte) : Option Check :=
  match b.toNat with
  | 0 => some .none
  | 1 => some .invertBytes
  | 2 => some .sum8
  | _ => none

/-- The repeat form of a REPEAT section (11 section 11.4). -/
def formOf (b : Byte) : Option RepeatForm :=
  match b.toNat with
  | 0 => some .none
  | 1 => some .full
  | 2 => some .marker
  | _ => none

/-- The mode of a SPACING section (11 section 11.4). -/
def spacingModeOf (b : Byte) : Option SpacingMode :=
  match b.toNat with
  | 0 => some .gap
  | 1 => some .period
  | _ => none

/-- A two-byte number, least significant byte first (11 R192). -/
def word16 (lo hi : Byte) : Nat := lo.toNat + 256 * hi.toNat

/-- A four-byte number, least significant byte first (11 R192). -/
def word32 (b0 b1 b2 b3 : Byte) : Nat :=
  b0.toNat + 256 * b1.toNat + 65536 * b2.toNat + 16777216 * b3.toNat

/-- The other kind (01 R3: the kinds of an interval list strictly alternate). -/
def IKind.other : IKind → IKind
  | .mark => .space
  | .space => .mark

/-- The durations of a list as intervals that alternate from a first kind; a duration outside 10 to
65,000 or an odd byte refuses the list (11 R193 check 4). -/
def durations (kind : IKind) : List Byte → Option (List Interval)
  | [] => some []
  | lo :: hi :: rest =>
    if 10 ≤ word16 lo hi ∧ word16 lo hi ≤ 65000 then
      (durations kind.other rest).map fun ivs => { kind := kind, dur := word16 lo hi } :: ivs
    else none
  | [_] => none

/-- 11 R193 checks 2 to 4: an interval list of at most `limit` intervals. A list without durations
is empty whatever its kind byte. -/
def listOf (limit : Nat) : List Byte → Option (List Interval)
  | kind :: c :: data =>
    if c = 0#8 then some []
    else if limit < c.toNat then none
    else
      match kind.toNat with
      | 0 => durations .mark data
      | 1 => durations .space data
      | _ => none
  | _ => none

/-- A toggle byte: a position 0 to 63, or 0xFF absent (11 section 11.5). -/
def toggleOf (b : Byte) : Option (Option Nat) :=
  if b = 0xFF#8 then some none else if b.toNat ≤ 63 then some (some b.toNat) else none

/-- 01 R12: the section and data of a TPL_PUT, or none when a value breaks its rule. -/
def partOf (part : Byte) (data : List Byte) : Option PartData :=
  match part.toNat, data with
  | 0, [lo, hi, duty] => do
    let c := word16 lo hi
    let d ← dutyOf duty
    if c = 0 ∨ (200 ≤ c ∧ c ≤ 600) then some (.carrier c d) else none
  | 1, list => do
    let ivs ← listOf 4 list
    some (.lead ivs)
  | 2, n :: list => do
    let ivs ← listOf 4 list
    if h : n.toNat < 4 then some (.symbol ⟨n.toNat, h⟩ ivs) else none
  | 3, [bits, order, check, toggle] => do
    let o ← orderOf order
    let c ← checkOf check
    let t ← toggleOf toggle
    if 1 ≤ bits.toNat ∧ bits.toNat ≤ 64 then some (.format bits.toNat o c t) else none
  | 4, list => do
    let ivs ← listOf 2 list
    some (.trailer ivs)
  | 5, form :: list => do
    let f ← formOf form
    let ivs ← listOf 4 list
    if f = .marker ∨ ivs = [] then some (.repetition f ivs) else none
  | 6, [mode, b0, b1, b2, b3, minFrames] => do
    let m ← spacingModeOf mode
    let v := word32 b0 b1 b2 b3
    if 2000 ≤ v ∧ v ≤ 250000 ∧ 1 ≤ minFrames.toNat ∧ minFrames.toNat ≤ 4 then
      some (.spacing m v minFrames.toNat)
    else none
  | 7, [listen, tolerance] => do
    let l ← flagOf listen
    if tolerance.toNat ∈ [10, 15, 20, 25] then some (.receive l tolerance.toNat) else none
  | _, _ => none

/-- The section of a TPL_READ: a section number, with the n byte for SYMBOL and 0 for every other
section (01 R20). -/
def readPartOf (part n : Byte) : Option Part :=
  match part.toNat with
  | 2 => if h : n.toNat < 4 then some (.symbol ⟨n.toNat, h⟩) else none
  | 0 => if n = 0#8 then some .carrier else none
  | 1 => if n = 0#8 then some .lead else none
  | 3 => if n = 0#8 then some .format else none
  | 4 => if n = 0#8 then some .trailer else none
  | 5 => if n = 0#8 then some .repetition else none
  | 6 => if n = 0#8 then some .spacing else none
  | 7 => if n = 0#8 then some .receive else none
  | _ => none

/-! ### Settings (11 section 11.5) -/

/-- All settings by name. -/
def SettingId.all : List SettingId :=
  [.holdLimit, .debounce, .keyEnable, .keyReport, .rxEnable, .rxPolarity, .rxGlitch, .rxBurstEnd,
   .rxBlank, .rxBlankTail, .rxWindow, .rxReportRepeats, .rxReportUnknown, .rxWake, .indTail,
   .lineE0, .lineE1, .lineE2, .supplyThreshold, .doze, .dozeDelay]

/-- The setting ids (11 section 11.5). -/
def SettingId.code : SettingId → Byte
  | .holdLimit => 0x01#8
  | .debounce => 0x02#8
  | .keyEnable => 0x03#8
  | .keyReport => 0x04#8
  | .rxEnable => 0x10#8
  | .rxPolarity => 0x11#8
  | .rxGlitch => 0x12#8
  | .rxBurstEnd => 0x13#8
  | .rxBlank => 0x14#8
  | .rxBlankTail => 0x15#8
  | .rxWindow => 0x16#8
  | .rxReportRepeats => 0x17#8
  | .rxReportUnknown => 0x18#8
  | .rxWake => 0x19#8
  | .indTail => 0x20#8
  | .lineE0 => 0x21#8
  | .lineE1 => 0x22#8
  | .lineE2 => 0x23#8
  | .supplyThreshold => 0x30#8
  | .doze => 0x31#8
  | .dozeDelay => 0x32#8

/-- The setting that an id byte names. -/
def SettingId.ofByte (b : Byte) : Option SettingId :=
  SettingId.all.find? fun i => decide (i.code = b)

/-- Whether a value is within a line setting's encoding: bytes 0, 1 and 2 each 0 or 1, byte 3 zero
(11 section 11.5). -/
def lineValueOk (v : Nat) : Bool :=
  decide (v % 256 ≤ 1 ∧ v / 256 % 256 ≤ 1 ∧ v / 65536 % 256 ≤ 1 ∧ v / 16777216 = 0)

/-- 09 R176 check 2, 11 section 11.5: whether a value is within the setting's range. -/
def SettingId.inRange (i : SettingId) (v : Nat) : Bool :=
  match i with
  | .holdLimit => decide (1 ≤ v ∧ v ≤ 120)
  | .debounce => decide (4 ≤ v ∧ v ≤ 64)
  | .keyEnable => decide (v ≤ 255)
  | .rxGlitch => decide (v ≤ 100)
  | .rxBurstEnd => decide (3 ≤ v ∧ v ≤ 50)
  | .rxBlankTail => decide (v ≤ 20)
  | .rxWindow => decide (50 ≤ v ∧ v ≤ 500)
  | .indTail => decide (v ≤ 500)
  | .lineE0 | .lineE1 | .lineE2 => lineValueOk v
  | .supplyThreshold => decide (20 ≤ v ∧ v ≤ 33)
  | .dozeDelay => decide (10 ≤ v ∧ v ≤ 1000)
  | .keyReport | .rxEnable | .rxPolarity | .rxBlank | .rxReportRepeats | .rxReportUnknown
  | .rxWake | .doze => decide (v ≤ 1)

/-- A line setting from its value (11 section 11.5). -/
def lineSettingOf (v : Nat) : LineSetting :=
  ⟨decide (v % 256 = 1), decide (v / 256 % 256 = 1), decide (v / 65536 % 256 = 1)⟩

/-- The value of a line setting (11 section 11.5). -/
def LineSetting.value (l : LineSetting) : Nat :=
  l.enabled.toNat + 256 * l.low.toNat + 65536 * l.openDrain.toNat

/-- The present value of a setting, as GET carries it (09 R176). -/
def Settings.get (c : Settings) : SettingId → Nat
  | .holdLimit => c.holdLimit
  | .debounce => c.debounce
  | .keyEnable => c.keyEnable.toNat
  | .keyReport => c.keyReport.toNat
  | .rxEnable => c.rxEnable.toNat
  | .rxPolarity => c.rxHighActive.toNat
  | .rxGlitch => c.rxGlitch
  | .rxBurstEnd => c.rxBurstEnd
  | .rxBlank => c.rxBlank.toNat
  | .rxBlankTail => c.rxBlankTail
  | .rxWindow => c.rxWindow
  | .rxReportRepeats => c.rxReportRepeats.toNat
  | .rxReportUnknown => c.rxReportUnknown.toNat
  | .rxWake => c.rxWake.toNat
  | .indTail => c.indTail
  | .lineE0 => c.lineE0.value
  | .lineE1 => c.lineE1.value
  | .lineE2 => c.lineE2.value
  | .supplyThreshold => c.supplyThreshold
  | .doze => c.doze.toNat
  | .dozeDelay => c.dozeDelay

/-- The settings with one of them replaced by a value in its range (09 R176). -/
def Settings.put (c : Settings) (i : SettingId) (v : Nat) : Settings :=
  match i with
  | .holdLimit => { c with holdLimit := v }
  | .debounce => { c with debounce := v }
  | .keyEnable => { c with keyEnable := BitVec.ofNat 8 v }
  | .keyReport => { c with keyReport := decide (v = 1) }
  | .rxEnable => { c with rxEnable := decide (v = 1) }
  | .rxPolarity => { c with rxHighActive := decide (v = 1) }
  | .rxGlitch => { c with rxGlitch := v }
  | .rxBurstEnd => { c with rxBurstEnd := v }
  | .rxBlank => { c with rxBlank := decide (v = 1) }
  | .rxBlankTail => { c with rxBlankTail := v }
  | .rxWindow => { c with rxWindow := v }
  | .rxReportRepeats => { c with rxReportRepeats := decide (v = 1) }
  | .rxReportUnknown => { c with rxReportUnknown := decide (v = 1) }
  | .rxWake => { c with rxWake := decide (v = 1) }
  | .indTail => { c with indTail := v }
  | .lineE0 => { c with lineE0 := lineSettingOf v }
  | .lineE1 => { c with lineE1 := lineSettingOf v }
  | .lineE2 => { c with lineE2 := lineSettingOf v }
  | .supplyThreshold => { c with supplyThreshold := v }
  | .doze => { c with doze := decide (v = 1) }
  | .dozeDelay => { c with dozeDelay := v }

end Sys2Proof.Machine
end

