-- ==== Sys2Proof/Machine/Receiver.lean ====
section
/-! DEFINITION. The Receiver Front End (07): the glitch filter, the receiver states, the burst slots,
the drops, and blanking during the part's own emission. -/

namespace Sys2Proof.Machine

/-! ### The line and the glitch filter (07 section 7.1) -/

/-- 07 R121: the condition of a level of RXIN under RX_POLARITY: mark at the active level. -/
def conditionOf (lineHigh highActive : Bool) : IKind := if lineHigh = highActive then .mark else .space

/-- 07 R121: the line condition. -/
def State.lineCondition (s : State) : IKind := conditionOf s.rx.lineHigh s.settings.rxHighActive

/-- 07 R122: the filtered condition is set from the line, without an edge; a pending candidate is
discarded. -/
def State.readLine (s : State) : State :=
  { s with rx := { s.rx with filtered := s.lineCondition, candidate := none } }

/-- 07 R124: when the burst-end timer of a space that began at `edge` falls due. -/
def State.burstEndDue (s : State) (edge : Nat) : Timer :=
  .running (edge + s.settings.rxBurstEnd * 1000 + 1)

/-- The FILLING slot; 07 R125: at most one. -/
def Receiver.fillingSlot (rx : Receiver) : Option SlotName :=
  match rx.slotA, rx.slotB with
  | .filling .., _ => some .a
  | _, .filling .. => some .b
  | _, _ => none

/-- 07 R125: a burst takes a FREE slot, the first one when both are FREE. -/
def Receiver.freeSlot (rx : Receiver) : Option SlotName :=
  match rx.slotA, rx.slotB with
  | .free, _ => some .a
  | _, .free => some .b
  | _, _ => none

/-- A FILLING slot becomes FREE, its intervals discarded (07 R128, R132). -/
def BurstSlot.abandoned : BurstSlot → BurstSlot
  | .filling .. => .free
  | .free => .free
  | .full start stop order ivs => .full start stop order ivs

/-- One more interval in a FILLING slot (07 R127). -/
def BurstSlot.stored (iv : Interval) : BurstSlot → BurstSlot
  | .filling start ivs => .filling start (ivs ++ [iv])
  | .free => .free
  | .full start stop order ivs => .full start stop order ivs

/-- The number of intervals captured in the FILLING slot. -/
def Receiver.captured (rx : Receiver) : Nat :=
  match rx.fillingSlot with
  | some n => (rx.slot n).intervals.length
  | none => 0

/-- The FILLING burst is discarded and the receiver goes to a state; its timers stop (07 R124). -/
def Receiver.leaveBurst (rx : Receiver) (dest : RxState) : Receiver :=
  { rx with
    state := dest, burstEnd := .stopped, markLimit := .stopped
    slotA := rx.slotA.abandoned, slotB := rx.slotB.abandoned }

/-- 07 R128, R129: the burst is dropped with RX_DROPPED, and the receiver goes to DISCARD. -/
def State.dropBurst (reason : DropReason) (s : State) : State :=
  { s with
    rx := s.rx.leaveBurst .discard
    link := s.link.post (.rxDropped reason s.rx.captured) }

/-- 07 R126: a mark edge in QUIET starts a burst in a FREE slot, or enters DISCARD with
RX_DROPPED BUSY. -/
def State.startBurst (edge : Nat) (s : State) : State :=
  match s.rx.freeSlot with
  | some n =>
    { s with
      rx :=
        { s.rx.setSlot n (.filling edge []) with
          state := .inBurst, lastEdge := edge
          markLimit := .running (edge + Config.markLimitDue) } }
  | none =>
    { s with
      rx := { s.rx with state := .discard, lastEdge := edge }
      link := s.link.post (.rxDropped .busy 0) }

/-- 07 R127: the interval that an edge ends is stored in the FILLING slot; between two edges dated in the
same µs it is one of 0 µs (assumption log entry 31, DESIGN CHOICE). -/
def Receiver.storeInterval (rx : Receiver) (kind : IKind) (edge : Nat) : Receiver :=
  { rx with
    slotA := rx.slotA.stored ⟨kind, edge - rx.lastEdge⟩
    slotB := rx.slotB.stored ⟨kind, edge - rx.lastEdge⟩
    lastEdge := edge }

/-- 07 R127: the interval that an edge to the condition `k` ends is stored. -/
def State.storeEdge (k : IKind) (edge : Nat) (s : State) : State :=
  { s with rx := s.rx.storeInterval k.other edge }

/-- 07 R127, R128: what follows the storing at an edge in IN_BURST: the timers, or the overflow. -/
def State.afterStore (k : IKind) (edge : Nat) (s : State) : State :=
  match k with
  | .space =>
    { s with rx := { s.rx with markLimit := .stopped, burstEnd := s.burstEndDue edge } }
  | .mark =>
    if s.rx.captured = Config.burstRoom then s.dropBurst .overflow
    else
      { s with
        rx := { s.rx with burstEnd := .stopped, markLimit := .running (edge + Config.markLimitDue) } }

/-- 07 R127, R128: an edge in IN_BURST. -/
def State.edgeInBurst (k : IKind) (edge : Nat) (s : State) : State :=
  (s.storeEdge k edge).afterStore k edge

/-- 07 R122: the filtered condition changes; no candidate is left. -/
def State.setFiltered (k : IKind) (s : State) : State :=
  { s with rx := { s.rx with filtered := k, candidate := none } }

/-- 07 R126, R127, R130: an edge to the condition `k`, dated `edge`, acts on the receiver state. -/
def State.receiverEdge (k : IKind) (edge : Nat) (s : State) : State :=
  match s.rx.state with
  | .off | .blanked => s
  | .quiet =>
    match k with
    | .mark => s.startBurst edge
    | .space =>
      { s with
        rx := { s.rx with state := .discard, lastEdge := edge, burstEnd := s.burstEndDue edge } }
  | .inBurst => s.edgeInBurst k edge
  | .discard =>
    match k with
    | .mark => { s with rx := { s.rx with lastEdge := edge, burstEnd := .stopped } }
    | .space => { s with rx := { s.rx with lastEdge := edge, burstEnd := s.burstEndDue edge } }

/-- 07 R122: a filtered edge to the condition `k`, dated `edge`, reaches the receiver. -/
def State.filteredEdge (k : IKind) (edge : Nat) (s : State) : State :=
  (s.setFiltered k).receiverEdge k edge

/-- 07 R122: a candidate that has held for RX_GLITCH is confirmed, as an edge dated at the change. -/
def State.confirmGlitch (s : State) : State :=
  match s.rx.candidate with
  | some c => if c.due ≤ s.now then s.filteredEdge s.rx.filtered.other c.since else s
  | none => s

/-- The level of RXIN is recorded (07 R121). -/
def State.setRxinLine (high : Bool) (s : State) : State :=
  { s with rx := { s.rx with lineHigh := high } }

/-- 07 R122: the level now on the line starts a candidate, or reverts one; with RX_GLITCH 0 a change is
confirmed at once, also the second of two within one µs (assumption log entry 31, DESIGN CHOICE). -/
def State.filterLine (s : State) : State :=
  if s.lineCondition = s.rx.filtered then { s with rx := { s.rx with candidate := none } }
  else if s.settings.rxGlitch = 0 then s.filteredEdge s.lineCondition s.now
  else
    { s with
      rx := { s.rx with candidate := some ⟨s.now, s.now + s.settings.rxGlitch⟩ } }

/-- 07 R122: RXIN changes, the part awake: a due candidate is confirmed first; then the filter takes the
new level. -/
def State.lineChanges (high : Bool) (s : State) : State :=
  (s.confirmGlitch.setRxinLine high).filterLine

/-! ### The burst-end timer and the mark limit (07 section 7.3) -/

/-- 07 R127: the burst of a FILLING slot is complete: its end is the space edge. -/
def BurstSlot.completed (stop order : Nat) : BurstSlot → BurstSlot
  | .filling start ivs => .full start stop order ivs
  | .free => .free
  | .full start stop' order' ivs => .full start stop' order' ivs

/-- 07 R127, R130: the burst-end timer falls due. -/
def State.burstEnds (s : State) : State :=
  if s.rx.burstEnd.isDue s.now then
    match s.rx.state with
    | .inBurst =>
      { s with
        rx :=
          { s.rx with
            state := .quiet, burstEnd := .stopped
            slotA := s.rx.slotA.completed s.rx.lastEdge s.rx.nextOrder
            slotB := s.rx.slotB.completed s.rx.lastEdge s.rx.nextOrder
            nextOrder := s.rx.nextOrder + 1 } }.matcherTake
    | .discard => { s with rx := { s.rx with state := .quiet, burstEnd := .stopped } }
    | .off | .quiet | .blanked => s
  else s

/-- 07 R129: the mark limit falls due in IN_BURST. -/
def State.markTooLong (s : State) : State :=
  if s.rx.markLimit.isDue s.now ∧ s.rx.state = .inBurst then s.dropBurst .stuck else s

/-! ### Blanking (07 section 7.4) -/

/-- 07 R132: blanking holds while RX_BLANK is on and either the part emits or the blank tail runs. -/
def State.blankingHolds (s : State) : Bool :=
  s.settings.rxBlank && (s.engine.emitting || s.rx.blankTail.isRunning)

/-- 07 R132: blanking begins to hold: the receiver goes to BLANKED unless it is OFF; a FILLING burst
is discarded without a notice. -/
def Receiver.blank (rx : Receiver) : Receiver :=
  match rx.state with
  | .off => rx
  | .quiet | .inBurst | .blanked | .discard => rx.leaveBurst .blanked

/-- 07 R133: the receiver leaves BLANKED for QUIET with the line at space, DISCARD at mark. -/
def Receiver.unblank (rx : Receiver) : Receiver :=
  match rx.state, rx.filtered with
  | .blanked, .space => { rx with state := .quiet }
  | .blanked, .mark => { rx with state := .discard }
  | _, _ => rx

/-- 05 R84, 07 R132: the emission activity becomes "emitting" at a frame start. -/
def State.activityOn (s : State) : State :=
  { s with
    engine := { s.engine with emitting := true }
    rx :=
      if s.settings.rxBlank then { s.rx with blankTail := .stopped }.blank
      else { s.rx with blankTail := .stopped } }

/-- 05 R85, R96, 07 R132: the emission activity becomes "not emitting" at a frame end or a cut, and
the blank tail starts; a tail of 0 ms expires at once. -/
def State.activityOff (s : State) : State :=
  { s with
    engine := { s.engine with emitting := false }
    rx :=
      if s.settings.rxBlankTail = 0 then { s.rx with blankTail := .stopped }.unblank
      else { s.rx with blankTail := .running (s.now + s.settings.rxBlankTail * 1000) } }

/-- 07 R133: the blank tail timer expires. -/
def State.blankTailExpires (s : State) : State :=
  if s.rx.blankTail.isDue s.now then
    { s with rx := { s.rx with blankTail := .stopped }.unblank }
  else s

/-! ### Setting changes (07 section 7.5) -/

/-- 07 R134: RX_ENABLE goes off: both slots are FREE, and a burst under matching is abandoned. -/
def State.receiverOff (s : State) : State :=
  { s with
    rx :=
      { s.rx with
        state := .off, burstEnd := .stopped, markLimit := .stopped, slotA := .free, slotB := .free }
    matcher := none }

/-- 07 R134: RX_ENABLE goes on. -/
def State.receiverOn (s : State) : State :=
  { s.readLine with
    rx := { s.readLine.rx with state := if s.blankingHolds then .blanked else .quiet } }

/-- 07 R135: the receiver waits in DISCARD afresh. With the line at space the burst-end timer starts now
(assumption log entry 9, DESIGN CHOICE). -/
def State.discardAfresh (s : State) : State :=
  match s.rx.state with
  | .off | .blanked => s
  | .quiet | .inBurst | .discard =>
    { s with
      rx :=
        { s.rx.leaveBurst .discard with
          lastEdge := s.now
          burstEnd := match s.rx.filtered with
            | .space => s.burstEndDue s.now
            | .mark => .stopped } }

/-- 07 R135: RX_POLARITY has changed. -/
def State.polarityChanged (s : State) : State := s.readLine.discardAfresh

/-- 07 R132, R133: RX_BLANK has changed. -/
def State.blankChanged (s : State) : State :=
  if s.settings.rxBlank then { s with rx := if s.blankingHolds then s.rx.blank else s.rx }
  else { s with rx := s.rx.unblank }

end Sys2Proof.Machine
end

