-- ==== Sys2Proof/Machine/LearnOps.lean ====
section
/-! DEFINITION. The requests of the Learn Buffer (08 section 8.4) and RX_STATUS (07 R137). -/

namespace Sys2Proof.Machine

/-- 08 R157: LEARN_ARM with a timeout in seconds. -/
def State.learnArm (timeout : Nat) (s : State) : State × ReplyBody :=
  if timeout < 1 ∨ 30 < timeout then (s, .status .badValue)
  else
    match s.learn with
    | .armed _ => (s, .status .learnBusy)
    | .idle | .filled _ => ({ s with learn := .armed (s.now + timeout * 1000000) }, .status .ok)

/-- 08 R158: LEARN_CANCEL. -/
def State.learnCancel (s : State) : State × ReplyBody :=
  ({ s with learn := .idle }, .learnWas s.learn.code)

/-- 08 R159: LEARN_READ from an offset. -/
def State.learnRead (offset : Nat) (s : State) : State × ReplyBody :=
  if 190 < offset then (s, .status .badValue)
  else
    match s.learn with
    | .idle | .armed _ => (s, .status .notFilled)
    | .filled ivs =>
      if offset < ivs.length then
        (s, .learnData ivs.length offset ((ivs.drop offset).take Config.learnChunk))
      else (s, .status .badValue)

/-- Whether the Matcher works on a slot (07 R137). -/
def State.matcherOn (s : State) (n : SlotName) : Bool :=
  match s.matcher with
  | some m => decide (m.slot = n)
  | none => false

/-- The three bytes of a burst slot in RX_STATUS (11 section 11.5). -/
def State.slotStatus (s : State) (n : SlotName) : List Byte :=
  [(s.rx.slot n).code, u8 (s.rx.slot n).intervals.length, flagByte (s.matcherOn n)]

/-- The tracker in RX_STATUS: state, held template and repeat count (11 section 11.5). -/
def Tracker.bytes : Tracker → List Byte
  | .quiet => 0#8 :: 0xFF#8 :: u16 0
  | .held code => 1#8 :: u8 code.template.val :: u16 code.repeats

/-- The Learn Buffer in RX_STATUS: state and interval count (11 section 11.5). -/
def LearnBuffer.bytes (l : LearnBuffer) : List Byte :=
  match l with
  | .filled ivs => [l.code, u8 ivs.length]
  | .idle | .armed _ => [l.code, 0#8]

/-- 07 R137, 11 section 11.5: the RX_STATUS reply. -/
def State.rxStatus (s : State) : List Byte :=
  [s.rx.state.code, s.rx.filtered.code, flagByte s.rx.blankTail.isRunning]
    ++ s.slotStatus .a ++ s.slotStatus .b ++ s.tracker.bytes ++ s.learn.bytes

end Sys2Proof.Machine
end

