-- ==== Sys2Proof/Machine/Engine.lean ====
section
/-! DEFINITION. The Emission Engine (05) with the part of the queue it moves (04 R58, R59), the
carrier's setting (03 R45) and the indicator (03 R53, R54): takes, frame starts, interval and frame
ends, spacing ends, parks, STOP and RESUME. -/

namespace Sys2Proof.Machine

/-! ### The order of the queue (04 R58) -/

/-- Whether a job is URGENT. -/
def Job.urgent (j : Job) : Bool := decide (j.spec.cls = .urgent)

/-- 04 R58: after the last URGENT entry, ahead of every NORMAL entry: the place of a new URGENT job
and of a job parked by the engine. -/
def insertAfterUrgent (j : Job) (jobs : List Job) : List Job :=
  jobs.takeWhile Job.urgent ++ j :: jobs.dropWhile Job.urgent

/-- 04 R58: where an admitted job joins the queue. -/
def insertNew (j : Job) (jobs : List Job) : List Job :=
  match j.spec.cls with
  | .urgent => insertAfterUrgent j jobs
  | .normal => jobs ++ [j]

/-! ### The indicator (03 section 3.5) -/

/-- 03 R53: the tail timer starts when the engine is left without a current job; with IND_TAIL 0,
IND is released at once. -/
def State.startTail (s : State) : State :=
  { s with
    ind :=
      if s.settings.indTail = 0 then { asserted := false, tail := .stopped }
      else { s.ind with tail := .running (s.now + s.settings.indTail * 1000) } }

/-- 03 R54: IND is released at once and the tail timer is stopped. -/
def State.releaseInd (s : State) : State := { s with ind := { asserted := false, tail := .stopped } }

/-- 03 R53: the tail timer expires, and IND is released. -/
def State.tailExpires (s : State) : State :=
  if s.ind.tail.isDue s.now then s.releaseInd else s

/-! ### Frame starts and takes (05 section 5.2) -/

/-- 02 R35, 05 R84: the kind of the current job's next frame. -/
def frameKindOf (t : Template) (j : Job) (resumed : Bool) : FrameKind :=
  if j.framesSent = 0 ∨ resumed then .fullFrame
  else
    match t.repeatForm with
    | .marker => .markerFrame
    | .full | .none => .fullFrame

/-- 02 R25: the frame of a kind for a job, with its kept toggle bit (R38). -/
def renderFrame (t : Template) (j : Job) (kind : FrameKind) : List Interval :=
  match kind with
  | .fullFrame => t.fullFrame j.spec.payload (j.toggleBit.getD false)
  | .markerFrame => t.markerFrame

/-- 05 R84, 03 R45, R53: the current job's next frame starts now: it is rendered, the carrier is
loaded, the position stands at the first interval, the activity is "emitting", IND is asserted, and
the parked-since-last-frame mark is cleared. -/
def State.startFrame (j : Job) (s : State) : State :=
  { s with
    engine :=
      { s.engine with
        state := .emitting
        current := some j
        buffer :=
          match s.templateOf j.spec.template with
          | some t => renderFrame t j (frameKindOf t j s.engine.resumed)
          | none => []
        position := some { index := 0, since := s.now, frameStart := s.now, stoppedAt := none }
        resumed := false }
    carrier :=
      match s.templateOf j.spec.template with
      | some t => t.carrierSetting
      | none => s.carrier
    ind := { asserted := true, tail := .stopped } }.activityOn

/-- 01 R8: the toggle state of a slot is flipped. -/
def Library.flip (t : Fin 16) (l : Library) : Library :=
  { l with slots := l.slots.set t { l.slots[t] with toggle := !l.slots[t].toggle } }

/-- 01 R8, 02 R38: a job is taken from WAITING on a template with a toggle position: the toggle state
is flipped, and the job keeps the new value as its toggle bit. -/
def State.flipToggle (j : Job) (s : State) : State × Option Bool :=
  match s.templateOf j.spec.template with
  | some t =>
    match t.toggle with
    | some _ =>
      ({ s with lib := s.lib.flip j.spec.template }, some !s.lib.slots[j.spec.template].toggle)
    | none => (s, none)
  | none => (s, none)

/-- 05 R82 step 5, R92: hold started and the hold-limit expiry of a HOLD job at its first frame. -/
def State.startHold (s : State) (j : Job) : Job :=
  match j.spec.length with
  | .count _ => j
  | .hold =>
    { j with
      holdStarted := some s.now
      holdExpiry := some (s.now + s.settings.holdLimit * 1000000) }

/-- 05 R82 step 6: JOB_START is posted when the job's report is BOTH. -/
def State.postJobStart (j : Job) (s : State) : State :=
  match j.spec.report with
  | .both => s.post (.jobStart j.id j.source j.spec.template j.spec.cls j.toggleBit)
  | .never | .atEnd => s

/-- 05 R82 steps 4 to 7: the first frame of a taken job starts. -/
def State.startFirst (j : Job) (s : State) : State := (s.startFrame j).postJobStart j

/-- 05 R82: a job that was WAITING becomes current and starts its first full frame. -/
def State.beginJob (j : Job) (s : State) : State :=
  (s.flipToggle j).1.startFirst
    (s.startHold { j with state := .current, toggleBit := (s.flipToggle j).2 })

/-- 05 R83: a job that was PARKED becomes current and resumes with a full frame. -/
def State.resumeJob (j : Job) (s : State) : State :=
  { s with engine := { s.engine with resumed := true } }.startFrame { j with state := .current }

/-- 05 R82, R83: the engine takes a job that has left the queue. -/
def State.takeJob (j : Job) (s : State) : State :=
  match j.state with
  | .parked => s.resumeJob j
  | .waiting | .current => s.beginJob j

/-- 04 R59, 05 R82, R83: the engine takes the head of the queue. -/
def State.takeHead (s : State) : State :=
  match s.queue.jobs with
  | [] => s
  | j :: rest => { s with queue := { s.queue with jobs := rest } }.takeJob j

/-- 05 R91, R99: the engine has no current job and its deadline has passed: it takes the head, or
goes to IDLE. -/
def State.takeOrIdle (s : State) : State :=
  match s.queue.jobs with
  | [] => { s with engine := { s.engine with state := .idle } }
  | _ :: _ => s.takeHead

/-- 05 R81: a job has been admitted: an IDLE engine takes the head at once. -/
def State.admitted (s : State) : State :=
  match s.engine.state with
  | .idle => s.takeHead
  | .emitting | .spacing | .stopped => s

/-! ### Ends (05 sections 5.3 and 5.4) -/

/-- 05 R87 steps 1 and 2: the engine ends its current job. -/
def State.endCurrent (j : Job) (reason : EndReason) (s : State) : State :=
  { s.jobLeaves j reason with engine := { s.engine with current := none } }

/-- 05 R85 step 2: frames sent of a job after one more frame; it stops at 255 (04 R56). -/
def Job.frameSent (j : Job) : Job := { j with framesSent := min (j.framesSent + 1) 255 }

/-- 05 R86: why the current job ends at its frame end, if it does. -/
def State.endAtFrame (s : State) (j : Job) : Option EndReason :=
  if (match j.spec.length with
      | .count n => decide (n ≤ j.framesSent)
      | .hold => false) then some .done
  else if s.reachedMin j then j.endPending.map PendingEnd.reason
  else none

/-- 05 R88: why the current job ends at a spacing end, if it does. -/
def State.endAtSpacing (s : State) (j : Job) : Option EndReason :=
  if s.reachedMin j then j.endPending.map PendingEnd.reason else none

/-- 02 R34: the position stops where it stands, at a frame end or a cut. -/
def State.stopPosition (s : State) : State :=
  { s with
    engine :=
      { s.engine with position := s.engine.position.map fun p => { p with stoppedAt := some s.now } } }

/-- 05 R85: the steps that come first at a frame end. -/
def State.frameCounted (j : Job) (p : Position) (s : State) : State :=
  { s.stopPosition.activityOff with
    engine :=
      { s.stopPosition.activityOff.engine with
        state := .spacing
        current := some j.frameSent
        deadline :=
          match s.templateOf j.spec.template with
          | some t => .running (t.deadline p.frameStart s.now)
          | none => .running (s.now + Config.minSpace) } }

/-- 05 R86, R87: the end decision at a frame end. -/
def State.decideAtFrame (j : Job) (s : State) : State :=
  match s.endAtFrame j with
  | some reason => (s.endCurrent j reason).startTail
  | none => s

/-- 05 R85 to R87: the frame of the current job ends. -/
def State.frameEnds (j : Job) (p : Position) (s : State) : State :=
  (s.frameCounted j p).decideAtFrame j.frameSent

/-- 02 R34: the interval being played has elapsed: the position moves on, or the frame ends. -/
def State.intervalEnds (s : State) : State :=
  match s.engine.state, s.engine.current, s.engine.position with
  | .emitting, some j, some p =>
    if p.since + (s.engine.buffer.getD p.index ⟨.mark, 0⟩).dur ≤ s.now then
      if p.index + 1 < s.engine.buffer.length then
        { s with
          engine :=
            { s.engine with position := some { p with index := p.index + 1, since := s.now } } }
      else s.frameEnds j p
    else s
  | _, _, _ => s

/-- 04 R59, 05 R89: the NORMAL current job is parked in favour of the URGENT head `u`. -/
def State.park (j u : Job) (rest : List Job) (s : State) : State :=
  { s with
    queue := { s.queue with jobs := insertAfterUrgent { j with state := .parked } rest } }.beginJob u

/-- 05 R89, R90: the current job that has not ended at this spacing end parks or goes on. -/
def State.parkOrGoOn (j : Job) (s : State) : State :=
  match s.queue.jobs with
  | u :: rest => if u.urgent ∧ ¬ j.urgent then s.park j u rest else s.startFrame j
  | [] => s.startFrame j

/-- 05 R88: the current job has ended at this spacing end: the engine goes on without it, and the
IND tail starts when no job is taken (03 R53). -/
def State.afterSpacingEnd (s : State) : State :=
  match s.queue.jobs with
  | [] => s.takeOrIdle.startTail
  | _ :: _ => s.takeOrIdle

/-- 05 R88 to R91: the spacing deadline is reached in SPACING. -/
def State.spacingEnds (s : State) : State :=
  if s.engine.state = .spacing ∧ s.engine.deadline.isDue s.now then
    match s.engine.current with
    | none => s.takeOrIdle
    | some j =>
      match s.endAtSpacing j with
      | some reason => (s.endCurrent j reason).afterSpacingEnd
      | none => s.parkOrGoOn j
  else s

/-! ### STOP and RESUME (05 section 5.7) -/

/-- 05 R96 steps 1 to 3: the frame in progress is cut. -/
def State.cutFrame (s : State) : State :=
  { s.stopPosition.activityOff with
    engine :=
      { s.stopPosition.activityOff.engine with deadline := .running (s.now + Config.minSpace) } }

/-- 05 R96 step 4, R97: the current job, if any, ends CUT. -/
def State.cutCurrent (s : State) : State :=
  match s.engine.current with
  | some j => s.endCurrent j .cut
  | none => s

/-- 03 R54, 05 R96, R97: IND is released and the engine goes to STOPPED. -/
def State.enterStopped (s : State) : State :=
  { s with
    engine := { s.engine with state := .stopped }
    ind := { asserted := false, tail := .stopped } }

/-- 05 R96, R97: a STOP. -/
def State.stopEngine (s : State) : State :=
  match s.engine.state with
  | .emitting => s.cutFrame.cutCurrent.enterStopped
  | .spacing | .idle => s.cutCurrent.enterStopped
  | .stopped => s

/-- 05 R99: whether the spacing deadline is still ahead. -/
def State.deadlineAhead (s : State) : Bool :=
  match s.engine.deadline with
  | .running due => decide (s.now < due)
  | .stopped | .paused _ => false

/-- 05 R99: a RESUME in STOPPED. -/
def State.resumeEngine (s : State) : State :=
  if s.deadlineAhead then { s with engine := { s.engine with state := .spacing } } else s.takeOrIdle

end Sys2Proof.Machine
end

