-- ==== Sys2Proof/Machine/Jobs.lean ====
section
/-! DEFINITION. The Emission Queue (04): admission, job ids, RELEASE, CANCEL, key releases, hold limits
and FLUSH. -/

namespace Sys2Proof.Machine

/-! ### Admission (04 section 4.3) -/

/-- 04 R61 check 2: the payload holds exactly ceil(payload bits ÷ 8) bytes, with no bit set at or
above the payload bits. -/
def payloadFits (t : Template) (payload : List Byte) : Bool :=
  decide (payload.length = ceilDiv t.payloadBits 8)
    && (List.range (8 * payload.length)).all fun i =>
        decide (i < t.payloadBits) || !payloadBit payload i

/-- 04 R61 check 3: a repeat form that can carry the length. -/
def repeatFits (t : Template) (len : Length) : Bool :=
  decide (t.repeatForm ≠ .none) || decide (len = .count 1)

/-- The setting of line Ek (03 R49). -/
def Settings.line (c : Settings) (k : Fin 3) : LineSetting :=
  match k with
  | 0 => c.lineE0
  | 1 => c.lineE1
  | 2 => c.lineE2

/-- Whether a mask names line Ek. -/
def names (mask : BitVec 3) (k : Fin 3) : Bool := mask.getLsbD k.val

/-- 04 R61 check 4: the mask names at least one line, and every line it names is enabled. -/
def maskFits (c : Settings) (mask : BitVec 3) : Bool :=
  decide (mask ≠ 0#3) && (List.finRange 3).all fun k => !names mask k || (c.line k).enabled

/-- 04 R61 checks 1 to 4, which are BIND's checks 3 to 6 as well (06 R111). -/
def State.specRefusal (s : State) (spec : JobSpec) : Option Status :=
  match s.templateOf spec.template with
  | none => some .noTemplate
  | some t =>
    if !payloadFits t spec.payload then some .badPayload
    else if !repeatFits t spec.length then some .badRepeat
    else if !maskFits s.settings spec.mask then some .badEmitter
    else none

/-- 04 R61: the six checks of admission; the first that fails decides. -/
def State.admissionRefusal (s : State) (spec : JobSpec) : Option Status :=
  match s.specRefusal spec with
  | some st => some st
  | none =>
    if Config.queueRoom ≤ s.queue.jobs.length then some .queueFull
    else if s.supply.low then some .lowSupply
    else none

/-- The live set: the entries of the queue and the current job (04 R57). -/
def State.liveJobs (s : State) : List Job := s.queue.jobs ++ s.engine.current.toList

/-- 04 R63: the value after an id, wrapping from 255 to 1. -/
def nextIdAfter (id : Nat) : Nat := if id = 255 then 1 else id + 1

/-- 04 R63: the first candidate from the counter on that is not in use. At most 9 ids are in use, so
`fuel` 9 steps are enough. -/
def freeId (used : List Nat) : Nat → Nat → Nat
  | 0, id => id
  | fuel + 1, id => if id ∈ used then freeId used fuel (nextIdAfter id) else id

/-- 04 R63: the id the next admission allocates. -/
def State.allocate (s : State) : Nat := freeId (s.liveJobs.map Job.id) 9 s.queue.nextId

/-- 04 R56: a job record at admission. -/
def newJob (id : Nat) (source : Source) (spec : JobSpec) : Job where
  id := id
  source := source
  spec := spec
  state := .waiting
  framesSent := 0
  endPending := none
  holdStarted := none
  toggleBit := none
  holdExpiry := none

/-- 04 R62 step 5: a key job's id is handed to the Key Scanner. -/
def giveLive (source : Source) (id : Nat) (keys : Vector KeyRec 8) : Vector KeyRec 8 :=
  match source with
  | .host => keys
  | .key k => keys.set k { keys[k] with live := some id }

/-- 04 R62 steps 1 to 5: a job that passed admission joins the queue. -/
def State.enrol (source : Source) (spec : JobSpec) (s : State) : State :=
  { s with
    queue :=
      { jobs := insertNew (newJob s.allocate source spec) s.queue.jobs
        nextId := nextIdAfter s.allocate }
    lib := s.lib.claim spec.template
    keys := giveLive source s.allocate s.keys }

/-- 04 R60: a SEND whose parameters are in range; the engine takes the job at once when it is IDLE,
before the reply is formed (assumption log entry 5, DEDUCED). -/
def State.send (spec : JobSpec) (s : State) : State × ReplyBody :=
  match s.admissionRefusal spec with
  | some st => (s, .status st)
  | none => ((s.enrol .host spec).admitted, .jobId s.allocate)

/-! ### Ending jobs early (04 section 4.4) -/

/-- The live job with an id (04 R68). -/
def State.findJob (s : State) (id : Nat) : Option Job := s.liveJobs.find? fun j => decide (j.id = id)

/-- A job takes an end pending reason, if it is the job with this id (04 R66). -/
def Job.mark (id : Nat) (reason : PendingEnd) (j : Job) : Job :=
  if j.id = id then { j with endPending := some reason } else j

/-- 04 R66: end pending is set on the live job with an id. -/
def State.markJob (id : Nat) (reason : PendingEnd) (s : State) : State :=
  { s with
    queue := { s.queue with jobs := s.queue.jobs.map (Job.mark id reason) }
    engine := { s.engine with current := s.engine.current.map (Job.mark id reason) } }

/-- 04 R67, R69: an entry is removed from the queue, which ends the job. -/
def State.removeJob (j : Job) (reason : EndReason) (s : State) : State :=
  { s with
    queue := { s.queue with jobs := s.queue.jobs.filter fun k => decide (k.id ≠ j.id) } }.jobLeaves
      j reason

/-- 04 R67: a reason on a live job with no end pending: a PARKED entry that has reached its minimum is
removed at once, and any other job is marked. -/
def State.endSoon (j : Job) (reason : PendingEnd) (s : State) : State × JobOutcome :=
  if j.state = .parked ∧ s.reachedMin j then (s.removeJob j reason.reason, .ended)
  else (s.markJob j.id reason, .pending)

/-- 04 R68: RELEASE. -/
def State.release (id : Nat) (s : State) : State × ReplyBody :=
  match s.findJob id with
  | none => (s, .status .noJob)
  | some j =>
    if j.spec.length ≠ .hold then (s, .status .notHold)
    else if j.endPending.isSome then (s, .status .ending)
    else ((s.endSoon j .released).1, .outcome (s.endSoon j .released).2)

/-- 04 R69: CANCEL. -/
def State.cancel (id : Nat) (s : State) : State × ReplyBody :=
  match s.findJob id with
  | none => (s, .status .noJob)
  | some j =>
    if j.endPending.isSome then (s, .status .ending)
    else if j.state = .waiting then (s.removeJob j .cancelled, .outcome .ended)
    else ((s.endSoon j .cancelled).1, .outcome (s.endSoon j .cancelled).2)

/-- 04 R70, 06 R115: a key release of key `k`'s live job: as RELEASE, without a reply; it names a job
only when the job's source is KEYk. -/
def State.keyRelease (k : Fin 8) (id : Nat) (s : State) : State :=
  match s.findJob id with
  | none => s
  | some j =>
    if j.source = .key k ∧ j.spec.length = .hold ∧ j.endPending = none then
      (s.endSoon j .released).1
    else s

/-- 04 R71, 05 R93: the hold-limit expiry of a live job falls due. -/
def State.holdExpires (id : Nat) (s : State) : State :=
  match s.findJob id with
  | none => s
  | some j =>
    match j.holdExpiry with
    | none => s
    | some due =>
      if due ≤ s.now ∧ j.endPending = none then (s.endSoon j .holdLimit).1 else s

/-- 04 R72: the entries leave the live set one after the other, head first. -/
def flushJobs : List Job → State → State
  | [], s => s
  | j :: rest, s => flushJobs rest (s.jobLeaves j .flushed)

/-- 04 R72: FLUSH. -/
def State.flush (s : State) : State × ReplyBody :=
  (flushJobs s.queue.jobs { s with queue := { s.queue with jobs := [] } },
    .removed s.queue.jobs.length)

/-! ### Reading the queue (04 R76) -/

/-- 04 R76, 11 section 11.5: the QUEUE_STATUS reply. -/
def State.queueStatus (s : State) : List Byte :=
  [s.engine.state.code, u8 s.queue.nextId, flagByte s.engine.current.isSome,
    u8 s.queue.jobs.length]
    ++ (match s.engine.current with
      | some j => j.summary
      | none => [0#8, 0#8, 0#8, 0#8, 0#8])
    ++ s.queue.jobs.flatMap Job.summary

/-! ### Emitter lines in use (03 R51) -/

/-- 03 R51 check 3: whether a line is in the mask of a live job. -/
def State.lineInUse (s : State) (k : Fin 3) : Bool := s.liveJobs.any fun j => names j.spec.mask k

end Sys2Proof.Machine
end

