-- ==== Sys2Proof/Machine/Keys.lean ====
section
/-! DEFINITION. The Key Scanner (06): edges and debounce, presses and releases, the binding table, and
KEY_ENABLE. -/

namespace Sys2Proof.Machine

/-! ### Key records (06 sections 6.1 and 6.2) -/

/-- Whether a key is enabled (06 R105). -/
def State.keyEnabled (s : State) (k : Fin 8) : Bool := s.settings.keyEnable.getLsbD k.val

/-- Whether the line of a key is high (06 R117). -/
def State.keyHigh (s : State) (k : Fin 8) : Bool := s.kLines.getLsbD k.val

/-- A key record is replaced. -/
def State.setKey (k : Fin 8) (r : KeyRec) (s : State) : State := { s with keys := s.keys.set k r }

/-- The level of a K line is recorded (06 R117). -/
def State.setKeyLine (k : Fin 8) (high : Bool) (s : State) : State :=
  { s with
    kLines :=
      if high then s.kLines ||| BitVec.twoPow 8 k.val else s.kLines &&& ~~~BitVec.twoPow 8 k.val }

/-- 06 R106: a debounce expiry set at an edge taken at `now`. -/
def debounceFrom (c : Settings) (now : Nat) : Timer := .running (now + c.debounce * 1000)

/-- 06 R107, R108: an edge on an enabled key. `due` is the expiry a debounce that it starts gets. -/
def KeyRec.edge (r : KeyRec) (high : Bool) (due : Timer) : KeyRec :=
  match r.state, high with
  | .up, false => { r with state := .pressing, expiry := due }
  | .pressing, true => { r with state := .up, expiry := .stopped }
  | .down, true => { r with state := .releasing, expiry := due }
  | .releasing, false => { r with state := .down, expiry := .stopped }
  | .locked, true => { r with expiry := due }
  | .locked, false => { r with expiry := .stopped }
  | .up, true | .pressing, false | .down, false | .releasing, true => r

/-- 06 R105, R107: the line of a key changes level; a disabled key ignores the edge. -/
def State.keyEdge (k : Fin 8) (high : Bool) (s : State) : State :=
  if s.keyEnabled k then
    (s.setKeyLine k high).setKey k (s.keys[k].edge high (debounceFrom s.settings s.now))
  else s.setKeyLine k high

/-! ### Presses and releases (06 sections 6.3 and 6.5) -/

/-- 06 R109: KEY_EVENT is posted when KEY_REPORT is on. -/
def State.reportKey (k : Fin 8) (down : Bool) (s : State) : State :=
  { s with
    link := if s.settings.keyReport then s.link.post (.keyEvent k down) else s.link }

/-- 06 R113: a key's press: STILL_LIVE, or the submission of its binding. -/
def State.submitPress (k : Fin 8) (s : State) : State :=
  match s.keys[k].binding with
  | none => s
  | some spec =>
    match s.keys[k].live with
    | some id => s.post (.keyRefused k .stillLive (some id))
    | none =>
      match s.admissionRefusal spec with
      | some st => s.post (.keyRefused k st none)
      | none => (s.enrol (.key k) spec).admitted

/-- 06 R107, R109, R113: the press of a key is taken. -/
def State.keyPress (k : Fin 8) (s : State) : State :=
  ((s.setKey k { s.keys[k] with state := .down, expiry := .stopped }).reportKey k true).submitPress k

/-- 06 R115: a release hands the key's live job id to the queue. -/
def State.handRelease (k : Fin 8) (s : State) : State :=
  match s.keys[k].live with
  | some id => s.keyRelease k id
  | none => s

/-- 06 R107, R109, R115: the release of a key is taken. -/
def State.keyReleased (k : Fin 8) (s : State) : State :=
  ((s.setKey k { s.keys[k] with state := .up, expiry := .stopped }).reportKey k false).handRelease k

/-- 06 R107, R108: a key's debounce expiry falls due. -/
def State.debounceExpires (k : Fin 8) (s : State) : State :=
  if s.keys[k].expiry.isDue s.now then
    match s.keys[k].state with
    | .pressing => s.keyPress k
    | .releasing => s.keyReleased k
    | .locked => s.setKey k { s.keys[k] with state := .up, expiry := .stopped }
    | .up | .down => s
  else s

/-! ### The binding table (06 section 6.4) -/

/-- 06 R111: a claim of +1 on the template of a key's new binding. -/
def Library.claimBinding (spec : JobSpec) (l : Library) : Library := l.claim spec.template

/-- 06 R111, R112: a claim of −1 on the template of a binding that is taken away, if there was one. -/
def Library.unclaimBinding (old : Option JobSpec) (l : Library) : Library :=
  match old with
  | some spec => l.unclaim spec.template
  | none => l

/-- 06 R111: BIND of a key to a record whose fields are in range. -/
def State.bindKey (k : Fin 8) (spec : JobSpec) (s : State) : State × ReplyBody :=
  match s.store.op with
  | .writing .. => (s, .status .saving)
  | .idle | .wiping .. =>
    match s.specRefusal spec with
    | some st => (s, .status st)
    | none =>
      ({ s with
          keys := s.keys.set k { s.keys[k] with binding := some spec }
          lib := (s.lib.unclaimBinding s.keys[k].binding).claimBinding spec },
        .replaced s.keys[k].binding.isSome)

/-- 06 R112: UNBIND of a key. -/
def State.unbindKey (k : Fin 8) (s : State) : State × ReplyBody :=
  match s.store.op with
  | .writing .. => (s, .status .saving)
  | .idle | .wiping .. =>
    ({ s with
        keys := s.keys.set k { s.keys[k] with binding := none }
        lib := s.lib.unclaimBinding s.keys[k].binding },
      .replaced s.keys[k].binding.isSome)

/-- 06 R105: a key whose entry in KEY_ENABLE has changed. -/
def KeyRec.enableChanged (r : KeyRec) (enabled high : Bool) : KeyRec :=
  if enabled ∧ ¬ high then { r with state := .locked, expiry := .stopped }
  else { r with state := .up, expiry := .stopped }

/-- 06 R105: KEY_ENABLE has changed from `old`. -/
def State.enableChanged (old : BitVec 8) (s : State) : State :=
  { s with
    keys := Vector.ofFn fun k : Fin 8 =>
      if old.getLsbD k.val = s.keyEnabled k then s.keys[k]
      else s.keys[k].enableChanged (s.keyEnabled k) (s.keyHigh k) }

/-- 06 R120: the state of a key after a reset. -/
def KeyRec.afterReset (r : KeyRec) (enabled high : Bool) : KeyRec :=
  { state := if enabled ∧ ¬ high then .locked else .up
    expiry := .stopped
    live := none
    binding := r.binding }

/-! ### Reading the keys (06 R117) -/

/-- The four bytes of a key in KEY_STATUS (11 section 11.5). -/
def State.keyBytes (s : State) (k : Fin 8) : List Byte :=
  [ u8 ((s.keyEnabled k).toNat + 2 * (s.keyHigh k).toNat + 4 * s.keys[k].binding.isSome.toNat),
    s.keys[k].state.code,
    orAbsent (s.keys[k].binding.map fun spec => spec.template.val),
    u8 (s.keys[k].live.getD 0) ]

/-- 06 R117, 11 section 11.5: the KEY_STATUS reply. -/
def State.keyStatus (s : State) : List Byte := (List.finRange 8).flatMap s.keyBytes

end Sys2Proof.Machine
end

