-- ==== Sys2Proof/Machine/Commit.lean ====
section
/-! DEFINITION. What TPL_COMMIT validates (01 R14, R15). The worst cases of R15 run over every payload,
up to 2^64 of them, so they are computed as greatest measures over sets of raw lists: a `Peaks` holds,
for a set of raw lists, the greatest measures of those that end in a MARK and of those that end in a
SPACE, and whether one of them holds no MARK. -/

namespace Sys2Proof.Machine

/-- A duration and an interval count, each the greatest of a set of raw lists. -/
structure Extent where
  dur : Nat
  count : Nat
  deriving DecidableEq, Repr

/-- The greatest measures of a set of raw lists, after merging, from the first MARK on (02 R32, R33).
`silent`: some list of the set holds no MARK. `atMark`: of the lists that end in a MARK.
`atSpace`: of the lists that hold a MARK and end in a SPACE, first up to the end of that SPACE, then
up to the end of the last MARK. -/
structure Peaks where
  silent : Bool
  atMark : Option Extent
  atSpace : Option (Extent × Extent)
  deriving DecidableEq, Repr

/-- The set of no raw list. -/
def Peaks.nothing : Peaks := ⟨false, none, none⟩

/-- The set that holds the empty raw list alone. -/
def Peaks.start : Peaks := ⟨true, none, none⟩

/-- The greater of two extents, field by field. -/
def Extent.max (x y : Extent) : Extent := ⟨Nat.max x.dur y.dur, Nat.max x.count y.count⟩

/-- The greater of two values that may be absent. -/
def joinWith {α : Type} (f : α → α → α) : Option α → Option α → Option α
  | none, y => y
  | some x, none => some x
  | some x, some y => some (f x y)

/-- The greatest measures of the union of two sets. -/
def Peaks.join (p q : Peaks) : Peaks where
  silent := p.silent || q.silent
  atMark := joinWith Extent.max p.atMark q.atMark
  atSpace := joinWith (fun x y => (x.1.max y.1, x.2.max y.2)) p.atSpace q.atSpace

/-- One more interval at the end of every raw list of the set: it joins a last interval of its kind
(02 R32), and a SPACE before the first MARK does not count (R33). -/
def Peaks.add (p : Peaks) (iv : Interval) : Peaks :=
  match iv.kind with
  | .mark =>
    { silent := false
      atMark :=
        joinWith Extent.max (if p.silent then some ⟨iv.dur, 1⟩ else none)
          (joinWith Extent.max (p.atMark.map fun e => ⟨e.dur + iv.dur, e.count⟩)
            (p.atSpace.map fun e => ⟨e.1.dur + iv.dur, e.1.count + 1⟩))
      atSpace := none }
  | .space =>
    { silent := p.silent
      atMark := none
      atSpace :=
        joinWith (fun x y => (x.1.max y.1, x.2.max y.2))
          (p.atMark.map fun e => (⟨e.dur + iv.dur, e.count + 1⟩, e))
          (p.atSpace.map fun e => (⟨e.1.dur + iv.dur, e.1.count⟩, e.2)) }

/-- A whole interval list at the end of every raw list of the set. -/
def Peaks.feed (p : Peaks) (ivs : List Interval) : Peaks := ivs.foldl Peaks.add p

/-- The union of a list of sets. -/
def Peaks.joinAll (ps : List Peaks) : Peaks := ps.foldl Peaks.join .nothing

/-- The symbols of a bit sequence at the end of every raw list of the set (02 R30). -/
def Peaks.feedBits (t : Template) (p : Peaks) (bits : List Bool) : Peaks :=
  p.feed ((t.steps bits).flatMap t.symbol)

/-- Check NONE: `n` steps, each with any symbol. -/
def peaksNone (t : Template) : Nat → Peaks → Peaks
  | 0, p => p
  | n + 1, p =>
    peaksNone t n
      (Peaks.joinAll ((List.range (2 ^ t.bitsPerSymbol)).map fun v => p.feed (t.symbol v)))

/-- Check INVERT_BYTES: `n` groups, each any byte followed by its complement (02 R28). -/
def peaksInvert (t : Template) : Nat → Peaks → Peaks
  | 0, p => p
  | n + 1, p =>
    peaksInvert t n
      (Peaks.joinAll ((List.range 256).map fun v =>
        p.feedBits t (bitsOfByte v ++ (bitsOfByte v).map (!·))))

/-- Every entry of a table of 256 moves up by `w` places, wrapping (addition modulo 256). -/
def rotate (w : Nat) (table : List Peaks) : List Peaks :=
  table.drop (256 - w % 256) ++ table.take (256 - w % 256)

/-- The weight in the SUM8 sum of payload bit `i` (02 R29). -/
def bitWeight (i : Nat) : Nat := 2 ^ (i % 8)

/-- The table of no raw list, one entry for each sum modulo 256. -/
def noTable : List Peaks := List.replicate 256 Peaks.nothing

/-- What the symbol of index `v` adds to the sum when its bits are the payload bits at these
positions, the first position the high bit of the index (02 R29, R30). -/
def stepWeight (positions : List Nat) (v : Nat) : Nat :=
  match positions with
  | [i] => v * bitWeight i
  | [i, j] => v / 2 * bitWeight i + v % 2 * bitWeight j
  | _ => 0

/-- Check SUM8, one step of the payload part: any symbol, and the table by the sum so far. -/
def sumStep (t : Template) (table : List Peaks) (positions : List Nat) : List Peaks :=
  (List.range (2 ^ positions.length)).foldl
    (fun acc v =>
      List.zipWith Peaks.join acc
        (rotate (stepWeight positions v) (table.map fun p => p.feed (t.symbol v))))
    noTable

/-- The positions that each step takes: one, or two with 4 symbols (02 R30). -/
def stepPositions (wide : Bool) : List Nat → List (List Nat)
  | i :: j :: rest => if wide then [i, j] :: stepPositions wide rest
      else [i] :: stepPositions wide (j :: rest)
  | [i] => [[i]]
  | [] => []

/-- The payload bit positions in the order in which they are sent (02 R27). -/
def Template.positions (t : Template) : List Nat :=
  match t.bitOrder with
  | .lsbFirst => List.range t.payloadBits
  | .msbFirst => (List.range t.payloadBits).reverse

/-- Check SUM8, the payload part: a table by the sum of the payload bytes (02 R29). -/
def peaksSum (t : Template) (lead : Peaks) : List Peaks :=
  (stepPositions (decide (t.bitsPerSymbol = 2)) t.positions).foldl (sumStep t)
    (noTable.set 0 lead)

/-- Check SUM8, the check byte: each sum sends its own eight bits (02 R29). -/
def peaksSumCheck (t : Template) (table : List Peaks) : Peaks :=
  Peaks.joinAll (table.mapIdx fun m p => p.feedBits t (t.bitOrder.arrange (bitsOfByte m)))

/-- 01 R15: the greatest measures of the frames of a template, over every payload of its payload
bits with the toggle bit set to either value. -/
def Template.peaks (t : Template) : Peaks :=
  let lead := Peaks.start.feed t.lead
  let body :=
    match t.check with
    | .none => peaksNone t (t.payloadBits / t.bitsPerSymbol) lead
    | .invertBytes => peaksInvert t (t.payloadBits / 8) lead
    | .sum8 => peaksSumCheck t (peaksSum t lead)
  body.feed t.trailer

/-- The greatest measures up to the end of the last MARK: the trailing SPACE is dropped (02 R33). -/
def Peaks.atLastMark (p : Peaks) : Option Extent :=
  joinWith Extent.max p.atMark (p.atSpace.map Prod.snd)

/-- 01 R15: the longest frame and the greatest interval count of a template's frames. -/
def Template.worst (t : Template) : Extent := (t.peaks.atLastMark).getD ⟨0, 0⟩

/-- Whether an interval list holds a MARK. -/
def holdsMark (ivs : List Interval) : Bool := ivs.any fun iv => decide (iv.kind = .mark)

/-- 01 R14: the reasons in their order, each with the condition under which it applies. The marker's
length is that of its whole list (assumption log entry 22, DEDUCED). -/
def Template.reasons (t : Template) : List (InvalidReason × Bool) :=
  [ (.noSymbols, t.symbolCount.isNone),
    (.oddPayload, decide (t.symbolCount = some 4) && decide (t.payloadBits % 2 = 1)),
    (.checkLength,
      match t.check with
      | .none => false
      | .invertBytes => decide (t.payloadBits % 8 ≠ 0) || decide (32 < t.payloadBits)
      | .sum8 => decide (t.payloadBits % 8 ≠ 0) || decide (56 < t.payloadBits)),
    (.toggleRange,
      match t.toggle with
      | none => false
      | some p => decide (t.payloadBits ≤ p)),
    (.noMark, t.peaks.silent),
    (.badMarker, decide (t.repeatForm = .marker) && !holdsMark t.marker),
    (.tooMany, decide (Config.bufferRoom < t.worst.count)),
    (.tooLong,
      decide (Config.longestFrame < t.worst.dur)
        || (decide (t.repeatForm = .marker) && decide (Config.longestFrame < total t.marker))) ]

/-- 01 R14: the first reason that applies, or none. -/
def Template.invalid? (t : Template) : Option InvalidReason :=
  (t.reasons.find? Prod.snd).map Prod.fst

end Sys2Proof.Machine
end

