-- ==== Sys2Proof/Machine/LibraryOps.lean ====
section
/-! DEFINITION. The requests of the Code Library (01): TPL_OPEN, TPL_PUT, TPL_COMMIT, TPL_ABORT,
TPL_ERASE, TPL_READ, TPL_STATUS, and the draft expiry. -/

namespace Sys2Proof.Machine

/-- 01 R4: the values of a new draft. -/
def newDraft : Template where
  carrier := 380
  duty := .third
  lead := []
  symbols := Vector.replicate 4 []
  payloadBits := 32
  bitOrder := .lsbFirst
  check := .none
  toggle := none
  trailer := [⟨.mark, 560⟩]
  repeatForm := .full
  marker := []
  spacingMode := .gap
  spacing := 40000
  minFrames := 1
  listen := false
  tolerance := 20

/-- Whether the Image Store is WRITING (10 R182). -/
def State.isWriting (s : State) : Bool :=
  match s.store.op with
  | .writing .. => true
  | .idle | .wiping .. => false

/-- A slot takes a new state (01 R1). -/
def Library.setState (t : Fin 16) (st : SlotState) (l : Library) : Library :=
  { l with slots := l.slots.set t { l.slots[t] with state := st } }

/-- A slot takes a new state, its toggle state set to 0 (01 R8). -/
def Library.setFresh (t : Fin 16) (st : SlotState) (l : Library) : Library :=
  { l with slots := l.slots.set t { l.slots[t] with state := st, toggle := false } }

/-- 01 R18: the draft expiry of a draft touched now. -/
def State.draftDue (s : State) : Timer := .running (s.now + Config.draftLife)

/-- 01 R9: the Draft Record of a successful TPL_OPEN. -/
def State.openDraft (t : Fin 16) (mode : DraftMode) (work : Template) (st : SlotState) (s : State) :
    State :=
  { s with
    lib :=
      { s.lib.setState t st with
        draft := some { slot := t, mode := mode, work := work, put := [], expiry := s.draftDue } } }

/-- 01 R9: TPL_OPEN with its parameters in range. -/
def State.tplOpen (t : Fin 16) (mode : DraftMode) (s : State) : State × ReplyBody :=
  if s.isWriting then (s, .status .saving)
  else if s.lib.draft.isSome then (s, .status .draftBusy)
  else
    match mode, s.lib.slots[t].state with
    | .new, .empty => (s.openDraft t .new newDraft .draft, .status .ok)
    | .revise, .ready d =>
      if s.lib.slots[t].refs ≠ 0 then (s, .status .inUse)
      else ((s.slotLeavesReady t).openDraft t .revise d (.revising d), .status .ok)
    | _, _ => (s, .status .slotState)

/-- 01 R11 step 4, R13: the fields of a section are replaced. -/
def Template.put (t : Template) : PartData → Template
  | .carrier c d => { t with carrier := c, duty := d }
  | .lead ivs => { t with lead := ivs }
  | .symbol n ivs => { t with symbols := t.symbols.set n ivs }
  | .format bits order check toggle =>
    { t with payloadBits := bits, bitOrder := order, check := check, toggle := toggle }
  | .trailer ivs => { t with trailer := ivs }
  | .repetition form marker => { t with repeatForm := form, marker := marker }
  | .spacing mode value minFrames =>
    { t with spacingMode := mode, spacing := value, minFrames := minFrames }
  | .receive listen tolerance => { t with listen := listen, tolerance := tolerance }

/-- The section that a put names; each symbol number is a section of its own (01 R2). -/
def PartData.part : PartData → Part
  | .carrier .. => .carrier
  | .lead _ => .lead
  | .symbol n _ => .symbol n
  | .format .. => .format
  | .trailer _ => .trailer
  | .repetition .. => .repetition
  | .spacing .. => .spacing
  | .receive .. => .receive

/-- 01 R2: a section joins the sections put set; a section put twice appears once. -/
def addPart (p : Part) (put : List Part) : List Part := if p ∈ put then put else put ++ [p]

/-- 01 R18: the draft is renewed. -/
def Draft.renew (d : Draft) (due : Timer) : Draft := { d with expiry := due }

/-- 01 R11: a draft with a section put. -/
def Draft.accept (d : Draft) (data : PartData) : Draft :=
  { d with work := d.work.put data, put := addPart data.part d.put }

/-- The Draft Record is replaced. -/
def State.setDraft (d : Option Draft) (s : State) : State := { s with lib := { s.lib with draft := d } }

/-- 01 R11: TPL_PUT of a section's data, or of data that breaks its value rules. Every put renews an
existing draft, whatever its reply. -/
def State.tplPut (data : Option PartData) (s : State) : State × ReplyBody :=
  match s.lib.draft with
  | none => (s, .status (if s.isWriting then .saving else .noDraft))
  | some d =>
    if s.isWriting then (s.setDraft (some (d.renew s.draftDue)), .status .saving)
    else
      match data with
      | none => (s.setDraft (some (d.renew s.draftDue)), .status .badValue)
      | some p => (s.setDraft (some ((d.accept p).renew s.draftDue)), .status .ok)

/-- 01 R16: the working template becomes the slot's definition, and the draft ends. -/
def State.install (d : Draft) (s : State) : State :=
  { s with lib := { s.lib.setFresh d.slot (.ready d.work) with draft := none } }

/-- 01 R14, R16: TPL_COMMIT. -/
def State.tplCommit (s : State) : State × ReplyBody :=
  if s.isWriting then (s, .status .saving)
  else
    match s.lib.draft with
    | none => (s, .status .noDraft)
    | some d =>
      match d.work.invalid? with
      | some reason => (s, .invalid reason)
      | none => (s.install d, .status .ok)

/-- 01 R17: where a slot bound to an abandoned draft goes. -/
def SlotState.restored : SlotState → SlotState
  | .draft => .empty
  | .revising kept => .ready kept
  | .empty => .empty
  | .ready t => .ready t

/-- 01 R17: the draft is abandoned. -/
def Library.abandon (l : Library) : Library :=
  match l.draft with
  | none => l
  | some d => { l.setState d.slot l.slots[d.slot].state.restored with draft := none }

/-- 01 R17: TPL_ABORT. -/
def State.tplAbort (s : State) : State × ReplyBody :=
  match s.lib.draft with
  | none => (s, .status .noDraft)
  | some _ => ({ s with lib := s.lib.abandon }, .status .ok)

/-- 01 R18: the draft expiry falls due. -/
def State.draftExpires (s : State) : State :=
  match s.lib.draft with
  | none => s
  | some d =>
    if d.expiry.isDue s.now then
      { s with lib := s.lib.abandon }.post (.draftExpired d.slot d.mode)
    else s

/-- 01 R19: TPL_ERASE of a slot. -/
def State.tplErase (t : Fin 16) (s : State) : State × ReplyBody :=
  if s.isWriting then (s, .status .saving)
  else
    match s.lib.slots[t].state with
    | .ready _ =>
      if s.lib.slots[t].refs ≠ 0 then (s, .status .inUse)
      else
        ({ s.slotLeavesReady t with lib := (s.slotLeavesReady t).lib.setFresh t .empty },
          .status .ok)
    | .empty | .draft | .revising _ => (s, .status .slotState)

/-- 01 R20: TPL_READ with copy STORED. -/
def State.readStored (t : Fin 16) (p : Part) (s : State) : State × ReplyBody :=
  match s.lib.slots[t].state.definition with
  | some d => (s, .part (d.partBytes p))
  | none => (s, .status .slotState)

/-- 01 R20: TPL_READ with copy DRAFT; it renews the draft it reads. -/
def State.readDraft (t : Fin 16) (p : Part) (s : State) : State × ReplyBody :=
  match s.lib.draft with
  | none => (s, .status .noDraft)
  | some d =>
    if d.slot ≠ t then (s, .status .slotState)
    else (s.setDraft (some (d.renew s.draftDue)), .part (d.work.partBytes p))

/-- The three bytes of a slot in TPL_STATUS (11 section 11.5). -/
def State.slotBytes (s : State) (t : Fin 16) : List Byte :=
  [s.lib.slots[t].state.code, u8 s.lib.slots[t].refs, flagByte s.lib.slots[t].toggle]

/-- 01 R21: whole seconds to the draft expiry, rounded up, 1 to 30. -/
def Draft.seconds (d : Draft) (now : Nat) : Nat := max 1 (ceilDiv (d.expiry.left now) 1000000)

/-- 01 R21, 11 section 11.5: the draft status of TPL_STATUS. -/
def State.draftBytes (s : State) : List Byte :=
  match s.lib.draft with
  | none => [0#8, 0xFF#8, 0xFF#8, 0#8, 0#8, 0#8]
  | some d => [1#8, u8 d.slot.val, d.mode.code] ++ u16 (putMask d.put) ++ [u8 (d.seconds s.now)]

/-- 01 R21, 11 section 11.5: the TPL_STATUS reply. -/
def State.tplStatus (s : State) : List Byte :=
  (List.finRange 16).flatMap s.slotBytes ++ s.draftBytes

end Sys2Proof.Machine
end

