-- ==== Sys2Proof/Machine/StoreOps.lean ====
section
/-! DEFINITION. The Image Store and the Supply Watch (10 sections 10.1 to 10.4). -/

namespace Sys2Proof.Machine

/-! ### Banks and images (10 section 10.1) -/

/-- A bank by name. -/
def Store.bank (st : Store) : BankName → Bank
  | .a => st.bankA
  | .b => st.bankB

/-- A bank is replaced. -/
def Store.setBank (st : Store) (n : BankName) (b : Bank) : Store :=
  match n with
  | .a => { st with bankA := b }
  | .b => { st with bankB := b }

/-- The other bank. -/
def BankName.other : BankName → BankName
  | .a => .b
  | .b => .a

/-- 10 R178: the bank that holds the highest valid generation, with that generation. -/
def Store.newest (st : Store) : Option (BankName × Nat) :=
  match st.bankA, st.bankB with
  | .valid ga _, .valid gb _ => if ga < gb then some (.b, gb) else some (.a, ga)
  | .valid ga _, .invalid => some (.a, ga)
  | .invalid, .valid gb _ => some (.b, gb)
  | .invalid, .invalid => none

/-- The image of a bank. -/
def Bank.image : Bank → Option Image
  | .valid _ img => some img
  | .invalid => none

/-- 10 R180: the target of a save; 10 R184: the first bank of a wipe: the bank that does not hold the
highest valid generation, or A when neither is VALID. -/
def Store.target (st : Store) : BankName :=
  match st.newest with
  | some (n, _) => n.other
  | none => .a

/-- 10 R180: the highest valid generation, 0 when neither bank is VALID. -/
def Store.highest (st : Store) : Nat :=
  match st.newest with
  | some (_, g) => g
  | none => 0

/-- 10 R178: the image of the working library, bindings and settings: a REVISING slot is stored with
its retained definition. -/
def State.image (s : State) : Image where
  slots := Vector.ofFn fun t : Fin 16 => s.lib.slots[t].state.definition
  bindings := Vector.ofFn fun k : Fin 8 => s.keys[k].binding
  settings := s.settings

/-- 10 R181: how long the write of an image lasts. -/
def Image.writeTime (img : Image) : Nat :=
  Config.writeBase + Config.writePerSlot * (img.slots.toList.countP Option.isSome)
    + Config.writePerBinding * (img.bindings.toList.countP Option.isSome)

/-! ### Saving and wiping (10 sections 10.2 and 10.3) -/

/-- 10 R180 steps 1 and 2: the target becomes INVALID and the write begins. -/
def State.beginSave (s : State) : State :=
  { s with
    store :=
      { s.store.setBank s.store.target .invalid with
        op := .writing s.store.target (s.store.highest + 1) (s.now + s.image.writeTime) s.image } }

/-- 10 R180: SAVE. -/
def State.save (s : State) : State × ReplyBody :=
  if s.supply.low then (s, .status .lowSupply)
  else
    match s.store.op with
    | .writing .. | .wiping .. => (s, .status .saving)
    | .idle =>
      if Config.lastGeneration ≤ s.store.highest then (s, .status .badValue)
      else (s.beginSave, .saveAccepted s.store.target (s.store.highest + 1))

/-- 10 R181: the write completes. -/
def State.writeCompletes (s : State) : State :=
  match s.store.op with
  | .writing target gen done img =>
    if done ≤ s.now then
      { s with
        store := { s.store.setBank target (.valid gen img) with op := .idle } }.post
          (.saveDone (.ok target gen))
    else s
  | .idle | .wiping .. => s

/-- 10 R184: WIPE. -/
def State.wipe (s : State) : State × ReplyBody :=
  match s.store.op with
  | .writing .. | .wiping .. => (s, .status .saving)
  | .idle =>
    ({ s with
        store :=
          { s.store.setBank s.store.target .invalid with
            op := .wiping s.store.target (s.now + Config.eraseTime) false } },
      .status .accepted)

/-- 10 R184: the erase of a bank ends. -/
def State.eraseEnds (s : State) : State :=
  match s.store.op with
  | .wiping bank done second =>
    if done ≤ s.now then
      if second then { s with store := { s.store with op := .idle } }.post (.saveDone .wiped)
      else
        { s with
          store :=
            { s.store.setBank bank.other .invalid with
              op := .wiping bank.other (s.now + Config.eraseTime) true } }
    else s
  | .idle | .writing .. => s

/-- 10 R183: a save in progress is abandoned. -/
def State.abandonSave (s : State) : State :=
  match s.store.op with
  | .writing target _ _ _ =>
    { s with store := { s.store with op := .idle } }.post (.saveDone (.failedSupply target))
  | .idle | .wiping .. => s

/-! ### Reading the store (10 R185) -/

/-- A bank in STORE_STATUS: valid, and its generation, 0 when INVALID (11 section 11.5). -/
def Bank.bytes : Bank → List Byte
  | .valid gen _ => 1#8 :: u32 gen
  | .invalid => 0#8 :: u32 0

/-- 10 R185: whole milliseconds to a moment, rounded up. -/
def msUntil (now moment : Nat) : Nat := ceilDiv (moment - now) 1000

/-- The operation in progress in STORE_STATUS (11 section 11.5); a wipe's time remaining runs to the
end of the wipe. -/
def StoreOp.bytes (op : StoreOp) (now : Nat) : List Byte :=
  match op with
  | .idle => 0xFF#8 :: u32 0 ++ u16 0
  | .writing target gen done _ => target.code :: u32 gen ++ u16 (msUntil now done)
  | .wiping bank done second =>
    bank.code :: u32 0 ++ u16 (msUntil now (if second then done else done + Config.eraseTime))

/-- 10 R185, 11 section 11.5: the STORE_STATUS reply. -/
def State.storeStatus (s : State) : List Byte :=
  s.store.op.code :: s.store.bankA.bytes ++ s.store.bankB.bytes ++ s.store.op.bytes s.now

/-! ### The Supply Watch (10 section 10.4) -/

/-- 10 R186: the supply state that VDD asks for: LOW below the threshold, OK above it plus 0.1 V, no
change between them. -/
def supplyAfter (vdd threshold : Nat) (low : Bool) : Bool :=
  if vdd < threshold * 100 then true
  else if threshold * 100 + 100 < vdd then false
  else low

/-- 10 R186: the supply state changes, with its SUPPLY notice. -/
def State.supplyBecomes (low : Bool) (s : State) : State :=
  { s with supply := { s.supply with low := low } }.post (.supply low s.settings.supplyThreshold)

/-- 10 R183, R186: the Supply Watch compares VDD with the threshold. A change posts its SUPPLY notice,
and a change to LOW abandons a save in progress. -/
def State.compareSupply (s : State) : State :=
  if supplyAfter s.supply.vdd s.settings.supplyThreshold s.supply.low = s.supply.low then s
  else if s.supply.low then s.supplyBecomes false
  else (s.supplyBecomes true).abandonSave

end Sys2Proof.Machine
end

