-- ==== Sys2Proof/Machine/SettingOps.lean ====
section
/-! DEFINITION. SET and GET (09 R176), with what a new value does to its owning block at once. -/

namespace Sys2Proof.Machine

/-- The emitter line a setting belongs to. -/
def SettingId.emitter : SettingId → Option (Fin 3)
  | .lineE0 => some 0
  | .lineE1 => some 1
  | .lineE2 => some 2
  | _ => none

/-- 03 R51 check 3, 09 R176 check 4: a SET of a line that a live job's mask names is refused unless it
repeats the present setting. -/
def State.lineBlocked (s : State) (i : SettingId) (v : Nat) : Bool :=
  match i.emitter with
  | some k => decide (s.settings.get i ≠ v) && s.lineInUse k
  | none => false

/-- 09 R176: a value that has changed acts on its owning block at the moment the SET is taken: 06 R105,
07 R132 to R135, 10 R186. Every other setting is read where it is used; `old` is KEY_ENABLE before. -/
def State.settingActs (i : SettingId) (old : BitVec 8) (s : State) : State :=
  match i with
  | .keyEnable => s.enableChanged old
  | .rxEnable => if s.settings.rxEnable then s.receiverOn else s.receiverOff
  | .rxPolarity => s.polarityChanged
  | .rxBlank => s.blankChanged
  | .supplyThreshold => s.compareSupply
  | .holdLimit | .debounce | .keyReport | .rxGlitch | .rxBurstEnd | .rxBlankTail | .rxWindow
  | .rxReportRepeats | .rxReportUnknown | .rxWake | .indTail | .lineE0 | .lineE1 | .lineE2 | .doze
  | .dozeDelay => s

/-- 09 R176: the new value replaces the old one; a value that repeats the present one changes
nothing. -/
def State.putSetting (i : SettingId) (v : Nat) (s : State) : State :=
  if s.settings.get i = v then s
  else { s with settings := s.settings.put i v }.settingActs i s.settings.keyEnable

/-- 09 R176: SET of a setting id to a value. -/
def State.setSetting (id : Byte) (v : Nat) (s : State) : State × ReplyBody :=
  match SettingId.ofByte id with
  | none => (s, .status .badValue)
  | some i =>
    if !i.inRange v then (s, .status .badValue)
    else if s.isWriting then (s, .status .saving)
    else if s.lineBlocked i v then (s, .status .lineInUse)
    else (s.putSetting i v, .status .ok)

/-- 09 R176: GET of a setting id. -/
def State.getSetting (id : Byte) (s : State) : State × ReplyBody :=
  match SettingId.ofByte id with
  | none => (s, .status .badValue)
  | some i => (s, .setting id (BitVec.ofNat 32 (s.settings.get i)))

end Sys2Proof.Machine
end

