-- ==== Sys2Proof/Machine/Doze.lean ====
section
/-! DEFINITION. Doze Control (10 section 10.5): the part's quiet, the doze delay timer, the entry to DOZE,
the wake sources and the end of the wake latency. -/

namespace Sys2Proof.Machine

/-! ### Quiet and the doze delay timer (10 R189) -/

/-- 06 R119: every enabled key is UP or LOCKED. -/
def State.keysQuiet (s : State) : Bool :=
  (List.finRange 8).all fun k =>
    !s.keyEnabled k || decide (s.keys[k].state = .up) || decide (s.keys[k].state = .locked)

/-- Whether a burst slot is FULL. -/
def BurstSlot.isFull : BurstSlot → Bool
  | .full .. => true
  | .free | .filling .. => false

/-- 07 R137, 10 R189: the receiver is QUIET or OFF, no slot is FULL, and the blank tail is stopped. -/
def Receiver.isQuiet (rx : Receiver) : Bool :=
  (decide (rx.state = .quiet) || decide (rx.state = .off))
    && !rx.slotA.isFull && !rx.slotB.isFull && !rx.blankTail.isRunning

/-- 09 R177, 10 R189: the link holds nothing and receives nothing. -/
def Link.isQuiet (l : Link) : Bool :=
  l.intake.isEmpty && decide (l.handler = .idle) && l.replies.isEmpty && l.notices.isEmpty
    && decide (l.receiver = .hunt)

/-- Whether the Learn Buffer is ARMED (08 R156). -/
def LearnBuffer.isArmed : LearnBuffer → Bool
  | .armed _ => true
  | .idle | .filled _ => false

/-- 10 R189: the part is quiet. -/
def State.isQuiet (s : State) : Bool :=
  (decide (s.engine.state = .idle) || decide (s.engine.state = .stopped))
    && s.queue.jobs.isEmpty && s.keysQuiet && s.rx.isQuiet && decide (s.tracker = .quiet)
    && !s.learn.isArmed && decide (s.store.op = .idle) && s.link.isQuiet

/-- 10 R189: the doze delay timer after a step: it runs while DOZE is on and the part is quiet, with
the expiry it started with, and is stopped otherwise. In DOZE and in the wake latency it does not
run. -/
def State.delayAfter (s : State) : Timer :=
  match s.doze.state with
  | .dozing | .waking _ => s.doze.delay
  | .awake =>
    if s.settings.doze ∧ s.isQuiet then
      match s.doze.delay with
      | .stopped => .running (s.now + s.settings.dozeDelay * 1000)
      | .running due => .running due
      | .paused left => .paused left
    else .stopped

/-- 10 R189: the doze delay timer follows DOZE and the part's quiet. -/
def State.settle (s : State) : State := { s with doze := { s.doze with delay := s.delayAfter } }

/-- An event reaches the part after `dt` µs. Held in reset (10 R186, 03 R52), only `held` happens;
otherwise the event acts, and the doze delay timer follows (R189). -/
def State.eventOr (dt : Nat) (held act : State → State) (s : State) : State :=
  if s.heldInReset then held (s.advance dt) else (act (s.advance dt)).settle

/-- An event that a part held in reset does not see, but that time passes. -/
def State.event (dt : Nat) (act : State → State) (s : State) : State := s.eventOr dt id act

/-- An event of a block that stands still without the oscillator (10 section 10.5): in DOZE and in the
wake latency it does not occur. -/
def State.whenAwake (act : State → State) (s : State) : State := if s.isAwake then act s else s

/-! ### Entry to DOZE (10 R190) -/

/-- A draft's expiry is paused or resumed. -/
def Library.mapExpiry (f : Timer → Timer) (l : Library) : Library :=
  { l with draft := l.draft.map fun d => { d with expiry := f d.expiry } }

/-- The reply cache window is paused or resumed (09 R168). -/
def Link.mapWindow (f : Timer → Timer) (l : Link) : Link :=
  { l with cache := l.cache.map fun e => { e with closing := f e.closing } }

/-- 10 R190: every timer that can be running when the part enters DOZE: the draft expiry, the spacing
deadline, the reply cache window and the debounce expiries of LOCKED keys. -/
def State.mapTimers (f : Timer → Timer) (s : State) : State :=
  { s with
    lib := s.lib.mapExpiry f
    engine := { s.engine with deadline := f s.engine.deadline }
    link := s.link.mapWindow f
    keys := Vector.ofFn fun k : Fin 8 => { s.keys[k] with expiry := f s.keys[k].expiry } }

/-- 10 R190, 03 R54, 07 R122: the part enters DOZE. -/
def State.enterDoze (s : State) : State :=
  { (s.mapTimers fun t => t.pause s.now).releaseInd with
    rx := { s.rx with candidate := none }
    doze := { state := .dozing, delay := .stopped } }

/-- 10 R189: the doze delay timer expires while DOZE is on and the part is quiet. -/
def State.delayExpires (s : State) : State :=
  if s.doze.delay.isDue s.now ∧ s.settings.doze ∧ s.isQuiet then s.enterDoze else s

/-! ### Waking (10 R191) -/

/-- 10 R191: a wake source starts the wake latency; in any other doze state it starts nothing. -/
def State.wake (byRxin : Bool) (s : State) : State :=
  match s.doze.state with
  | .dozing => { s with doze := { s.doze with state := .waking byRxin } }
  | .awake | .waking _ => s

/-- 06 R119, 10 R191: an edge on an enabled K line acts on its key at its own moment, whether the part
is awake or not, and wakes a dozing part. An edge on a disabled K line does not wake it. The level that
the line has is no edge (assumption log entry 23, DESIGN CHOICE). -/
def State.keyLineChanges (k : Fin 8) (high : Bool) (s : State) : State :=
  if s.keyHigh k = high then s
  else if s.keyEnabled k then (s.keyEdge k high).wake false
  else s.keyEdge k high

/-- 07 R137, 10 R191: RXIN at its mark level wakes a dozing part when RX_WAKE is on and the receiver is
QUIET. -/
def State.wakeOnMark (s : State) : State :=
  if s.lineCondition = .mark ∧ s.settings.rxWake ∧ s.rx.state = .quiet then s.wake true else s

/-- 07 R137, 10 R191: RXIN changes level. Awake, the glitch filter takes the change; otherwise it is not
seen, but that a change to the mark level wakes a dozing part when RX_WAKE is on and the receiver is
QUIET. -/
def State.rxinChanges (high : Bool) (s : State) : State :=
  if s.rx.lineHigh = high then s
  else
    match s.doze.state with
    | .awake => s.lineChanges high
    | .dozing | .waking _ => (s.setRxinLine high).wakeOnMark

/-- 07 R137: after an RXIN wake the receiver goes to DISCARD; with the line at space its burst-end
timer starts now. -/
def State.discardAtWake (s : State) : State :=
  { s with
    rx :=
      { s.rx with
        state := .discard
        lastEdge := s.now
        burstEnd := match s.rx.filtered with
          | .space => s.burstEndDue s.now
          | .mark => .stopped } }

/-- 10 R191, R190: the paused timers resume, and the frame receiver listens from the next µs on: a
character that begins in the µs in which the latency ends is lost, so that the character that woke the
part is lost after a latency of 0 µs too (assumption log entry 24, DESIGN CHOICE). -/
def State.resumeTimers (s : State) : State :=
  { s.mapTimers fun t => t.resume s.now with
    doze := { state := .awake, delay := .stopped }
    link := { (s.mapTimers fun t => t.resume s.now).link with listenFrom := s.now + 1 } }

/-- 07 R137: the receiver at a wake, by RXIN or by another source. -/
def State.receiverWakes (byRxin : Bool) (s : State) : State :=
  if byRxin then s.readLine.discardAtWake else s.readLine

/-- 10 R191: the oscillator runs again: the paused timers resume, the frame receiver listens, the filtered condition is read from the line, and the Supply Watch compares VDD. -/
def State.becomeAwake (byRxin : Bool) (s : State) : State :=
  (s.resumeTimers.receiverWakes byRxin).compareSupply

/-- 10 R191: the wake latency ends. -/
def State.latencyEnds (s : State) : State :=
  match s.doze.state with
  | .waking byRxin => s.becomeAwake byRxin
  | .awake | .dozing => s

end Sys2Proof.Machine
end

