-- ==== Sys2Proof/Machine/Resets.lean ====
section
/-! DEFINITION. The three resets (10 R179, R186; 01 R23, R24; 04 R78; 05 R103; 06 R120; 07 R138; 08 R149,
R156; 09 R177), VDD and RESETn. -/

namespace Sys2Proof.Machine

/-- 01 R23: the reference count of a slot right after a reset: the bindings that name it. -/
def bindingsOn (bindings : Vector (Option JobSpec) 8) (t : Fin 16) : Nat :=
  bindings.toList.countP fun b =>
    match b with
    | some spec => decide (spec.template = t)
    | none => false

/-- 01 R23, R24: the library after a reset with these slot states and bindings. -/
def Library.afterReset (slots : Vector SlotState 16) (bindings : Vector (Option JobSpec) 8) :
    Library where
  slots := Vector.ofFn fun t : Fin 16 =>
    { state := slots[t], refs := bindingsOn bindings t, toggle := false }
  draft := none

/-- 05 R103: the engine after a reset. -/
def Engine.afterReset : Engine where
  state := .idle
  current := none
  buffer := []
  position := none
  deadline := .stopped
  resumed := false
  emitting := false

/-- 07 R138: the receiver after a reset, its filtered condition read from the line. -/
def Receiver.afterReset (lineHigh : Bool) (c : Settings) : Receiver where
  lineHigh := lineHigh
  filtered := conditionOf lineHigh c.rxHighActive
  candidate := none
  state := if c.rxEnable then .quiet else .off
  lastEdge := 0
  burstEnd := .stopped
  markLimit := .stopped
  blankTail := .stopped
  slotA := .free
  slotB := .free
  nextOrder := 0

/-- 09 R177, R161: the link after a reset, before START is posted: the BAUD strap is read, and gives the
bit rate until the next reset. -/
def Link.afterReset (strap : Bool) (listenFrom : Nat) : Link where
  receiver := .hunt
  interByte := .stopped
  listenFrom := listenFrom
  intake := []
  handler := .idle
  replies := []
  cache := none
  notices := []
  lost := false
  seq := 0#8
  sending := none
  fast := strap

/-- 06 R120: the keys after a reset, with these bindings. -/
def State.keysAfterReset (bindings : Vector (Option JobSpec) 8) (c : Settings) (s : State) :
    Vector KeyRec 8 :=
  Vector.ofFn fun k : Fin 8 =>
    { s.keys[k] with binding := bindings[k] }.afterReset (c.keyEnable.getLsbD k.val) (s.keyHigh k)

/-- Every block takes its reset state, with these slot states, bindings and settings in place: 01 R23,
R24; 03 R45, R55; 04 R78; 05 R103; 06 R120; 07 R138; 08 R149, R156; 09 R177; 10 R186, R189. -/
def State.blocksReset (slots : Vector SlotState 16) (bindings : Vector (Option JobSpec) 8)
    (c : Settings) (link : Link) (s : State) : State :=
  { s with
    settings := c
    lib := Library.afterReset slots bindings
    queue := { jobs := [], nextId := 1 }
    engine := Engine.afterReset
    carrier := .modulated 421 140
    ind := { asserted := false, tail := .stopped }
    keys := s.keysAfterReset bindings c
    rx := Receiver.afterReset s.rx.lineHigh c
    matcher := none
    tracker := .quiet
    learn := .idle
    link := link
    supply := { s.supply with low := decide (s.supply.vdd < c.supplyThreshold * 100) }
    doze := { state := .awake, delay := .stopped } }

/-- 09 R177, 10 R186: START is the first notice after a reset; SUPPLY LOW follows it when the state
after the reset is LOW. -/
def State.announce (reason : ResetReason) (status : ImageStatus) (s : State) : State :=
  if s.supply.low then
    (s.post (.start reason status)).post (.supply true s.settings.supplyThreshold)
  else s.post (.start reason status)

/-- 10 R179: the bank that a power-on or pin reset loads, with its generation and its image. -/
def Store.loaded (st : Store) : Option (BankName × Nat × Image) :=
  match st.newest with
  | none => none
  | some (n, gen) =>
    match (st.bank n).image with
    | some img => some (n, gen, img)
    | none => none

/-- 10 R178: a slot of a loaded image: READY with the stored definition, or EMPTY. -/
def slotLoaded : Option Template → SlotState
  | some t => .ready t
  | none => .empty

/-- 10 R179: the image that stands for no VALID bank: every slot EMPTY, no bindings, every setting at
its default. -/
def Image.blank : Image where
  slots := Vector.replicate 16 none
  bindings := Vector.replicate 8 none
  settings := Settings.defaults

/-- 10 R179: the image a power-on or pin reset takes, and the image status it reports. -/
def Store.boot (st : Store) : Image × ImageStatus :=
  match st.loaded with
  | some (n, gen, img) => (img, .loaded n gen)
  | none => (Image.blank, .blank)

/-- 10 R179, R183, R184: a write or an erase ends where it stands. -/
def State.endStoreOp (s : State) : State := { s with store := { s.store with op := .idle } }

/-- 10 R179: an image becomes the part's working state, and every block takes its reset state. -/
def State.load (img : Image) (strap : Bool) (s : State) : State :=
  s.blocksReset (Vector.ofFn fun t : Fin 16 => slotLoaded img.slots[t]) img.bindings img.settings
    (Link.afterReset strap s.now)

/-- 10 R179, R183, R184: a power-on or pin reset: a write or an erase ends where it stands, the image
is loaded, every block takes its reset state, and START is posted. -/
def State.hardReset (reason : ResetReason) (strap : Bool) (s : State) : State :=
  (s.endStoreOp.load s.store.boot.1 strap).announce reason s.store.boot.2

/-- 01 R24, 10 R179, 09 R177: a soft reset: slots, bindings and settings are kept, the draft is
abandoned, every block takes its reset state with the BAUD strap as it is now found (R161), and START KEPT
is posted. The frame receiver listens on without a break (assumption log entry 30, DEDUCED). -/
def State.softReset (strap : Bool) (s : State) : State :=
  (s.blocksReset (Vector.ofFn fun t : Fin 16 => s.lib.abandon.slots[t].state)
      (Vector.ofFn fun k : Fin 8 => s.keys[k].binding) s.settings
      (Link.afterReset strap s.link.listenFrom)).announce .restart (.kept s.store.newest)

/-! ### The supply, RESETn and the reset (10 R186, 03 R52) -/

/-- VDD takes a value (10 R186). -/
def State.setVdd (vdd : Nat) (s : State) : State := { s with supply := { s.supply with vdd := vdd } }

/-- RESETn takes a level. -/
def State.setReset (low : Bool) (s : State) : State := { s with resetLow := low }

/-- What a part that is held in reset does not do (10 R186, 03 R52). -/
def State.unlessHeld (act : State → State) (s : State) : State :=
  if s.heldInReset then s else act s

/-- 10 R179, R186: a power-on reset with VDD at `vdd` mV. Below 1.8 V, or with RESETn low, the part is held
in reset, and nothing is loaded (assumption log entry 17, DEDUCED). -/
def State.powerOn (vdd : Nat) (strap : Bool) (s : State) : State :=
  (s.setVdd vdd).unlessHeld (State.hardReset .power strap)

/-- 10 R179, 03 R52: RESETn is driven low, and released or not. While it is low the part is held in reset,
its emitter lines not driven; the release takes the pin reset, unless VDD holds the part. -/
def State.pinReset (release : Option Bool) (s : State) : State :=
  match release with
  | none => s.setReset true
  | some strap => (s.setReset false).unlessHeld (State.hardReset .pin strap)

/-- 10 R186, R190: VDD is now `vdd` mV. Below 1.8 V the part is held in reset; otherwise the Supply
Watch compares, unless the part is in DOZE. -/
def State.supplyMoves (vdd : Nat) (s : State) : State :=
  (s.setVdd vdd).unlessHeld (State.whenAwake State.compareSupply)

end Sys2Proof.Machine
end

