-- ==== Sys2Proof/Machine/Handler.lean ====
section
/-! DEFINITION. The Link Port and the Command Handler (09): how a request is read and passed to its block,
the reply cache, the intake queue, the frame receiver and the outbound side. -/

namespace Sys2Proof.Machine

/-! ### Requests as their blocks take them (09 R167 step 4, 11 section 11.5)

Each takes the payload bytes after their length has been judged. A parameter out of range is refused
with BAD_VALUE (11 R192). -/

/-- The reply to a request with a parameter out of range. -/
def State.badValue (s : State) : State × ReplyBody := (s, .status .badValue)

/-- 09 R174. -/
def State.handlePing (data : List Byte) (s : State) : State × ReplyBody := (s, .pong data)

/-- 09 R175: while the store is WRITING or WIPING, SAVING; otherwise OK, and no further request is
taken until the soft reset. -/
def State.handleRestart (s : State) : State × ReplyBody :=
  match s.store.op with
  | .idle => ({ s with link := { s.link with handler := .restarting } }, .restarting)
  | .writing .. | .wiping .. => (s, .status .saving)

/-- 09 R176. -/
def State.handleSet (payload : List Byte) (s : State) : State × ReplyBody :=
  match payload with
  | [id, b0, b1, b2, b3] => s.setSetting id (word32 b0 b1 b2 b3)
  | _ => s.badValue

/-- 09 R176. -/
def State.handleGet (payload : List Byte) (s : State) : State × ReplyBody :=
  match payload with
  | [id] => s.getSetting id
  | _ => s.badValue

/-- 01 R9. -/
def State.handleOpen (payload : List Byte) (s : State) : State × ReplyBody :=
  match payload with
  | [slot, mode] =>
    match slotOf slot, modeOf mode with
    | some t, some m => s.tplOpen t m
    | _, _ => s.badValue
  | _ => s.badValue

/-- 01 R11, R12. -/
def State.handlePut (payload : List Byte) (s : State) : State × ReplyBody :=
  match payload with
  | part :: data => s.tplPut (partOf part data)
  | [] => s.badValue

/-- 01 R19. -/
def State.handleErase (payload : List Byte) (s : State) : State × ReplyBody :=
  match payload with
  | [slot] =>
    match slotOf slot with
    | some t => s.tplErase t
    | none => s.badValue
  | _ => s.badValue

/-- 01 R20: the ranges are checked first, so that a TPL_READ out of range is answered BAD_VALUE whatever the
slot and the draft are (assumption log entry 33, DEDUCED). -/
def State.handleRead (payload : List Byte) (s : State) : State × ReplyBody :=
  match payload with
  | [slot, copy, part, n] =>
    match slotOf slot, readPartOf part n with
    | some t, some p =>
      match copy.toNat with
      | 0 => s.readStored t p
      | 1 => s.readDraft t p
      | _ => s.badValue
    | _, _ => s.badValue
  | _ => s.badValue

/-- 04 R60. -/
def State.handleSend (payload : List Byte) (s : State) : State × ReplyBody :=
  match payload with
  | template :: mode :: count :: mask :: cls :: report :: bytes =>
    match jobSpecOf template mode count mask cls report bytes with
    | some spec => s.send spec
    | none => s.badValue
  | _ => s.badValue

/-- 04 R68. -/
def State.handleRelease (payload : List Byte) (s : State) : State × ReplyBody :=
  match payload with
  | [id] => s.release id.toNat
  | _ => s.badValue

/-- 04 R69. -/
def State.handleCancel (payload : List Byte) (s : State) : State × ReplyBody :=
  match payload with
  | [id] => s.cancel id.toNat
  | _ => s.badValue

/-- 05 R96, R97. -/
def State.handleStop (s : State) : State × ReplyBody := (s.stopEngine, .status .ok)

/-- 05 R99. -/
def State.handleResume (s : State) : State × ReplyBody :=
  match s.engine.state with
  | .stopped => (s.resumeEngine, .status .ok)
  | .idle | .emitting | .spacing => (s, .status .notStopped)

/-- 06 R111. -/
def State.handleBind (payload : List Byte) (s : State) : State × ReplyBody :=
  match payload with
  | key :: template :: mode :: count :: mask :: cls :: report :: bytes =>
    match keyOf key, jobSpecOf template mode count mask cls report bytes with
    | some k, some spec => s.bindKey k spec
    | _, _ => s.badValue
  | _ => s.badValue

/-- 06 R112. -/
def State.handleUnbind (payload : List Byte) (s : State) : State × ReplyBody :=
  match payload with
  | [key] =>
    match keyOf key with
    | some k => s.unbindKey k
    | none => s.badValue
  | _ => s.badValue

/-- 08 R157. -/
def State.handleLearnArm (payload : List Byte) (s : State) : State × ReplyBody :=
  match payload with
  | [timeout] => s.learnArm timeout.toNat
  | _ => s.badValue

/-- 08 R159. -/
def State.handleLearnRead (payload : List Byte) (s : State) : State × ReplyBody :=
  match payload with
  | [offset] => s.learnRead offset.toNat
  | _ => s.badValue

/-- 09 R167 step 4: the request is passed to the block that owns it. -/
def State.dispatch (k : RequestKind) (payload : List Byte) (s : State) : State × ReplyBody :=
  match k with
  | .ping => s.handlePing payload
  | .restart => s.handleRestart
  | .set => s.handleSet payload
  | .get => s.handleGet payload
  | .save => s.save
  | .wipe => s.wipe
  | .storeStatus => (s, .snapshot s.storeStatus)
  | .tplOpen => s.handleOpen payload
  | .tplPut => s.handlePut payload
  | .tplCommit => s.tplCommit
  | .tplAbort => s.tplAbort
  | .tplErase => s.handleErase payload
  | .tplRead => s.handleRead payload
  | .tplStatus => (s, .snapshot s.tplStatus)
  | .send => s.handleSend payload
  | .release => s.handleRelease payload
  | .cancel => s.handleCancel payload
  | .flush => s.flush
  | .stop => s.handleStop
  | .resume => s.handleResume
  | .queueStatus => (s, .snapshot s.queueStatus)
  | .bind => s.handleBind payload
  | .unbind => s.handleUnbind payload
  | .keyStatus => (s, .snapshot s.keyStatus)
  | .learnArm => s.handleLearnArm payload
  | .learnCancel => s.learnCancel
  | .learnRead => s.handleLearnRead payload
  | .rxStatus => (s, .snapshot s.rxStatus)

/-- 09 R167 steps 2 to 4: the kind and the length are judged, and the request is carried out. -/
def State.carryOut (r : Request) (s : State) : State × ReplyBody :=
  match RequestKind.ofByte r.kind with
  | none => (s, .status .unknownKind)
  | some k =>
    if k.lengthOk r.payload then s.dispatch k r.payload else (s, .status .badLength)

/-! ### The reply and the reply cache (09 R167 step 5, R168) -/

/-- 09 R162, R167 step 5: the reply to a request. -/
def Request.reply (r : Request) (body : ReplyBody) (resent ofEntry : Bool) : Reply where
  kind := r.kind + 0x80#8
  tag := r.tag
  body := body
  resent := resent
  ofEntry := ofEntry

/-- A reply enters the reply buffer (09 R167 step 5, R172). -/
def Link.addReply (r : Reply) (l : Link) : Link :=
  Link.startNext { l with replies := l.replies ++ [r] }

/-- 09 R168: the replies in the buffer belong to no entry any more. -/
def Link.disown (l : Link) : Link :=
  { l with replies := l.replies.map fun r => { r with ofEntry := false } }

/-- 09 R168: the cache entry is replaced by a request and its reply, with its window open and no
closing moment. -/
def Link.fillCache (r : Request) (body : ReplyBody) (l : Link) : Link :=
  { l.disown with cache := some { request := r, reply := body, closing := .stopped } }

/-- 09 R167 step 5, R168: the handler's reply; a RESTART leaves the cache as it is, whatever its reply
(assumption log entry 25, DEDUCED). -/
def Link.answer (r : Request) (body : ReplyBody) (l : Link) : Link :=
  if r.kind = RequestKind.restart.code then l.addReply (r.reply body false false)
  else (l.fillCache r body).addReply (r.reply body false true)

/-- 09 R168: whether the window of an entry is open. -/
def CacheEntry.isOpen (e : CacheEntry) (now : Nat) : Bool :=
  match e.closing with
  | .running due => decide (now ≤ due)
  | .stopped | .paused _ => true

/-- 09 R168: a hit: the entry's request is this one, byte for byte, and its window is open. -/
def Link.hit (r : Request) (now : Nat) (l : Link) : Option CacheEntry :=
  match l.cache with
  | some e => if e.request = r ∧ e.isOpen now then some e else none
  | none => none

/-- 09 R168: on a hit a copy of the cached reply, RESENT, enters the reply buffer; while it waits no
closing moment is set. -/
def Link.resend (e : CacheEntry) (l : Link) : Link :=
  Link.addReply (e.request.reply e.reply true true)
    { l with cache := some { e with closing := .stopped } }

/-- 09 R167 step 5: the handler forms the reply that the block has returned. -/
def formReply (r : Request) (p : State × ReplyBody) : State :=
  { p.1 with link := p.1.link.answer r p.2 }

/-- 09 R167: the Command Handler handles a request that it has taken. -/
def State.handle (r : Request) (s : State) : State :=
  match s.link.hit r s.now with
  | some e => { s with link := s.link.resend e }
  | none => formReply r (s.carryOut r)

/-- 09 R167: the handler takes the frame at the head of the intake queue when it is idle and the reply
buffer holds fewer than 2 replies. -/
def State.takeRequest (s : State) : State :=
  match s.link.intake with
  | [] => s
  | r :: rest =>
    if s.link.handler = .idle ∧ s.link.replies.length < Config.replyRoom then
      State.handle r { s with link := { s.link with intake := rest } }
    else s

/-- 09 R167: the handler takes requests as long as it may; the intake queue holds at most 3. -/
def State.takeRequests (s : State) : State := s.takeRequest.takeRequest.takeRequest

/-! ### The frame receiver (09 section 9.2) -/

/-- 09 R166: a complete frame is judged; a good request enters the intake queue. -/
def State.judge (kind tag : Byte) (payload : List Byte) (check : Byte) (s : State) : State :=
  if check ≠ frameCheck kind tag payload then s.post (.linkFault .badCheck)
  else if !isRequest kind then s.post (.linkFault (.badKind kind tag))
  else if Config.intakeRoom ≤ s.link.intake.length then s.post (.linkFault (.intakeFull kind tag))
  else
    State.takeRequests
      { s with link := { s.link with intake := s.link.intake ++ [⟨kind, tag, payload⟩] } }

/-- 09 R164: the receiver returns to HUNT, and the inter-byte timer stops. -/
def State.toHunt (s : State) : State :=
  { s with link := { s.link with receiver := .hunt, interByte := .stopped } }

/-- 09 R164: the receiver waits for a further byte of the frame; the inter-byte timer starts anew. -/
def State.awaitByte (h : HuntState) (s : State) : State :=
  { s with
    link :=
      { s.link with receiver := h, interByte := .running (s.now + Config.interByteDue) } }

/-- 09 R164: a character acts on the frame receiver. -/
def State.character (b : Byte) (s : State) : State :=
  match s.link.receiver with
  | .hunt => if b = Config.startByte then s.awaitByte .length else s
  | .length => if Config.maxPayload < b.toNat then s.toHunt else s.awaitByte (.kind b.toNat)
  | .kind len => s.awaitByte (.tag len b)
  | .tag len kind =>
    if len = 0 then s.awaitByte (.check kind b []) else s.awaitByte (.payload len kind b [])
  | .payload len kind tag got =>
    if got.length + 1 < len then s.awaitByte (.payload len kind tag (got ++ [b]))
    else s.awaitByte (.check kind tag (got ++ [b]))
  | .check kind tag payload => s.toHunt.judge kind tag payload b

/-- 09 R165: the number of bytes of the partly received frame, the start byte included. -/
def HuntState.received : HuntState → Nat
  | .hunt => 0
  | .length => 1
  | .kind _ => 2
  | .tag _ _ => 3
  | .payload _ _ _ got => 4 + got.length
  | .check _ _ bytes => 4 + bytes.length

/-- 09 R165: the partly received frame is abandoned, with LINK_FAULT TRUNCATED unless it was a lone
start byte. -/
def State.abandonFrame (s : State) : State :=
  match s.link.receiver with
  | .hunt => s
  | .length => s.toHunt
  | .kind _ | .tag .. | .payload .. | .check .. =>
    s.toHunt.post (.linkFault (.truncated s.link.receiver.received))

/-- 09 R165: the inter-byte timer falls due. -/
def State.interByteExpires (s : State) : State :=
  if s.link.interByte.isDue s.now then s.abandonFrame else s

/-- 09 R161, R164, R165, R177, 10 R191: a character has ended on RXD whose start bit fell `startAgo`
µs ago. With its stop bit low it is discarded; one that began before the part listened is lost; one
that began after the inter-byte timer fell due is taken in HUNT. -/
def State.takeCharacter (b : Byte) (startAgo : Nat) (stopHigh : Bool) (s : State) : State :=
  if !stopHigh ∨ s.now < s.link.listenFrom + startAgo then s
  else if s.link.interByte.isDue (s.now - startAgo) then s.abandonFrame.character b
  else s.character b

/-- 10 R189: the doze delay timer stops: the part was not quiet. -/
def State.stopDelay (s : State) : State := { s with doze := { s.doze with delay := .stopped } }

/-- 09 R166: a whole link frame has been received. A frame of more than 60 payload bytes was abandoned
at its length byte (R164). The part was not quiet while the frame came in (10 R189). A frame that characters
have partly delivered is dropped without a notice, and the inter-byte timer stops, even when it is
overdue (assumption log entry 32, DESIGN CHOICE). -/
def State.receiveFrame (kind tag : Byte) (payload : List Byte) (check : Byte) (s : State) : State :=
  if Config.maxPayload < payload.length then s.toHunt.stopDelay
  else s.toHunt.stopDelay.judge kind tag payload check

/-- 09 R166, R167: the frame of a request has been received whole and with a good check byte
(assumption log entry 4, DESIGN CHOICE). -/
def State.receiveRequest (kind tag : Byte) (payload : List Byte) (s : State) : State :=
  s.receiveFrame kind tag payload (frameCheck kind tag payload)

/-! ### The outbound side (09 R168, R172, R175) -/

/-- 09 R168: the reply to the entry's request, or a copy of it, has been sent: the closing moment is
set, unless another copy waits. -/
def Link.setClosing (r : Reply) (rest : List Reply) (now : Nat) (l : Link) : Link :=
  if r.ofEntry ∧ ¬ rest.any Reply.ofEntry then
    { l with
      cache := l.cache.map fun e => { e with closing := .running (now + Config.cacheWindow) } }
  else l

/-- 09 R172: the reply at the front has been sent. -/
def Link.replySent (r : Reply) (rest : List Reply) (now : Nat) (l : Link) : Link :=
  Link.startNext { l.setClosing r rest now with replies := rest, sending := none }

/-- 09 R170, R171: the notice at the front has been sent. -/
def Link.noticeSent (rest : List Notice) (l : Link) : Link :=
  Link.startNext { l with notices := rest, sending := none, seq := l.seq + 1#8 }

/-- 09 R172, R175: the frame being sent has ended. After the OK of a RESTART the soft reset is taken, with
the BAUD strap as it is found (R161); after any other frame the next one starts, and the handler takes
what it now may. -/
def State.outboundEnds (strap : Bool) (s : State) : State :=
  match s.link.sending, s.link.replies, s.link.notices with
  | some .reply, r :: rest, _ =>
    if r.body = .restarting then s.softReset strap
    else { s with link := s.link.replySent r rest s.now }.takeRequests
  | some (.notice _ _), _, _ :: rest => { s with link := s.link.noticeSent rest }.takeRequests
  | _, _, _ => s

/-- 09 R168: the closing moment falls due, and the entry is removed. -/
def State.windowCloses (s : State) : State :=
  match s.link.cache with
  | some e => if e.closing.isDue s.now then { s with link := { s.link with cache := none } } else s
  | none => s

end Sys2Proof.Machine
end

