-- ==== Sys2Proof/Machine/JobCommands.lean ====
section
/-! DEFINITION. The commands of the Emission Queue, the Emission Engine and the indicator. -/

namespace Sys2Proof.Machine

/-- 04 R60: SEND of a job header and payload bytes. -/
def execSend (dt : Nat) (tag template lengthMode count mask cls report : Byte)
    (payload : List Byte) (s : State) : Host.Outcome State Fault Refusal :=
  .next
    (s.event dt
      (State.whenAwake
        (State.receiveRequest RequestKind.send.code tag
          (template :: lengthMode :: count :: mask :: cls :: report :: payload))))

/-- 04 R68: RELEASE of a job id. -/
def execRelease (dt : Nat) (tag job : Byte) (s : State) : Host.Outcome State Fault Refusal :=
  .next (s.event dt (State.whenAwake (State.receiveRequest RequestKind.release.code tag [job])))

/-- 04 R69: CANCEL of a job id. -/
def execCancel (dt : Nat) (tag job : Byte) (s : State) : Host.Outcome State Fault Refusal :=
  .next (s.event dt (State.whenAwake (State.receiveRequest RequestKind.cancel.code tag [job])))

/-- 04 R72: FLUSH. -/
def execFlush (dt : Nat) (tag : Byte) (s : State) : Host.Outcome State Fault Refusal :=
  .next (s.event dt (State.whenAwake (State.receiveRequest RequestKind.flush.code tag [])))

/-- 04 R76: QUEUE_STATUS. -/
def execQueueStatus (dt : Nat) (tag : Byte) (s : State) : Host.Outcome State Fault Refusal :=
  .next (s.event dt (State.whenAwake (State.receiveRequest RequestKind.queueStatus.code tag [])))

/-- 05 R96, R97: STOP. -/
def execStop (dt : Nat) (tag : Byte) (s : State) : Host.Outcome State Fault Refusal :=
  .next (s.event dt (State.whenAwake (State.receiveRequest RequestKind.stop.code tag [])))

/-- 05 R99: RESUME. -/
def execResume (dt : Nat) (tag : Byte) (s : State) : Host.Outcome State Fault Refusal :=
  .next (s.event dt (State.whenAwake (State.receiveRequest RequestKind.resume.code tag [])))

/-- 02 R34, 05 R85: the interval being played has elapsed. -/
def execIntervalEnd (dt : Nat) (s : State) : Host.Outcome State Fault Refusal :=
  .next (s.event dt (State.whenAwake State.intervalEnds))

/-- 05 R88: the spacing deadline is reached. -/
def execSpacingEnd (dt : Nat) (s : State) : Host.Outcome State Fault Refusal :=
  .next (s.event dt (State.whenAwake State.spacingEnds))

/-- 05 R93, 04 R71: the hold limit of the live job with this id falls due. -/
def execHoldLimitExpiry (dt : Nat) (job : Byte) (s : State) : Host.Outcome State Fault Refusal :=
  .next (s.event dt (State.whenAwake (State.holdExpires job.toNat)))

/-- 03 R53: the IND tail timer expires. -/
def execIndTailExpiry (dt : Nat) (s : State) : Host.Outcome State Fault Refusal :=
  .next (s.event dt (State.whenAwake State.tailExpires))

end Sys2Proof.Machine
end

