-- ==== Sys2Proof/Machine/KeyCommands.lean ====
section
/-! DEFINITION. The commands of the Key Scanner. -/

namespace Sys2Proof.Machine

/-- 06 R105, R107, R119: line K`key` changes to a level; a part held in reset has its level read at the
reset (R120). -/
def execKeyEdge (dt : Nat) (key : Fin 8) (high : Bool) (s : State) :
    Host.Outcome State Fault Refusal :=
  .next (s.eventOr dt (State.setKeyLine key high) (State.keyLineChanges key high))

/-- 06 R107, R108: a key's debounce expiry falls due. -/
def execDebounceExpiry (dt : Nat) (key : Fin 8) (s : State) : Host.Outcome State Fault Refusal :=
  .next (s.event dt (State.whenAwake (State.debounceExpires key)))

/-- 06 R111: BIND of a key to a job header and payload bytes. -/
def execBind (dt : Nat) (tag key template lengthMode count mask cls report : Byte)
    (payload : List Byte) (s : State) : Host.Outcome State Fault Refusal :=
  .next
    (s.event dt
      (State.whenAwake
        (State.receiveRequest RequestKind.bind.code tag
          (key :: template :: lengthMode :: count :: mask :: cls :: report :: payload))))

/-- 06 R112: UNBIND of a key. -/
def execUnbind (dt : Nat) (tag key : Byte) (s : State) : Host.Outcome State Fault Refusal :=
  .next (s.event dt (State.whenAwake (State.receiveRequest RequestKind.unbind.code tag [key])))

/-- 06 R117: KEY_STATUS. -/
def execKeyStatus (dt : Nat) (tag : Byte) (s : State) : Host.Outcome State Fault Refusal :=
  .next (s.event dt (State.whenAwake (State.receiveRequest RequestKind.keyStatus.code tag [])))

end Sys2Proof.Machine
end

