-- ==== Sys2Proof/Machine/LibraryCommands.lean ====
section
/-! DEFINITION. The commands of the Code Library. -/

namespace Sys2Proof.Machine

/-- 01 R9: TPL_OPEN. -/
def execTplOpen (dt : Nat) (tag slot mode : Byte) (s : State) : Host.Outcome State Fault Refusal :=
  .next (s.event dt (State.whenAwake (State.receiveRequest RequestKind.tplOpen.code tag [slot, mode])))

/-- 01 R11: TPL_PUT of a section byte and the bytes after it. -/
def execTplPut (dt : Nat) (tag part : Byte) (data : List Byte) (s : State) :
    Host.Outcome State Fault Refusal :=
  .next
    (s.event dt (State.whenAwake (State.receiveRequest RequestKind.tplPut.code tag (part :: data))))

/-- 01 R14, R16: TPL_COMMIT. -/
def execTplCommit (dt : Nat) (tag : Byte) (s : State) : Host.Outcome State Fault Refusal :=
  .next (s.event dt (State.whenAwake (State.receiveRequest RequestKind.tplCommit.code tag [])))

/-- 01 R17: TPL_ABORT. -/
def execTplAbort (dt : Nat) (tag : Byte) (s : State) : Host.Outcome State Fault Refusal :=
  .next (s.event dt (State.whenAwake (State.receiveRequest RequestKind.tplAbort.code tag [])))

/-- 01 R19: TPL_ERASE. -/
def execTplErase (dt : Nat) (tag slot : Byte) (s : State) : Host.Outcome State Fault Refusal :=
  .next (s.event dt (State.whenAwake (State.receiveRequest RequestKind.tplErase.code tag [slot])))

/-- 01 R20: TPL_READ of a section of a copy of a slot. -/
def execTplRead (dt : Nat) (tag slot copy part n : Byte) (s : State) :
    Host.Outcome State Fault Refusal :=
  .next
    (s.event dt
      (State.whenAwake (State.receiveRequest RequestKind.tplRead.code tag [slot, copy, part, n])))

/-- 01 R21: TPL_STATUS. -/
def execTplStatus (dt : Nat) (tag : Byte) (s : State) : Host.Outcome State Fault Refusal :=
  .next (s.event dt (State.whenAwake (State.receiveRequest RequestKind.tplStatus.code tag [])))

/-- 01 R18: the draft expiry falls due. -/
def execDraftExpiry (dt : Nat) (s : State) : Host.Outcome State Fault Refusal :=
  .next (s.event dt (State.whenAwake State.draftExpires))

end Sys2Proof.Machine
end

