-- ==== Sys2Proof/Machine/LinkCommands.lean ====
section
/-! DEFINITION. The commands of the link: frames and characters that arrive, frames that have left, and PING,
RESTART, SET and GET. -/

namespace Sys2Proof.Machine

/-- 09 R166: a complete link frame has been received; in DOZE and in the wake latency it is lost (10
R191). -/
def execLinkFrameReceived (dt : Nat) (kind tag : Byte) (payload : List Byte) (check : Byte)
    (s : State) : Host.Outcome State Fault Refusal :=
  .next (s.event dt (State.whenAwake (State.receiveFrame kind tag payload check)))

/-- 09 R165: the inter-byte timer falls due. -/
def execInterByteTimeout (dt : Nat) (s : State) : Host.Outcome State Fault Refusal :=
  .next (s.event dt (State.whenAwake State.interByteExpires))

/-- 09 R167 step 2: a request of a kind that is not in use; the reply is UNKNOWN_KIND. -/
def execUnknownKindRequest (dt : Nat) (kind tag : Byte) (payload : List Byte) (s : State) :
    Host.Outcome State Fault Refusal :=
  .next (s.event dt (State.whenAwake (State.receiveRequest kind tag payload)))

/-- 09 R172, R175: the frame being sent on TXD has ended; a soft reset that follows finds the BAUD strap as
given (R161). -/
def execOutboundFrameEnd (ending : FrameEnd) (s : State) : Host.Outcome State Fault Refusal :=
  .next (s.event ending.dt (State.whenAwake (State.outboundEnds ending.baudHigh)))

/-- 09 R168: the closing moment of the reply cache entry falls due. -/
def execReplyCacheWindowClose (dt : Nat) (s : State) : Host.Outcome State Fault Refusal :=
  .next (s.event dt (State.whenAwake State.windowCloses))

/-- 09 R164, R161, R165: a character has been received on RXD; in DOZE and in the wake latency it is lost
(10 R191). -/
def execCharacterReceived (dt : Nat) (byte : Byte) (startAgo : Nat) (stopHigh : Bool) (s : State) :
    Host.Outcome State Fault Refusal :=
  .next (s.event dt (State.whenAwake (State.takeCharacter byte startAgo stopHigh)))

/-- 09 R174: PING with its data. -/
def execPing (dt : Nat) (tag : Byte) (data : List Byte) (s : State) :
    Host.Outcome State Fault Refusal :=
  .next (s.event dt (State.whenAwake (State.receiveRequest RequestKind.ping.code tag data)))

/-- 09 R175: RESTART. -/
def execRestart (dt : Nat) (tag : Byte) (s : State) : Host.Outcome State Fault Refusal :=
  .next (s.event dt (State.whenAwake (State.receiveRequest RequestKind.restart.code tag [])))

/-- 09 R176: SET of a setting id to a value, least significant byte first (11 section 11.5). -/
def execSet (dt : Nat) (tag id : Byte) (value : BitVec 32) (s : State) :
    Host.Outcome State Fault Refusal :=
  .next
    (s.event dt
      (State.whenAwake (State.receiveRequest RequestKind.set.code tag (id :: u32 value.toNat))))

/-- 09 R176: GET of a setting id. -/
def execGet (dt : Nat) (tag id : Byte) (s : State) : Host.Outcome State Fault Refusal :=
  .next (s.event dt (State.whenAwake (State.receiveRequest RequestKind.get.code tag [id])))

end Sys2Proof.Machine
end

