-- ==== Sys2Proof/Machine/PowerCommands.lean ====
section
/-! DEFINITION. The commands of the Supply Watch and of Doze Control. -/

namespace Sys2Proof.Machine

/-- 10 R186: VDD takes a value. A part held in reset takes a power-on reset when VDD is back in the
operating range, and reads the BAUD strap (09 R161). -/
def execSupplyChange (dt : Nat) (supply : SupplyLevel) (s : State) :
    Host.Outcome State Fault Refusal :=
  .next (s.eventOr dt (State.powerOn supply.vdd supply.baudHigh) (State.supplyMoves supply.vdd))

/-- 10 R189, R190: the doze delay timer expires. -/
def execDozeDelayExpiry (dt : Nat) (s : State) : Host.Outcome State Fault Refusal :=
  .next (s.event dt (State.whenAwake State.delayExpires))

/-- 10 R191: a falling edge on RXD; it wakes a dozing part. -/
def execRxdWakeEdge (dt : Nat) (s : State) : Host.Outcome State Fault Refusal :=
  .next (s.event dt (State.wake false))

/-- 10 R191: the wake latency ends. -/
def execWakeLatencyEnd (dt : Nat) (s : State) : Host.Outcome State Fault Refusal :=
  .next (s.event dt State.latencyEnds)

end Sys2Proof.Machine
end

