-- ==== Sys2Proof/Machine/ReceiveCommands.lean ====
section
/-! DEFINITION. The commands of the receiver, the Matcher, the Receive Tracker and the Learn Buffer. -/

namespace Sys2Proof.Machine

/-- 07 R122, R137: RXIN changes to a level; a part held in reset has it read at the reset (R138). -/
def execRxinChange (dt : Nat) (high : Bool) (s : State) : Host.Outcome State Fault Refusal :=
  .next (s.eventOr dt (State.setRxinLine high) (State.rxinChanges high))

/-- 07 R122: a candidate has held for RX_GLITCH. -/
def execGlitchConfirm (dt : Nat) (s : State) : Host.Outcome State Fault Refusal :=
  .next (s.event dt (State.whenAwake State.confirmGlitch))

/-- 07 R127, R130: the burst-end timer falls due. -/
def execBurstEndTimer (dt : Nat) (s : State) : Host.Outcome State Fault Refusal :=
  .next (s.event dt (State.whenAwake State.burstEnds))

/-- 07 R129: the mark limit falls due. -/
def execMarkLimit (dt : Nat) (s : State) : Host.Outcome State Fault Refusal :=
  .next (s.event dt (State.whenAwake State.markTooLong))

/-- 07 R133: the blank tail timer expires. -/
def execBlankTailExpiry (dt : Nat) (s : State) : Host.Outcome State Fault Refusal :=
  .next (s.event dt (State.whenAwake State.blankTailExpires))

/-- 08 R140: the matching of a burst completes. -/
def execMatchingEnd (dt : Nat) (s : State) : Host.Outcome State Fault Refusal :=
  .next (s.event dt (State.whenAwake State.matchingEnds))

/-- 08 R152: the tracker's window deadline falls due. -/
def execRxWindowExpiry (dt : Nat) (s : State) : Host.Outcome State Fault Refusal :=
  .next (s.event dt (State.whenAwake State.windowExpires))

/-- 08 R157: LEARN_ARM with a timeout in seconds. -/
def execLearnArm (dt : Nat) (tag timeout : Byte) (s : State) : Host.Outcome State Fault Refusal :=
  .next (s.event dt (State.whenAwake (State.receiveRequest RequestKind.learnArm.code tag [timeout])))

/-- 08 R158: LEARN_CANCEL. -/
def execLearnCancel (dt : Nat) (tag : Byte) (s : State) : Host.Outcome State Fault Refusal :=
  .next (s.event dt (State.whenAwake (State.receiveRequest RequestKind.learnCancel.code tag [])))

/-- 08 R159: LEARN_READ from an offset. -/
def execLearnRead (dt : Nat) (tag offset : Byte) (s : State) : Host.Outcome State Fault Refusal :=
  .next (s.event dt (State.whenAwake (State.receiveRequest RequestKind.learnRead.code tag [offset])))

/-- 08 R157: the learn timer falls due. -/
def execLearnTimerExpiry (dt : Nat) (s : State) : Host.Outcome State Fault Refusal :=
  .next (s.event dt (State.whenAwake State.learnExpires))

/-- 07 R137: RX_STATUS. -/
def execRxStatus (dt : Nat) (tag : Byte) (s : State) : Host.Outcome State Fault Refusal :=
  .next (s.event dt (State.whenAwake (State.receiveRequest RequestKind.rxStatus.code tag [])))

end Sys2Proof.Machine
end

