-- ==== Sys2Proof/Machine/ResetCommands.lean ====
section
/-! DEFINITION. The commands of the resets: POWER_ON_RESET and PIN_RESET. -/

namespace Sys2Proof.Machine

/-- 10 R179, R186, 09 R161: the supply has risen to `vdd` mV with the BAUD strap as given: a power-on
reset, or the part is held in reset below 1.8 V. -/
def execPowerOnReset (dt vdd : Nat) (baudHigh : Bool) (s : State) :
    Host.Outcome State Fault Refusal :=
  .next ((s.advance dt).powerOn vdd baudHigh)

/-- 10 R179, R183, 03 R52, 09 R161: RESETn is driven low, and released with the BAUD strap as given: a pin
reset; or it stays low and holds the part in reset. -/
def execPinReset (dt : Nat) (release : Option Bool) (s : State) : Host.Outcome State Fault Refusal :=
  .next ((s.advance dt).pinReset release)

end Sys2Proof.Machine
end

