-- ==== Sys2Proof/Machine/StoreCommands.lean ====
section
/-! DEFINITION. The commands of the Image Store. -/

namespace Sys2Proof.Machine

/-- 10 R180: SAVE. -/
def execSave (dt : Nat) (tag : Byte) (s : State) : Host.Outcome State Fault Refusal :=
  .next (s.event dt (State.whenAwake (State.receiveRequest RequestKind.save.code tag [])))

/-- 10 R184: WIPE. -/
def execWipe (dt : Nat) (tag : Byte) (s : State) : Host.Outcome State Fault Refusal :=
  .next (s.event dt (State.whenAwake (State.receiveRequest RequestKind.wipe.code tag [])))

/-- 10 R185: STORE_STATUS. -/
def execStoreStatus (dt : Nat) (tag : Byte) (s : State) : Host.Outcome State Fault Refusal :=
  .next (s.event dt (State.whenAwake (State.receiveRequest RequestKind.storeStatus.code tag [])))

/-- 10 R181: the write of the image completes. -/
def execSaveWriteComplete (dt : Nat) (s : State) : Host.Outcome State Fault Refusal :=
  .next (s.event dt (State.whenAwake State.writeCompletes))

/-- 10 R184: the erase of a bank ends. -/
def execWipeEraseEnd (dt : Nat) (s : State) : Host.Outcome State Fault Refusal :=
  .next (s.event dt (State.whenAwake State.eraseEnds))

end Sys2Proof.Machine
end

