-- ==== Sys2Proof/Machine/Dispatch.lean ====
section
/-! DEFINITION. The meaning of every command: one arm for each constructor of `Instr`. -/

namespace Sys2Proof.Machine

/-- What a command does to everything but the queue of commands. -/
def exec (i : Instr) (s : State) : Host.Outcome State Fault Refusal :=
  match i with
  | .powerOnReset dt vdd baudHigh => Sys2Proof.Machine.execPowerOnReset dt vdd baudHigh s
  | .pinReset dt release => Sys2Proof.Machine.execPinReset dt release s
  | .linkFrameReceived dt kind tag payload check => Sys2Proof.Machine.execLinkFrameReceived dt kind tag payload check s
  | .interByteTimeout dt => Sys2Proof.Machine.execInterByteTimeout dt s
  | .unknownKindRequest dt kind tag payload => Sys2Proof.Machine.execUnknownKindRequest dt kind tag payload s
  | .outboundFrameEnd ending => Sys2Proof.Machine.execOutboundFrameEnd ending s
  | .replyCacheWindowClose dt => Sys2Proof.Machine.execReplyCacheWindowClose dt s
  | .ping dt tag data => Sys2Proof.Machine.execPing dt tag data s
  | .restart dt tag => Sys2Proof.Machine.execRestart dt tag s
  | .set dt tag id value => Sys2Proof.Machine.execSet dt tag id value s
  | .get dt tag id => Sys2Proof.Machine.execGet dt tag id s
  | .save dt tag => Sys2Proof.Machine.execSave dt tag s
  | .wipe dt tag => Sys2Proof.Machine.execWipe dt tag s
  | .storeStatus dt tag => Sys2Proof.Machine.execStoreStatus dt tag s
  | .tplOpen dt tag slot mode => Sys2Proof.Machine.execTplOpen dt tag slot mode s
  | .tplPut dt tag part data => Sys2Proof.Machine.execTplPut dt tag part data s
  | .tplCommit dt tag => Sys2Proof.Machine.execTplCommit dt tag s
  | .tplAbort dt tag => Sys2Proof.Machine.execTplAbort dt tag s
  | .tplErase dt tag slot => Sys2Proof.Machine.execTplErase dt tag slot s
  | .tplRead dt tag slot copy part n => Sys2Proof.Machine.execTplRead dt tag slot copy part n s
  | .tplStatus dt tag => Sys2Proof.Machine.execTplStatus dt tag s
  | .draftExpiry dt => Sys2Proof.Machine.execDraftExpiry dt s
  | .send dt tag template lengthMode count mask cls report payload => Sys2Proof.Machine.execSend dt tag template lengthMode count mask cls report payload s
  | .release dt tag job => Sys2Proof.Machine.execRelease dt tag job s
  | .cancel dt tag job => Sys2Proof.Machine.execCancel dt tag job s
  | .flush dt tag => Sys2Proof.Machine.execFlush dt tag s
  | .queueStatus dt tag => Sys2Proof.Machine.execQueueStatus dt tag s
  | .stop dt tag => Sys2Proof.Machine.execStop dt tag s
  | .resume dt tag => Sys2Proof.Machine.execResume dt tag s
  | .intervalEnd dt => Sys2Proof.Machine.execIntervalEnd dt s
  | .spacingEnd dt => Sys2Proof.Machine.execSpacingEnd dt s
  | .holdLimitExpiry dt job => Sys2Proof.Machine.execHoldLimitExpiry dt job s
  | .indTailExpiry dt => Sys2Proof.Machine.execIndTailExpiry dt s
  | .keyEdge dt key high => Sys2Proof.Machine.execKeyEdge dt key high s
  | .debounceExpiry dt key => Sys2Proof.Machine.execDebounceExpiry dt key s
  | .bind dt tag key template lengthMode count mask cls report payload => Sys2Proof.Machine.execBind dt tag key template lengthMode count mask cls report payload s
  | .unbind dt tag key => Sys2Proof.Machine.execUnbind dt tag key s
  | .keyStatus dt tag => Sys2Proof.Machine.execKeyStatus dt tag s
  | .rxinChange dt high => Sys2Proof.Machine.execRxinChange dt high s
  | .glitchConfirm dt => Sys2Proof.Machine.execGlitchConfirm dt s
  | .burstEndTimer dt => Sys2Proof.Machine.execBurstEndTimer dt s
  | .markLimit dt => Sys2Proof.Machine.execMarkLimit dt s
  | .blankTailExpiry dt => Sys2Proof.Machine.execBlankTailExpiry dt s
  | .matchingEnd dt => Sys2Proof.Machine.execMatchingEnd dt s
  | .rxWindowExpiry dt => Sys2Proof.Machine.execRxWindowExpiry dt s
  | .learnArm dt tag timeout => Sys2Proof.Machine.execLearnArm dt tag timeout s
  | .learnCancel dt tag => Sys2Proof.Machine.execLearnCancel dt tag s
  | .learnRead dt tag offset => Sys2Proof.Machine.execLearnRead dt tag offset s
  | .learnTimerExpiry dt => Sys2Proof.Machine.execLearnTimerExpiry dt s
  | .rxStatus dt tag => Sys2Proof.Machine.execRxStatus dt tag s
  | .saveWriteComplete dt => Sys2Proof.Machine.execSaveWriteComplete dt s
  | .wipeEraseEnd dt => Sys2Proof.Machine.execWipeEraseEnd dt s
  | .supplyChange dt supply => Sys2Proof.Machine.execSupplyChange dt supply s
  | .dozeDelayExpiry dt => Sys2Proof.Machine.execDozeDelayExpiry dt s
  | .rxdWakeEdge dt => Sys2Proof.Machine.execRxdWakeEdge dt s
  | .wakeLatencyEnd dt => Sys2Proof.Machine.execWakeLatencyEnd dt s
  | .characterReceived dt b startAgo stopHigh => Sys2Proof.Machine.execCharacterReceived dt b startAgo stopHigh s

end Sys2Proof.Machine
end

