-- ==== Sys2Proof/Machine/Flags.lean ====
section
/-! DEFINITION. The output pins, computed from the state: ATTN (09 R173), IND (03 R53, R55), the emitter
lines E0 to E2 (03 R46 to R50, R52) and the bytes and bits on TXD (09 R161, R172). The part has no
arithmetic flags. -/

namespace Sys2Proof.Machine

/-- 09 R173: ATTN is asserted (driven low) while the notice queue holds a notice; held in reset it is
released. -/
def State.attnAsserted (s : State) : Bool := !s.heldInReset && !s.link.notices.isEmpty

/-- 03 R53, R55: IND is driven high while asserted; in reset it is driven low. -/
def State.indHigh (s : State) : Bool := !s.heldInReset && s.ind.asserted

/-- 03 R46: how many steps of 62.5 ns the interval at the position has been played for, `step` steps
after the whole µs of now. -/
def State.stepsPlayed (s : State) (step : Nat) : Nat :=
  match s.engine.position with
  | some p => 16 * (s.now - p.since) + step
  | none => step

/-- 03 R47, R50: whether a mark of the current job is being played on line Ek, `step` steps after now: the
engine is EMITTING, the line is enabled and in the job's mask, and the interval at the position is a MARK
whose duration, 16 steps to the µs, has not elapsed. -/
def State.markOn (s : State) (k : Fin 3) (step : Nat) : Bool :=
  match s.engine.state, s.engine.current, s.engine.position with
  | .emitting, some j, some p =>
    names j.spec.mask k && (s.settings.line k).enabled
      && (match s.engine.buffer[p.index]? with
        | some iv => decide (iv.kind = .mark) && decide (s.stepsPlayed step < 16 * iv.dur)
        | none => false)
  | _, _, _ => false

/-- 03 R46 to R50: whether line Ek is at its active level, `step` steps after now. -/
def State.lineActive (s : State) (k : Fin 3) (step : Nat) : Bool :=
  s.markOn k step && s.carrier.isActive (s.stepsPlayed step)

/-- 03 R49: how a pin stands at its active level and at its idle level. -/
def LineSetting.pin (l : LineSetting) (active : Bool) : PinLevel :=
  match l.low, l.openDrain, active with
  | false, false, true => .drivenHigh
  | false, false, false => .drivenLow
  | true, false, true => .drivenLow
  | true, false, false => .drivenHigh
  | false, true, true => .notDriven
  | false, true, false => .drivenLow
  | true, true, true => .drivenLow
  | true, true, false => .notDriven

/-- 03 R49, R50, R52: how pin Ek stands, `step` steps of 62.5 ns after now; in reset it is not driven. -/
def State.linePin (s : State) (k : Fin 3) (step : Nat) : PinLevel :=
  if s.heldInReset then .notDriven else (s.settings.line k).pin (s.lineActive k step)

/-- 09 R172: the bytes of the frame that is being sent on TXD; none while TXD is idle. -/
def State.txdFrame (s : State) : Option (List Byte) :=
  if s.heldInReset then none else s.link.frame

/-- 09 R161: the bits of one character in the order in which they stand on the line, `true` for high: the
start bit low, the 8 data bits with the least significant first, the stop bit high. -/
def characterBits (b : Byte) : List Bool := false :: (List.range 8).map b.getLsbD ++ [true]

/-- 09 R161: the bits of the frame that is being sent on TXD, one character after the other. -/
def State.txdBits (s : State) : List Bool := (s.txdFrame.getD []).flatMap characterBits

/-- 09 R161, R177: whether TXD stands high during the bit of this number of the frame that is being sent;
behind its last bit, and while nothing is sent, the line stands high. -/
def State.txdHigh (s : State) (bit : Nat) : Bool := (s.txdBits[bit]?).getD true

/-- 09 R161: the bit rate that the BAUD strap of the last reset has set, in baud. -/
def Link.baud (l : Link) : Nat := if l.fast then 115200 else 19200

end Sys2Proof.Machine
end

