-- ==== Sys2Proof/WellFormed.lean ====
section
/-! DEFINITION. Which commands are well formed: the ones that the link and the pins can deliver at
all. A value out of range (a slot of 200) is well formed, for the part answers it; a link frame of
61 payload bytes, a known kind called unknown or a frame that ends before it began are not. -/

namespace Sys2Proof

/-- The request kinds in use (11 section 11.3). -/
def kindsInUse : List Byte :=
  [0x01#8, 0x02#8, 0x03#8, 0x04#8, 0x08#8, 0x09#8, 0x0A#8,
   0x10#8, 0x11#8, 0x12#8, 0x13#8, 0x14#8, 0x15#8, 0x16#8,
   0x20#8, 0x21#8, 0x22#8, 0x23#8, 0x24#8, 0x25#8, 0x26#8, 0x28#8, 0x29#8, 0x2A#8,
   0x30#8, 0x31#8, 0x32#8, 0x33#8]

/-- Whether a kind byte is a request kind, 0x00 to 0x3F (09 R162). -/
def isRequestKind (k : Byte) : Bool := k.toNat < 0x40

/-- Whether the link and the pins can deliver this command (09 R162: at most 60 payload bytes;
09 R167: an unknown kind is a request kind that is not in use; 09 R161: a character takes at least
86 µs on the line). -/
def WellFormed : Instr → Bool
  | .linkFrameReceived _ _ _ payload _ => payload.length ≤ 60
  | .unknownKindRequest _ kind _ payload =>
      isRequestKind kind && !(kindsInUse.contains kind) && payload.length ≤ 60
  | .ping _ _ data => data.length ≤ 60
  | .tplPut _ _ _ data => data.length ≤ 59
  | .send _ _ _ _ _ _ _ _ payload => payload.length ≤ 54
  | .bind _ _ _ _ _ _ _ _ _ payload => payload.length ≤ 53
  | .characterReceived _ _ startAgo _ => 86 ≤ startAgo
  | .powerOnReset .. | .pinReset .. | .interByteTimeout .. | .outboundFrameEnd ..
  | .replyCacheWindowClose .. | .restart .. | .set .. | .get .. | .save .. | .wipe ..
  | .storeStatus .. | .tplOpen .. | .tplCommit .. | .tplAbort .. | .tplErase .. | .tplRead ..
  | .tplStatus .. | .draftExpiry .. | .release .. | .cancel .. | .flush .. | .queueStatus ..
  | .stop .. | .resume .. | .intervalEnd .. | .spacingEnd .. | .holdLimitExpiry ..
  | .indTailExpiry .. | .keyEdge .. | .debounceExpiry .. | .unbind .. | .keyStatus ..
  | .rxinChange .. | .glitchConfirm .. | .burstEndTimer .. | .markLimit .. | .blankTailExpiry ..
  | .matchingEnd .. | .rxWindowExpiry .. | .learnArm .. | .learnCancel .. | .learnRead ..
  | .learnTimerExpiry .. | .rxStatus .. | .saveWriteComplete .. | .wipeEraseEnd ..
  | .supplyChange .. | .dozeDelayExpiry .. | .rxdWakeEdge .. | .wakeLatencyEnd .. => true

end Sys2Proof
end

