-- ==== Sys2Proof/Safety.lean ====
section
/-! DEFINITION. What a sound state of the part is, block by block: the invariants that the spec states as
prose ("at most one slot is FILLING", "no two live jobs share a job id"), and the terms in which the
statements speak of a request and its answer. -/

namespace Sys2Proof

/-- The µs that pass before a command is taken (assumption log entry 1, DESIGN CHOICE). -/
def Instr.elapsed : Instr → Nat
  | .powerOnReset dt .. | .pinReset dt .. | .linkFrameReceived dt .. | .interByteTimeout dt
  | .unknownKindRequest dt .. | .outboundFrameEnd ⟨dt, _⟩ | .replyCacheWindowClose dt | .ping dt ..
  | .restart dt .. | .set dt .. | .get dt .. | .save dt .. | .wipe dt .. | .storeStatus dt ..
  | .tplOpen dt .. | .tplPut dt .. | .tplCommit dt .. | .tplAbort dt .. | .tplErase dt ..
  | .tplRead dt .. | .tplStatus dt .. | .draftExpiry dt | .send dt .. | .release dt ..
  | .cancel dt .. | .flush dt .. | .queueStatus dt .. | .stop dt .. | .resume dt ..
  | .intervalEnd dt | .spacingEnd dt | .holdLimitExpiry dt .. | .indTailExpiry dt
  | .keyEdge dt .. | .debounceExpiry dt .. | .bind dt .. | .unbind dt .. | .keyStatus dt ..
  | .rxinChange dt .. | .glitchConfirm dt | .burstEndTimer dt | .markLimit dt
  | .blankTailExpiry dt | .matchingEnd dt | .rxWindowExpiry dt | .learnArm dt ..
  | .learnCancel dt .. | .learnRead dt .. | .learnTimerExpiry dt | .rxStatus dt ..
  | .saveWriteComplete dt | .wipeEraseEnd dt | .supplyChange dt .. | .dozeDelayExpiry dt
  | .rxdWakeEdge dt | .wakeLatencyEnd dt | .characterReceived dt .. => dt

namespace Machine

/-! ### A request and its answer -/

/-- The part is running: not held in reset, and its oscillator runs (10 R186, section 10.5). -/
def State.Running (s : State) : Prop := s.heldInReset = false ∧ s.doze.state = .awake

/-- A request that comes in now is handled at once: the part runs, no request waits, the Command Handler
is idle, and the reply buffer holds fewer than 2 replies (09 R167). -/
def State.Ready (s : State) : Prop :=
  s.Running ∧ s.link.intake = [] ∧ s.link.handler = .idle ∧ s.link.replies.length < 2

/-- The request is none that the reply cache answers after `dt` µs (09 R168). -/
def State.Misses (s : State) (dt : Nat) (r : Request) : Prop := s.link.hit r (s.now + dt) = none

/-- The link once a request has been received and its fresh reply has entered the reply buffer (09 R164,
R167, R168, R172): the receiver hunts, whatever of another frame it had (assumption log entry 32, DESIGN
CHOICE: this holds for every statement about a request), the reply stands last, the cache holds the
request and its reply, and the serializer sends. -/
def Link.afterRequest (l : Link) (r : Request) (body : ReplyBody) : Link :=
  { l with
    receiver := .hunt
    interByte := .stopped
    replies :=
      l.replies.map (fun p => { p with ofEntry := false })
        ++ [{ kind := r.kind + 0x80#8, tag := r.tag, body := body, resent := false, ofEntry := true }]
    cache := some { request := r, reply := body, closing := .stopped }
    sending :=
      match l.sending with
      | none => some .reply
      | some x => some x }

/-- The state `dt` µs later, once a request has been answered with `body` and nothing else has changed;
a reply waits, so the doze delay timer is stopped (10 R189). -/
def State.answered (s : State) (dt : Nat) (r : Request) (body : ReplyBody) : State :=
  { s with
    now := s.now + dt
    link := s.link.afterRequest r body
    doze := { s.doze with delay := .stopped } }

/-- The commands of a list taken one after the other; the first that does not answer a next state ends the
run. -/
def State.run : List Instr → State → Host.Outcome State Fault Refusal
  | [], s => .next s
  | c :: rest, s =>
    match exec c s with
    | .next t => State.run rest t
    | .fault f => .fault f
    | .refused r => .refused r

/-! ### What a reset leaves -/

/-- 04 R78, 05 R103, 03 R45, R55, 08 R149, R156, 10 R189: what every reset leaves of the queue, the engine, the
carrier, the indicator, the Matcher, the tracker, the Learn Buffer and DOZE. -/
def State.Fresh (t : State) : Prop :=
  t.heldInReset = false ∧ t.queue = { jobs := [], nextId := 1 }
    ∧ t.engine =
        { state := .idle, current := none, buffer := [], position := none, deadline := .stopped,
          resumed := false, emitting := false }
    ∧ t.carrier = .modulated 421 140 ∧ t.ind = { asserted := false, tail := .stopped }
    ∧ t.matcher = none ∧ t.tracker = .quiet ∧ t.learn = .idle
    ∧ t.doze = { state := .awake, delay := .stopped }

/-- 07 R138: the receiver after a reset, with the level on the line as it stands. -/
def Receiver.Fresh (rx : Receiver) (lineHigh : Bool) (c : Settings) : Prop :=
  rx.lineHigh = lineHigh
    ∧ rx.filtered = (if lineHigh = c.rxHighActive then .mark else .space)
    ∧ rx.candidate = none ∧ rx.state = (if c.rxEnable then .quiet else .off)
    ∧ rx.burstEnd = .stopped ∧ rx.markLimit = .stopped ∧ rx.blankTail = .stopped
    ∧ rx.slotA = .free ∧ rx.slotB = .free

/-- 06 R120: a key after a reset: LOCKED when it is enabled and its line low, otherwise UP, with no live
job. -/
def KeyRec.Fresh (r : KeyRec) (binding : Option JobSpec) (enabled high : Bool) : Prop :=
  r = { state := if enabled = true ∧ high = false then .locked else .up, expiry := .stopped,
        live := none, binding := binding }

/-- 09 R177, R161, R171, 10 R186: the link after a reset that found the BAUD strap at `strap`: START stands
first in the notice queue and is being sent with tag 0; SUPPLY LOW stands behind it when the supply is
LOW. -/
def Link.Fresh (l : Link) (reason : ResetReason) (status : ImageStatus) (low : Bool)
    (threshold : Nat) (strap : Bool) : Prop :=
  l.receiver = .hunt ∧ l.interByte = .stopped ∧ l.intake = [] ∧ l.handler = .idle
    ∧ l.replies = [] ∧ l.cache = none
    ∧ l.notices = .start reason status :: (if low then [.supply true threshold] else [])
    ∧ l.lost = false ∧ l.seq = 0#8 ∧ l.sending = some (.notice 0#8 false)
    ∧ l.fast = strap ∧ l.baud = (if strap then 115200 else 19200)

/-- How many of the bindings name a template (01 R23). -/
def namedBy (bindings : Fin 8 → Option JobSpec) (t : Fin 16) : Nat :=
  (List.finRange 8).countP fun k => (bindings k).any fun spec => decide (spec.template = t)

/-- `t` is the state that a power-on or pin reset of `s`, taken at its present moment, leaves: the image is
the working state (10 R179, 01 R23), and every block is fresh. -/
def State.AfterHardReset (t s : State) (reason : ResetReason) (strap : Bool) (img : Image)
    (status : ImageStatus) : Prop :=
  t.now = s.now ∧ t.Fresh ∧ t.settings = img.settings
    ∧ (∀ n : Fin 16,
        t.lib.slots[n] =
          { state := (match img.slots[n] with
              | some d => .ready d
              | none => .empty)
            refs := namedBy (fun k => img.bindings[k]) n
            toggle := false })
    ∧ t.lib.draft = none
    ∧ (∀ k : Fin 8,
        t.keys[k].Fresh img.bindings[k] (img.settings.keyEnable.getLsbD k.val)
          (s.kLines.getLsbD k.val))
    ∧ t.kLines = s.kLines
    ∧ t.rx.Fresh s.rx.lineHigh img.settings
    ∧ t.link.Fresh reason status t.supply.low img.settings.supplyThreshold strap
    ∧ t.link.listenFrom = s.now
    ∧ t.store = { s.store with op := .idle } ∧ t.freeUses = s.freeUses ∧ t.pending = s.pending

/-- `t` is the state that a soft reset of `s`, taken at its present moment with the BAUD strap as given,
leaves: definitions, bindings and settings are kept, the draft is abandoned (01 R24), and every block is
fresh. The frame receiver listens on without a break (assumption log entry 30). -/
def State.AfterSoftReset (t s : State) (strap : Bool) : Prop :=
  t.now = s.now ∧ t.Fresh ∧ t.settings = s.settings
    ∧ (∀ n : Fin 16,
        t.lib.slots[n] =
          { state := (if s.lib.draft.any (fun d => decide (d.slot = n)) then
              (match s.lib.slots[n].state with
                | .draft => .empty
                | .revising kept => .ready kept
                | other => other)
              else s.lib.slots[n].state)
            refs := namedBy (fun k => s.keys[k].binding) n
            toggle := false })
    ∧ t.lib.draft = none
    ∧ (∀ k : Fin 8,
        t.keys[k].Fresh s.keys[k].binding (s.settings.keyEnable.getLsbD k.val)
          (s.kLines.getLsbD k.val))
    ∧ t.kLines = s.kLines
    ∧ t.rx.Fresh s.rx.lineHigh s.settings
    ∧ t.link.Fresh .restart (.kept s.store.newest) t.supply.low s.settings.supplyThreshold strap
    ∧ t.link.listenFrom = s.link.listenFrom
    ∧ t.freeUses = s.freeUses ∧ t.pending = s.pending

/-! ### What a TPL_PUT may put -/

/-- 01 R3: an interval list: the kinds strictly alternate, and every duration is 10 to 65,000 µs. -/
def IsIntervalList (ivs : List Interval) : Prop :=
  ivs.IsChain (fun a b => a.kind ≠ b.kind) ∧ ∀ iv ∈ ivs, 10 ≤ iv.dur ∧ iv.dur ≤ 65000

/-- 01 R3, R4, R12: the data of a section with every value in its range. -/
def PartData.InRange : PartData → Prop
  | .carrier c _ => c = 0 ∨ (200 ≤ c ∧ c ≤ 600)
  | .lead ivs => IsIntervalList ivs ∧ ivs.length ≤ 4
  | .symbol _ ivs => IsIntervalList ivs ∧ ivs.length ≤ 4
  | .format bits _ _ toggle => 1 ≤ bits ∧ bits ≤ 64 ∧ ∀ p ∈ toggle, p ≤ 63
  | .trailer ivs => IsIntervalList ivs ∧ ivs.length ≤ 2
  | .repetition form marker =>
    IsIntervalList marker ∧ marker.length ≤ 4 ∧ (form ≠ .marker → marker = [])
  | .spacing _ value minFrames =>
    2000 ≤ value ∧ value ≤ 250000 ∧ 1 ≤ minFrames ∧ minFrames ≤ 4
  | .receive _ tolerance => tolerance = 10 ∨ tolerance = 15 ∨ tolerance = 20 ∨ tolerance = 25

/-! ### What the emission of a frame changes -/

/-- 05 R84, 03 R45, R53, 07 R132: `u` is what `s` becomes when a frame of the job `j` on the template `d`, with
the intervals `ivs`, starts now. -/
def State.FrameStarted (u s : State) (j : Job) (d : Template) (ivs : List Interval) : Prop :=
  u.engine =
      { state := .emitting, current := some j, buffer := ivs
        position := some { index := 0, since := s.now, frameStart := s.now, stoppedAt := none }
        deadline := s.engine.deadline, resumed := false, emitting := true }
    ∧ u.carrier = d.carrierSetting ∧ u.ind = { asserted := true, tail := .stopped }
    ∧ (s.settings.rxBlank = false ∨ s.rx.state = .off →
        u.rx = { s.rx with blankTail := .stopped })
    ∧ (s.settings.rxBlank = true ∧ s.rx.state ≠ .off →
        u.rx =
          { s.rx with
            state := .blanked, burstEnd := .stopped, markLimit := .stopped, blankTail := .stopped
            slotA := s.rx.slotA.abandoned, slotB := s.rx.slotB.abandoned })

/-- What no event of the queue and the engine touches. -/
def State.SameBeyondEmission (u s : State) : Prop :=
  u.resetLow = s.resetLow ∧ u.settings = s.settings ∧ u.kLines = s.kLines
    ∧ u.matcher = s.matcher ∧ u.tracker = s.tracker ∧ u.learn = s.learn ∧ u.store = s.store
    ∧ u.supply = s.supply ∧ u.freeUses = s.freeUses ∧ u.pending = s.pending

/-- 05 R82, R83, R92, 01 R8, 02 R35, R37, R38: `u` is what `s` becomes when the engine takes the job `j`, on the
READY template `d`, that has left the queue. Taken from WAITING, the toggle state of a toggle template
flips and the job keeps the bit, its hold limit is set and JOB_START is posted when its report is BOTH;
taken from PARKED, it goes on with all it kept, and nothing is posted. A full frame starts in both. -/
def State.JobTaken (u s : State) (j : Job) (d : Template) : Prop :=
  let flips := d.toggle.isSome
  let bit := !s.lib.slots[j.spec.template].toggle
  u.now = s.now ∧ u.keys = s.keys ∧ u.SameBeyondEmission s
    ∧ (j.state = .waiting → j.framesSent = 0 →
        u.FrameStarted s
            { j with
              state := .current
              toggleBit := if flips then some bit else none
              holdStarted := if j.spec.length = .hold then some s.now else j.holdStarted
              holdExpiry :=
                if j.spec.length = .hold then some (s.now + s.settings.holdLimit * 1000000)
                else j.holdExpiry }
            d (d.fullFrame j.spec.payload (flips && bit))
          ∧ u.lib =
              { s.lib with
                slots :=
                  s.lib.slots.set j.spec.template
                    { s.lib.slots[j.spec.template] with
                      toggle := if flips then bit else s.lib.slots[j.spec.template].toggle } }
          ∧ u.link =
              (if j.spec.report = .both then
                s.link.post
                  (.jobStart j.id j.source j.spec.template j.spec.cls
                    (if flips then some bit else none))
               else s.link))
    ∧ (j.state = .parked →
        u.FrameStarted s { j with state := .current } d
            (d.fullFrame j.spec.payload (j.toggleBit.getD false))
          ∧ u.lib = s.lib ∧ u.link = s.link)

/-! ### The queues of the link and the emission queue -/

/-- 04 R58, 09 R166, R167, R170: no queue holds more than its room. -/
def State.QueuesFit (s : State) : Prop :=
  s.queue.jobs.length ≤ 8 ∧ s.link.intake.length ≤ 3 ∧ s.link.replies.length ≤ 2
    ∧ s.link.notices.length ≤ 12

/-- 04 R58: every URGENT entry stands ahead of every NORMAL entry. -/
def classOrder : List Job → Bool
  | a :: b :: rest => (a.urgent || !b.urgent) && classOrder (b :: rest)
  | [_] | [] => true

/-- 04 R56, R58: the class order; only a NORMAL job is PARKED, and it stands first among the NORMAL
entries; no entry of the queue is CURRENT; while a NORMAL job is current no entry is PARKED. -/
def State.QueueOrdered (s : State) : Prop :=
  classOrder s.queue.jobs = true
    ∧ (∀ j ∈ s.queue.jobs, j.state = .waiting ∨ (j.state = .parked ∧ j.urgent = false))
    ∧ (∀ j ∈ (s.queue.jobs.dropWhile Job.urgent).tail, j.state = .waiting)
    ∧ (∀ c ∈ s.engine.current, c.urgent = false → ∀ j ∈ s.queue.jobs, j.state = .waiting)

/-! ### Jobs and reference counts -/

/-- The engine has a current job and a frame in progress exactly while it is EMITTING, none while it is
IDLE or STOPPED, and the emission activity says so (05 R79, R80). -/
def State.EngineCoherent (s : State) : Prop :=
  (s.engine.state = .emitting → s.engine.current.isSome ∧ s.engine.position.isSome)
    ∧ (s.engine.state = .idle ∨ s.engine.state = .stopped → s.engine.current = none)
    ∧ s.engine.emitting = decide (s.engine.state = .emitting)

/-- How many live jobs and bindings name a template (01 R7). -/
def State.claims (s : State) (t : Fin 16) : Nat :=
  s.liveJobs.countP (fun j => decide (j.spec.template = t))
    + (List.finRange 8).countP
        (fun k => s.keys[k].binding.any fun spec => decide (spec.template = t))

/-- 01 R7: every reference count is the number of live jobs and bindings that name the template, and a
template with a count that is not zero is READY. -/
def State.CountsExact (s : State) : Prop :=
  ∀ t : Fin 16, s.lib.slots[t].refs = s.claims t
    ∧ (s.lib.slots[t].refs ≠ 0 → s.lib.slots[t].state.usable.isSome)

/-- 04 R57, R63: the ids of the live jobs are distinct and run from 1 to 255, and so does the next-id
counter. -/
def State.IdsDistinct (s : State) : Prop :=
  (s.liveJobs.map Job.id).Nodup ∧ (∀ j ∈ s.liveJobs, 1 ≤ j.id ∧ j.id ≤ 255)
    ∧ 1 ≤ s.queue.nextId ∧ s.queue.nextId ≤ 255

/-- 06 R114: a key's live job id is the id of the live job whose source is that key, and absent when there
is none. -/
def State.KeysFollowJobs (s : State) : Prop :=
  ∀ k : Fin 8, (∀ id, s.keys[k].live = some id → ∃ j ∈ s.liveJobs, j.id = id ∧ j.source = .key k)
    ∧ (∀ j ∈ s.liveJobs, j.source = .key k → s.keys[k].live = some j.id)

/-- 04 R56: a job is CURRENT while the engine holds it, and WAITING or PARKED in the queue. -/
def State.JobsPlaced (s : State) : Prop :=
  (∀ j ∈ s.engine.current, j.state = .current) ∧ (∀ j ∈ s.queue.jobs, j.state ≠ .current)

/-- Every binding of an image names a slot that the image holds as READY (01 R7, 10 R178). -/
def Image.Closed (img : Image) : Prop :=
  ∀ k : Fin 8, ∀ spec ∈ img.bindings[k], img.slots[spec.template].isSome

/-- Every image of the part is closed. -/
def State.ImagesClosed (s : State) : Prop :=
  (∀ img ∈ s.store.bankA.image, img.Closed) ∧ (∀ img ∈ s.store.bankB.image, img.Closed)
    ∧ (match s.store.op with
      | .writing _ _ _ img => img.Closed
      | .idle | .wiping .. => True)

/-- The books of the jobs: what the queue, the engine, the library, the keys and the images know of the
live jobs and of the bindings agrees. -/
def State.JobsSound (s : State) : Prop :=
  s.EngineCoherent ∧ s.JobsPlaced ∧ s.queue.jobs.length ≤ 8 ∧ s.IdsDistinct ∧ s.CountsExact
    ∧ s.KeysFollowJobs ∧ s.ImagesClosed

/-! ### The library -/

/-- Whether a slot is bound to a draft (01 R2). -/
def SlotState.isBound : SlotState → Bool
  | .draft | .revising _ => true
  | .empty | .ready _ => false

/-- 01 R2: a slot is DRAFT or REVISING exactly when it is the slot bound to the Draft Record, DRAFT in
mode NEW and REVISING in mode REVISE. -/
def State.DraftBound (s : State) : Prop :=
  match s.lib.draft with
  | none => ∀ t : Fin 16, s.lib.slots[t].state.isBound = false
  | some d =>
    (∀ t : Fin 16, s.lib.slots[t].state.isBound = decide (t = d.slot))
      ∧ (s.lib.slots[d.slot].state = .draft ↔ d.mode = .new)

/-- 01 R14, R16: a definition that has passed the commit. -/
def Template.Committed (t : Template) : Prop := t.invalid? = none

/-- 10 R178: every definition of an image has passed the commit. -/
def Image.Committed (img : Image) : Prop := ∀ t : Fin 16, ∀ d ∈ img.slots[t], d.Committed

/-- Every definition the part holds, in a slot or in an image, has passed the commit (01 R1, R16). -/
def State.AllCommitted (s : State) : Prop :=
  (∀ t : Fin 16, ∀ d ∈ s.lib.slots[t].state.definition, d.Committed)
    ∧ (∀ img ∈ s.store.bankA.image, img.Committed) ∧ (∀ img ∈ s.store.bankB.image, img.Committed)
    ∧ (match s.store.op with
      | .writing _ _ _ img => img.Committed
      | .idle | .wiping .. => True)

/-! ### Reception -/

/-- Whether a burst slot is FILLING. -/
def BurstSlot.isFilling : BurstSlot → Bool
  | .filling .. => true
  | .free | .full .. => false

/-- 07 R124, R125, R132, R134: at most one slot is FILLING, and it is so exactly in IN_BURST; OFF is the
state of a receiver that is not enabled, BLANKED of an enabled one while blanking holds; the
burst-end timer and the mark limit run only where R124 says; the blank tail does not run during a
frame. -/
def State.ReceiverSound (s : State) : Prop :=
  (s.rx.slotA.isFilling && s.rx.slotB.isFilling) = false
    ∧ (s.rx.slotA.isFilling || s.rx.slotB.isFilling) = decide (s.rx.state = .inBurst)
    ∧ (s.rx.state = .off ↔ s.settings.rxEnable = false)
    ∧ (s.rx.state = .blanked ↔ s.settings.rxEnable = true ∧ s.blankingHolds = true)
    ∧ (s.rx.burstEnd ≠ .stopped →
        (s.rx.state = .inBurst ∨ s.rx.state = .discard) ∧ s.rx.filtered = .space)
    ∧ (s.rx.markLimit ≠ .stopped → s.rx.state = .inBurst ∧ s.rx.filtered = .mark)
    ∧ (s.engine.emitting = true → s.rx.blankTail = .stopped)

/-- 08 R140, R142, R149, 01 R10: the Matcher works on a FULL slot, every template it has still to try, or
the one it has found, is READY with listen yes, and so is the template on which the tracker is HELD. -/
def State.TrackingSound (s : State) : Prop :=
  (match s.matcher with
    | none => True
    | some m =>
      (s.rx.slot m.slot).isFull = true
        ∧ (match m.result with
          | some (.fullFrame t _) => t ∈ s.lib.listening
          | some (.marker t) => t ∈ s.lib.listening
          | none => ∀ t ∈ m.untried, t ∈ s.lib.listening))
    ∧ (match s.tracker with
      | .quiet => True
      | .held code => code.template ∈ s.lib.listening)

/-! ### The Image Store and the settings -/

/-- The generation of a bank, 0 when it is INVALID. -/
def Bank.generation : Bank → Nat
  | .valid gen _ => gen
  | .invalid => 0

/-- 10 R178, R180, R184: the generations run from 1 to 4,294,967,295 and no two are equal; a save writes
one above the highest into a bank that is INVALID; a bank under erase is INVALID, and at the second
erase both are. -/
def State.BanksSound (s : State) : Prop :=
  s.store.bankA.generation ≤ 4294967295 ∧ s.store.bankB.generation ≤ 4294967295
    ∧ (s.store.bankA ≠ .invalid → 1 ≤ s.store.bankA.generation)
    ∧ (s.store.bankB ≠ .invalid → 1 ≤ s.store.bankB.generation)
    ∧ (s.store.bankA ≠ .invalid → s.store.bankA.generation ≠ s.store.bankB.generation)
    ∧ (match s.store.op with
      | .idle => True
      | .writing target gen _ _ =>
        s.store.bank target = .invalid ∧ gen = s.store.highest + 1 ∧ gen ≤ 4294967295
      | .wiping bank _ second =>
        s.store.bank bank = .invalid ∧ (second = true → s.store.bank bank.other = .invalid))

/-- 09 R176, 11 section 11.5: every setting is within its range. -/
def Settings.InRange (c : Settings) : Prop := ∀ i : SettingId, i.inRange (c.get i) = true

/-- Every setting of the part, and of every image it holds, is within its range. -/
def State.AllInRange (s : State) : Prop :=
  s.settings.InRange
    ∧ (∀ img ∈ s.store.bankA.image, img.settings.InRange)
    ∧ (∀ img ∈ s.store.bankB.image, img.settings.InRange)
    ∧ (match s.store.op with
      | .writing _ _ _ img => img.settings.InRange
      | .idle | .wiping .. => True)

/-! ### DOZE -/

/-- 10 R189, R190: in DOZE and in the wake latency the engine is IDLE or STOPPED, no job is live, the
receiver is QUIET or OFF with no slot FULL, the tracker is QUIET, the Learn Buffer is not ARMED, the
store is IDLE, and the link holds nothing; RXIN wakes the part only with the receiver QUIET (R191). -/
def State.DozeSound (s : State) : Prop :=
  (s.doze.state ≠ .awake →
    (s.engine.state = .idle ∨ s.engine.state = .stopped) ∧ s.queue.jobs = [] ∧ s.rx.isQuiet = true
      ∧ s.tracker = .quiet ∧ s.learn.isArmed = false ∧ s.store.op = .idle ∧ s.link.isQuiet = true)
    ∧ (s.doze.state = .waking true → s.rx.state = .quiet)

/-- What the engine, the draft, DOZE, the receiver, the Matcher and the tracker know of one another
agrees. -/
def State.ReceptionSound (s : State) : Prop :=
  s.EngineCoherent ∧ s.DraftBound ∧ s.DozeSound ∧ s.ReceiverSound ∧ s.TrackingSound

end Machine

end Sys2Proof
end

