-- ==== Sys2Proof/Certificates/Slice0/Obligations.lean ====
section
/-! DEFINITION. The statements for the provers. Each says which rule of spec/ it comes from. A statement about a
request speaks of a part that is ready for it (`State.Ready`) and of a request that the reply cache does
not answer (`State.Misses`); `State.answered` spells out the whole state in which nothing but the link
has changed. A request that finds a frame partly delivered by characters drops that frame (assumption log
entry 32, DESIGN CHOICE). -/

open Sys2Proof Sys2Proof.Machine

/-! ### The step -/

/-- The command at the front of the queue is taken on the queue's rest; on an empty queue the block
idles (the model's choice, assumption log entry 11). -/
def Obligations.StepRunsTheFrontCommand : Prop :=
  (∀ (c : Instr) (rest : List Instr) (s : State),
      step { s with pending := c :: rest } = exec c { s with pending := rest })
    ∧ ∀ s : State, s.pending = [] → step s = .next s

/-- Every command answers a next state; it leaves the queue of commands as it is, and the time it carries
passes (assumption log entry 1). -/
def Obligations.EveryCommandAnswersNext : Prop :=
  ∀ (c : Instr) (s : State),
    ∃ t, exec c s = .next t ∧ t.pending = s.pending ∧ t.now = s.now + c.elapsed

/-- 10 R186, 03 R52, 06 R120, 07 R138: the part is held in reset while VDD is below 1.8 V or RESETn low. A
power-on reset below 1.8 V or with RESETn low, and a release of RESETn below 1.8 V, leave it held, and
nothing is loaded; held in reset the part sees nothing but its supply, RESETn and the levels of its
inputs; everything else stays (all this is the model's reading, assumption log entry 17, DEDUCED). R190,
R191: in DOZE and in the wake latency nothing acts but the resets, the supply, the wake sources and the
end of the latency; every block keeps its state. -/
def Obligations.HeldOrAsleepIgnores : Prop :=
  (∀ s : State, s.heldInReset = true ↔ s.resetLow = true ∨ s.supply.vdd < 1800)
    ∧ (∀ (s : State) (c : Instr), s.heldInReset = true →
      match c with
      | .powerOnReset .. | .pinReset .. | .supplyChange .. => True
      | .keyEdge dt k high =>
        exec c s = .next
          { s with
            now := s.now + dt
            kLines :=
              if high then s.kLines ||| BitVec.twoPow 8 k.val
              else s.kLines &&& ~~~BitVec.twoPow 8 k.val }
      | .rxinChange dt high =>
        exec c s = .next { s with now := s.now + dt, rx := { s.rx with lineHigh := high } }
      | c => exec c s = .next { s with now := s.now + c.elapsed })
    ∧ (∀ (s : State) (dt vdd : Nat) (strap : Bool),
        (vdd < 1800 ∨ s.resetLow = true →
          exec (.powerOnReset dt vdd strap) s =
            .next { s with now := s.now + dt, supply := { s.supply with vdd := vdd } })
        ∧ exec (.pinReset dt none) s = .next { s with now := s.now + dt, resetLow := true }
        ∧ (s.supply.vdd < 1800 →
          exec (.pinReset dt (some strap)) s =
            .next { s with now := s.now + dt, resetLow := false }))
    ∧ (∀ (s : State) (c : Instr), s.heldInReset = false → s.doze.state ≠ .awake →
          match c with
          | .powerOnReset .. | .pinReset .. | .supplyChange .. | .keyEdge .. | .rxinChange ..
          | .rxdWakeEdge .. | .wakeLatencyEnd .. => True
          | c => exec c s = .next { s with now := s.now + c.elapsed })

/-! ### The resets -/

/-- 10 R179, 01 R23, 03 R52, 04 R78, 05 R103, 06 R120, 07 R138, 08 R149, R156, 09 R161, R177, 10 R186, R189:
a power-on reset with VDD in the operating range and RESETn high, and the release of RESETn with VDD in the
operating range, load the image of the VALID bank with the highest generation, or a blank one, and put
every block in its reset state. That the load takes no time (assumption log entry 19) and that the level of
the BAUD strap comes with the command (entry 18) is the model's. -/
def Obligations.HardResetLoadsTheNewestImage : Prop :=
  ∀ (s : State) (dt : Nat) (strap : Bool) (img : Image) (status : ImageStatus),
    ((s.store.bankA = .invalid ∧ s.store.bankB = .invalid ∧ status = .blank
        ∧ img = { slots := Vector.replicate 16 none, bindings := Vector.replicate 8 none,
                  settings := Settings.defaults })
      ∨ (∃ gen, s.store.bankA = .valid gen img ∧ s.store.bankB.generation < gen
          ∧ status = .loaded .a gen)
      ∨ (∃ gen, s.store.bankB = .valid gen img ∧ s.store.bankA.generation < gen
          ∧ status = .loaded .b gen)) →
    (∀ vdd, 1800 ≤ vdd → s.resetLow = false →
      ∃ t, exec (.powerOnReset dt vdd strap) s = .next t
        ∧ t.supply = { vdd := vdd, low := decide (vdd < img.settings.supplyThreshold * 100) }
        ∧ t.AfterHardReset { s with now := s.now + dt } .power strap img status)
    ∧ (1800 ≤ s.supply.vdd →
      ∃ t, exec (.pinReset dt (some strap)) s = .next t
        ∧ t.supply =
            { vdd := s.supply.vdd
              low := decide (s.supply.vdd < img.settings.supplyThreshold * 100) }
        ∧ t.AfterHardReset { s with now := s.now + dt } .pin strap img status)

/-- 09 R175, R168: a RESTART with the store IDLE is answered OK, and the handler takes nothing more; with the
store WRITING or WIPING it is answered SAVING. Its reply is not cached. R177, 01 R24, 04 R78, 05 R103,
06 R120, 07 R138, 08 R149, R156, 09 R161, 10 R179, R189: when the OK of a RESTART has been sent the soft reset
is taken: definitions, bindings, settings and banks are kept, the draft is abandoned, every block takes
its reset state, with the bit rate of the BAUD strap as it is then found, and START KEPT is posted. That a
refused RESTART is not cached (assumption log entry 25), that the strap's level comes with the end of the
OK (entry 18), that the frame receiver listens on (entry 30) and that the request drops a frame partly
delivered by characters (entry 32) is the model's. -/
def Obligations.RestartTakesTheSoftReset : Prop :=
  (∀ (s : State) (dt : Nat) (tag : Byte), s.Ready → s.Misses dt ⟨0x02#8, tag, []⟩ →
      exec (.restart dt tag) s =
        .next
          { s with
            now := s.now + dt
            link :=
              { s.link with
                receiver := .hunt
                interByte := .stopped
                handler := if s.store.op = .idle then .restarting else .idle
                replies :=
                  s.link.replies
                    ++ [{ kind := 0x82#8, tag := tag
                          body := if s.store.op = .idle then .restarting else .status .saving
                          resent := false, ofEntry := false }]
                sending :=
                  match s.link.sending with
                  | none => some .reply
                  | some x => some x }
            doze := { s.doze with delay := .stopped } })
    ∧ (∀ (s : State) (dt : Nat) (strap : Bool) (r : Reply) (rest : List Reply), s.Running →
          s.link.sending = some .reply → s.link.replies = r :: rest → r.body = .restarting →
          ∃ t, exec (.outboundFrameEnd ⟨dt, strap⟩) s = .next t
            ∧ t.supply =
                { vdd := s.supply.vdd
                  low := decide (s.supply.vdd < s.settings.supplyThreshold * 100) }
            ∧ t.store = s.store
            ∧ t.AfterSoftReset { s with now := s.now + dt } strap)

/-! ### The Code Library -/

/-- 01 R9, R4: TPL_OPEN, its refusals in order, and what it creates. A revision is stated here for a part
whose Matcher is idle and whose tracker is not HELD on the slot; `LeavingReadyIsTold` has the rest. -/
def Obligations.TplOpenBindsADraft : Prop :=
  ∀ (s : State) (dt : Nat) (tag slot mode : Byte), s.Ready →
    s.Misses dt ⟨0x10#8, tag, [slot, mode]⟩ →
    let answer := fun st => s.answered dt ⟨0x10#8, tag, [slot, mode]⟩ (.status st)
    let due := Timer.running (s.now + dt + 30000000)
    (16 ≤ slot.toNat ∨ 2 ≤ mode.toNat →
      exec (.tplOpen dt tag slot mode) s = .next (answer .badValue))
    ∧ ∀ t : Fin 16, slot.toNat = t.val →
      (mode.toNat < 2 → s.isWriting = true →
        exec (.tplOpen dt tag slot mode) s = .next (answer .saving))
      ∧ (mode.toNat < 2 → s.isWriting = false → s.lib.draft.isSome →
        exec (.tplOpen dt tag slot mode) s = .next (answer .draftBusy))
      ∧ (s.isWriting = false → s.lib.draft = none → mode = 0#8 →
        (s.lib.slots[t].state ≠ .empty →
          exec (.tplOpen dt tag slot mode) s = .next (answer .slotState))
        ∧ (s.lib.slots[t].state = .empty →
          exec (.tplOpen dt tag slot mode) s =
            .next
              { answer .ok with
                lib :=
                  { slots := s.lib.slots.set t { s.lib.slots[t] with state := .draft }
                    draft :=
                      some
                        { slot := t, mode := .new, put := [], expiry := due
                          work :=
                            { carrier := 380, duty := .third, lead := []
                              symbols := Vector.replicate 4 [], payloadBits := 32
                              bitOrder := .lsbFirst, check := .none, toggle := none
                              trailer := [⟨.mark, 560⟩], repeatForm := .full, marker := []
                              spacingMode := .gap, spacing := 40000, minFrames := 1
                              listen := false, tolerance := 20 } } } }))
      ∧ (s.isWriting = false → s.lib.draft = none → mode = 1#8 →
        ((∀ d, s.lib.slots[t].state ≠ .ready d) →
          exec (.tplOpen dt tag slot mode) s = .next (answer .slotState))
        ∧ ∀ d, s.lib.slots[t].state = .ready d →
          (s.lib.slots[t].refs ≠ 0 →
            exec (.tplOpen dt tag slot mode) s = .next (answer .inUse))
          ∧ (s.lib.slots[t].refs = 0 → s.matcher = none → s.tracker.heldOn t = false →
            exec (.tplOpen dt tag slot mode) s =
              .next
                { answer .ok with
                  lib :=
                    { slots := s.lib.slots.set t { s.lib.slots[t] with state := .revising d }
                      draft :=
                        some { slot := t, mode := .revise, put := [], expiry := due, work := d } } }))

/-- 01 R10, 08 R143: a slot that leaves READY by TPL_ERASE or TPL_OPEN REVISE: RX_END GONE ends a session
held on it, and nothing of the Matcher names it any more. -/
def Obligations.LeavingReadyIsTold : Prop :=
  ∀ (s : State) (dt : Nat) (tag : Byte) (t : Fin 16) (d : Template) (c : Instr),
    s.Ready → s.isWriting = false → s.lib.slots[t].state = .ready d → s.lib.slots[t].refs = 0 →
    ((c = .tplErase dt tag (u8 t.val) ∧ s.Misses dt ⟨0x14#8, tag, [u8 t.val]⟩)
      ∨ (c = .tplOpen dt tag (u8 t.val) 1#8 ∧ s.Misses dt ⟨0x10#8, tag, [u8 t.val, 1#8]⟩
          ∧ s.lib.draft = none)) →
    ∃ u, exec c s = .next u
      ∧ u.lib.slots[t].state.usable = none
      ∧ (∀ n : Fin 16, n ≠ t → u.lib.slots[n] = s.lib.slots[n])
      ∧ (∀ m ∈ u.matcher, (m.result = none → t ∉ m.untried)
          ∧ (∀ p, m.result ≠ some (.fullFrame t p)) ∧ m.result ≠ some (.marker t))
      ∧ (s.matcher = none → u.matcher = none)
      ∧ u.link.notices =
          (match s.tracker with
            | .held code =>
              if code.template = t ∧ s.link.notices.length < 12 then
                s.link.notices ++ [.rxEnd t .gone code.repeats code.payload]
              else s.link.notices
            | .quiet => s.link.notices)
      ∧ u.tracker = (if s.tracker.heldOn t then .quiet else s.tracker)
      ∧ u.queue = s.queue ∧ u.engine = s.engine ∧ u.keys = s.keys ∧ u.rx = s.rx
      ∧ u.settings = s.settings ∧ u.store = s.store ∧ u.learn = s.learn ∧ u.supply = s.supply
      ∧ u.carrier = s.carrier ∧ u.ind = s.ind ∧ u.kLines = s.kLines

/-- 01 R11, R18: TPL_PUT of a payload of the right length: SAVING, NO_DRAFT, BAD_VALUE or OK in this order;
whatever its reply, it renews an existing draft. -/
def Obligations.TplPutRenewsTheDraft : Prop :=
  ∀ (s : State) (dt : Nat) (tag part : Byte) (data : List Byte), s.Ready →
    s.Misses dt ⟨0x11#8, tag, part :: data⟩ → data.length ≤ 59 → putLengthOk (part :: data) = true →
    let answer := fun st => s.answered dt ⟨0x11#8, tag, part :: data⟩ (.status st)
    let due := Timer.running (s.now + dt + 30000000)
    match s.lib.draft with
    | none =>
      exec (.tplPut dt tag part data) s =
        .next (answer (if s.isWriting then .saving else .noDraft))
    | some d =>
      exec (.tplPut dt tag part data) s =
        .next
          (if s.isWriting then
            { answer .saving with lib := { s.lib with draft := some { d with expiry := due } } }
          else
            match partOf part data with
            | none =>
              { answer .badValue with lib := { s.lib with draft := some { d with expiry := due } } }
            | some x =>
              { answer .ok with
                lib :=
                  { s.lib with
                    draft :=
                      some
                        { d with
                          work := d.work.put x
                          put := if x.part ∈ d.put then d.put else d.put ++ [x.part]
                          expiry := due } } })

/-- 01 R12, R3, R4: what TPL_PUT takes is in range: a value that breaks its rule is refused. R20, R13,
11 R192, R193, section 11.5: a section in range that has been put reads back by TPL_READ as bytes that
TPL_PUT takes as the same section. -/
def Obligations.SectionsAreCheckedAndReadBack : Prop :=
  (∀ (part : Byte) (data : List Byte) (x : PartData),
      putLengthOk (part :: data) = true → partOf part data = some x → x.InRange)
    ∧ (∀ (t : Template) (x : PartData), x.InRange →
          ∃ part data, (t.put x).partBytes x.part = part :: data ∧ data.length ≤ 15
            ∧ putLengthOk (part :: data) = true ∧ partOf part data = some x)

/-- 01 R14, R16: TPL_COMMIT. `Template.invalid?` is the first reason of R14 that applies, in its order. -/
def Obligations.TplCommitInstalls : Prop :=
  ∀ (s : State) (dt : Nat) (tag : Byte), s.Ready → s.Misses dt ⟨0x12#8, tag, []⟩ →
    let r : Request := ⟨0x12#8, tag, []⟩
    exec (.tplCommit dt tag) s =
      .next
        (if s.isWriting then s.answered dt r (.status .saving)
        else
          match s.lib.draft with
          | none => s.answered dt r (.status .noDraft)
          | some d =>
            match d.work.invalid? with
            | some reason => s.answered dt r (.invalid reason)
            | none =>
              { s.answered dt r (.status .ok) with
                lib :=
                  { slots :=
                      s.lib.slots.set d.slot
                        { s.lib.slots[d.slot] with state := .ready d.work, toggle := false }
                    draft := none } })

/-- 01 R14, R15, R5: the eight reasons of a refused commit, in their order, NO_MARK, TOO_MANY and TOO_LONG
over every payload with the toggle bit set to either value. A template to which none applies has no
reason, and a draft that holds it commits. That TOO_LONG measures the marker's whole list is the model's
reading (assumption log entry 22, DEDUCED). -/
def Obligations.CommitReasonsInOrder : Prop :=
  ∀ t : Template,
    let present := fun n : Fin 4 => t.symbols[n] ≠ []
    let two := present 0 ∧ present 1 ∧ ¬ present 2 ∧ ¬ present 3
    let four := present 0 ∧ present 1 ∧ present 2 ∧ present 3
    let badLength :=
      (t.check = .invertBytes ∧ (t.payloadBits % 8 ≠ 0 ∨ 32 < t.payloadBits))
        ∨ (t.check = .sum8 ∧ (t.payloadBits % 8 ≠ 0 ∨ 56 < t.payloadBits))
    let badToggle := ∃ p ∈ t.toggle, t.payloadBits ≤ p
    (¬ two ∧ ¬ four → t.invalid? = some .noSymbols)
    ∧ (four ∧ t.payloadBits % 2 = 1 → t.invalid? = some .oddPayload)
    ∧ (two ∨ (four ∧ t.payloadBits % 2 = 0) →
      (badLength → t.invalid? = some .checkLength)
      ∧ (¬ badLength → badToggle → t.invalid? = some .toggleRange)
      ∧ (¬ badLength → ¬ badToggle →
        let noMark := ∃ payload bit, holdsMark (t.fullFrame payload bit) = false
        let badMarker := t.repeatForm = .marker ∧ holdsMark t.marker = false
        let tooMany := ∃ payload bit, 160 < (t.fullFrame payload bit).length
        let tooLong :=
          (∃ payload bit, 250000 < total (t.fullFrame payload bit))
            ∨ (t.repeatForm = .marker ∧ 250000 < total t.marker)
        (noMark → t.invalid? = some .noMark)
        ∧ (¬ noMark → badMarker → t.invalid? = some .badMarker)
        ∧ (¬ noMark → ¬ badMarker → tooMany → t.invalid? = some .tooMany)
        ∧ (¬ noMark → ¬ badMarker → ¬ tooMany → tooLong → t.invalid? = some .tooLong)
        ∧ (¬ noMark → ¬ badMarker → ¬ tooMany → ¬ tooLong →
          t.invalid? = none
          ∧ ∀ (s : State) (dt : Nat) (tag : Byte) (d : Draft), s.Ready →
            s.Misses dt ⟨0x12#8, tag, []⟩ → s.isWriting = false → s.lib.draft = some d →
            d.work = t →
            ∃ u, exec (.tplCommit dt tag) s = .next u ∧ u.lib.slots[d.slot].state = .ready t
              ∧ u.lib.draft = none)))

/-- 01 R15, 02 R34, R36: every full frame rendered from a committed template holds a MARK, fits the render
buffer of 160 intervals and lasts at most 250,000 µs, whatever the payload and the toggle bit. The marker
frame of a MARKER template holds a MARK, lasts at most 250,000 µs and has no more intervals than its marker
list, so at most 4 for a list of at most 4, which is all that TPL_PUT takes (R3). -/
def Obligations.CommittedFramesFit : Prop :=
  ∀ t : Template, t.Committed →
    (∀ (payload : List Byte) (toggleBit : Bool),
      holdsMark (t.fullFrame payload toggleBit) = true
        ∧ (t.fullFrame payload toggleBit).length ≤ 160
        ∧ total (t.fullFrame payload toggleBit) ≤ 250000)
    ∧ (t.repeatForm = .marker →
      holdsMark t.markerFrame = true ∧ total t.markerFrame ≤ 250000
        ∧ t.markerFrame.length ≤ t.marker.length
        ∧ (t.marker.length ≤ 4 → 1 ≤ t.markerFrame.length ∧ t.markerFrame.length ≤ 4))

/-- 01 R17, R18: TPL_ABORT and the draft expiry abandon the draft: a DRAFT slot becomes EMPTY, a REVISING one
READY with its retained definition, its toggle state untouched; only the expiry posts a notice. Without a
draft TPL_ABORT is answered NO_DRAFT. -/
def Obligations.AbandoningRestoresTheSlot : Prop :=
  (∀ (s : State) (dt : Nat) (tag : Byte), s.Ready → s.Misses dt ⟨0x13#8, tag, []⟩ →
      s.lib.draft = none →
      exec (.tplAbort dt tag) s =
        .next (s.answered dt ⟨0x13#8, tag, []⟩ (.status .noDraft)))
    ∧ (∀ (s : State) (dt : Nat) (tag : Byte) (d : Draft) (st : SlotState), s.Running →
      s.lib.draft = some d →
      ((s.lib.slots[d.slot].state = .draft ∧ st = .empty)
        ∨ ∃ kept, s.lib.slots[d.slot].state = .revising kept ∧ st = .ready kept) →
      let lib : Library :=
        { slots := s.lib.slots.set d.slot { s.lib.slots[d.slot] with state := st }, draft := none }
      (s.Ready → s.Misses dt ⟨0x13#8, tag, []⟩ →
        exec (.tplAbort dt tag) s =
          .next { s.answered dt ⟨0x13#8, tag, []⟩ (.status .ok) with lib := lib })
      ∧ (∀ due, d.expiry = .running due → due ≤ s.now + dt →
        exec (.draftExpiry dt) s =
          .next
            { s with
              now := s.now + dt
              lib := lib
              link := s.link.post (.draftExpired d.slot d.mode)
              doze := { s.doze with delay := .stopped } }))

/-- 01 R19: TPL_ERASE, its refusals in order, and its effect while the Matcher is idle and the tracker is
not HELD on the slot; `LeavingReadyIsTold` has the rest. -/
def Obligations.TplEraseEmptiesTheSlot : Prop :=
  ∀ (s : State) (dt : Nat) (tag slot : Byte), s.Ready → s.Misses dt ⟨0x14#8, tag, [slot]⟩ →
    let answer := fun st => s.answered dt ⟨0x14#8, tag, [slot]⟩ (.status st)
    (16 ≤ slot.toNat → exec (.tplErase dt tag slot) s = .next (answer .badValue))
    ∧ ∀ t : Fin 16, slot.toNat = t.val →
      (s.isWriting = true → exec (.tplErase dt tag slot) s = .next (answer .saving))
      ∧ (s.isWriting = false → (∀ d, s.lib.slots[t].state ≠ .ready d) →
        exec (.tplErase dt tag slot) s = .next (answer .slotState))
      ∧ ∀ d, s.isWriting = false → s.lib.slots[t].state = .ready d →
        (s.lib.slots[t].refs ≠ 0 → exec (.tplErase dt tag slot) s = .next (answer .inUse))
        ∧ (s.lib.slots[t].refs = 0 → s.matcher = none → s.tracker.heldOn t = false →
          exec (.tplErase dt tag slot) s =
            .next
              { answer .ok with
                lib :=
                  { s.lib with
                    slots :=
                      s.lib.slots.set t
                        { s.lib.slots[t] with state := .empty, toggle := false } } })

/-- 01 R20: TPL_READ of a section of a slot's own definition (copy STORED) or of the draft (copy DRAFT),
which it renews. A slot, copy, section or symbol number out of range, and a symbol number other than 0 with
another section, is BAD_VALUE and renews nothing (assumption log entry 21, DEDUCED), whatever the slot and
the draft are (entry 33, DEDUCED). -/
def Obligations.TplReadAnswersTheSection : Prop :=
  ∀ (s : State) (dt : Nat) (tag slot copy part n : Byte), s.Ready →
    s.Misses dt ⟨0x15#8, tag, [slot, copy, part, n]⟩ →
    let answer := s.answered dt ⟨0x15#8, tag, [slot, copy, part, n]⟩
    let numbers : Part → Byte × Byte := fun p =>
      match p with
      | .carrier => (0#8, 0#8)
      | .lead => (1#8, 0#8)
      | .symbol k => (2#8, BitVec.ofNat 8 k.val)
      | .format => (3#8, 0#8)
      | .trailer => (4#8, 0#8)
      | .repetition => (5#8, 0#8)
      | .spacing => (6#8, 0#8)
      | .receive => (7#8, 0#8)
    (16 ≤ slot.toNat ∨ 2 ≤ copy.toNat ∨ 8 ≤ part.toNat ∨ (part = 2#8 ∧ 4 ≤ n.toNat)
        ∨ (part ≠ 2#8 ∧ n ≠ 0#8) →
      exec (.tplRead dt tag slot copy part n) s = .next (answer (.status .badValue)))
    ∧ ∀ (t : Fin 16) (p : Part), slot.toNat = t.val → (part, n) = numbers p →
    (copy = 0#8 →
      exec (.tplRead dt tag slot copy part n) s =
        .next
          (match s.lib.slots[t].state with
            | .ready d | .revising d => answer (.part (d.partBytes p))
            | .empty | .draft => answer (.status .slotState)))
    ∧ (copy = 1#8 →
      exec (.tplRead dt tag slot copy part n) s =
        .next
          (match s.lib.draft with
            | none => answer (.status .noDraft)
            | some d =>
              if d.slot = t then
                { answer (.part (d.work.partBytes p)) with
                  lib :=
                    { s.lib with
                      draft := some { d with expiry := .running (s.now + dt + 30000000) } } }
              else answer (.status .slotState)))

/-! ### Rendering -/

/-- 02 R32, R33: merging keeps the duration and makes the kinds alternate; a rendered frame begins and
ends with a MARK, and it is not empty when the raw list holds one. -/
def Obligations.RenderedFramesAlternate : Prop :=
  ∀ raw : List Interval,
    (merge raw).IsChain (fun a b => a.kind ≠ b.kind) ∧ total (merge raw) = total raw
      ∧ (render raw).IsChain (fun a b => a.kind ≠ b.kind)
      ∧ (∀ iv ∈ (render raw).head?, iv.kind = .mark)
      ∧ (∀ iv ∈ (render raw).getLast?, iv.kind = .mark)
      ∧ (render raw ≠ [] ↔ holdsMark raw = true)

/-- 02 R26 to R30, 08 R147: reception undoes the encoding: from the symbols that the encoded bits of a payload
place, the received bits pass the check and give the payload bits back, and without a toggle position
the payload bytes of an admitted job. 02 R31, 08 R144 to R146: so the full-frame trial gives back the
payload of a frame whose two symbols are a MARK and a SPACE each and differ by more than the tolerance
(that a split is kept only where the frame can go on with its kind is DEDUCED, assumption log entry 15).
An INVERT_BYTES frame carries as many ones as zeros, each as many as the payload has bits (R28). -/
def Obligations.ReceptionUndoesEncoding : Prop :=
  (∀ t : Template, t.symbolCount.isSome → (t.symbolCount = some 4 → t.payloadBits % 2 = 0) →
      (t.check ≠ .none → t.payloadBits % 8 = 0) →
      (∀ bits : List Bool, bits.length = t.payloadBits →
        splitCheck t (t.receivedBits (t.steps (encodeBits t.bitOrder t.check bits))) = some bits)
      ∧ (∀ payload : List Byte, t.toggle = none → payloadFits t payload = true →
        bytesOfBits (toggledBits t payload false) = payload))
    ∧ (∀ (t : Template) (payload : List Byte) (mark0 space0 mark1 space1 last : Nat),
          t.symbols[0] = [⟨.mark, mark0⟩, ⟨.space, space0⟩] →
          t.symbols[1] = [⟨.mark, mark1⟩, ⟨.space, space1⟩] →
          t.symbols[2] = [] → t.symbols[3] = [] → t.trailer = [⟨.mark, last⟩] →
          (t.lead = [] ∨ ∃ m n, t.lead = [⟨.mark, m⟩, ⟨.space, n⟩]) →
          (mark0 * t.tolerance < (mark1 - mark0 + (mark0 - mark1)) * 100
            ∨ space0 * t.tolerance < (space1 - space0 + (space0 - space1)) * 100) →
          t.toggle = none → payloadFits t payload = true →
          (t.check ≠ .none → t.payloadBits % 8 = 0) →
          fullFrameTrial t (t.fullFrame payload false) = some payload)
    ∧ (∀ (o : BitOrder) (bits : List Bool), bits.length % 8 = 0 →
          (encodeBits o .invertBytes bits).count true = bits.length
            ∧ (encodeBits o .invertBytes bits).count false = bits.length)

/-! ### The carrier, the lines and the indicator -/

/-- 03 R43: the carrier period of a field from 200 to 600 is the whole number of steps of 62.5 ns nearest to
16,000,000 ÷ (c × 100), and of two that lie as near the longer one; that happens only at 512, where it is
313; it runs from 267 to 800 steps. A template's period is that of its field, a field of 0 gives none. -/
def Obligations.CarrierPeriodIsNearest : Prop :=
  (∀ c : Nat, 200 ≤ c → c ≤ 600 →
    2 * (carrierPeriod c * (c * 100)) ≤ 32000000 + c * 100
      ∧ 32000000 < 2 * (carrierPeriod c * (c * 100)) + c * 100
      ∧ (2 * (carrierPeriod c * (c * 100)) = 32000000 + c * 100 ↔ c = 512)
      ∧ 267 ≤ carrierPeriod c ∧ carrierPeriod c ≤ 800)
    ∧ carrierPeriod 512 = 313 ∧ carrierPeriod 200 = 800 ∧ carrierPeriod 600 = 267
    ∧ ∀ t : Template,
        t.carrierSetting =
          if t.carrier = 0 then .unmodulated
          else .modulated (carrierPeriod t.carrier) (t.duty.active (carrierPeriod t.carrier))

/-- 03 R44: the active part of a carrier period for each duty; it is never shorter than 66 steps, it comes
first in the period, and during a mark the line stands at its active level in it and at its idle level in
the rest; at carrier 380 it is 210, 140 or 105 of 421 steps. -/
def Obligations.DutySetsTheActivePart : Prop :=
  (∀ period : Nat, Duty.half.active period = period / 2 ∧ Duty.third.active period = period / 3
      ∧ Duty.quarter.active period = period / 4)
    ∧ (∀ (c : Nat) (d : Duty), 200 ≤ c → c ≤ 600 → 66 ≤ d.active (carrierPeriod c))
    ∧ (∀ (s : State) (k : Fin 3) (step period active : Nat), s.markOn k step = true →
        s.carrier = .modulated period active →
        (s.lineActive k step = true ↔ s.stepsPlayed step % period < active))
    ∧ carrierPeriod 600 = 267 ∧ Duty.quarter.active 267 = 66
    ∧ carrierPeriod 380 = 421 ∧ Duty.half.active 421 = 210 ∧ Duty.third.active 421 = 140
    ∧ Duty.quarter.active 421 = 105

/-- 03 R46 to R50, R52: a line is at its active level only during a MARK of the current job while the engine
is EMITTING, enabled and in the mask, and there it follows the carrier from the mark's beginning to the
moment at which its duration has elapsed: in the active part of each period, and throughout when the
template is unmodulated (R48); how the pin then stands is the table of R49; held in reset, by
its supply or by RESETn, it is not driven. R47: the number of carrier periods that begin within a mark of
`d` µs is the whole quotient of 16 × d by the period, plus 1 when a remainder is left. -/
def Obligations.LinesFollowTheMarks : Prop :=
  (∀ period d : Nat, 0 < period →
      pulses period d = (List.range (16 * d)).countP fun n => decide (n % period = 0))
  ∧ ∀ (s : State) (k : Fin 3) (step : Nat),
    (s.resetLow = true ∨ s.supply.vdd < 1800 → s.linePin k step = .notDriven)
    ∧ (s.heldInReset = false →
      s.linePin k step =
        (let l := s.settings.line k
         if s.lineActive k step then
           (if l.low then .drivenLow else if l.openDrain then .notDriven else .drivenHigh)
         else
           (if l.low then (if l.openDrain then .notDriven else .drivenHigh) else .drivenLow)))
    ∧ (s.lineActive k step = true ↔
      s.engine.state = .emitting ∧ (s.settings.line k).enabled = true
        ∧ ∃ j p iv, s.engine.current = some j ∧ s.engine.position = some p
          ∧ s.engine.buffer[p.index]? = some iv ∧ iv.kind = .mark
          ∧ names j.spec.mask k = true
          ∧ 16 * (s.now - p.since) + step < 16 * iv.dur
          ∧ (match s.carrier with
            | .unmodulated => True
            | .modulated period active => (16 * (s.now - p.since) + step) % period < active))

/-! ### The Emission Queue -/

/-- 04 R60, R61, 11 R192: the refusals of SEND in their order: a field out of range, then the six checks of
admission. A refused SEND changes nothing. -/
def Obligations.SendRefusalsInOrder : Prop :=
  ∀ (s : State) (dt : Nat) (tag template mode count mask cls report : Byte) (payload : List Byte),
    s.Ready →
    s.Misses dt ⟨0x20#8, tag, template :: mode :: count :: mask :: cls :: report :: payload⟩ →
    1 ≤ payload.length → payload.length ≤ 8 →
    let refused := fun st =>
      exec (.send dt tag template mode count mask cls report payload) s =
        .next
          (s.answered dt
            ⟨0x20#8, tag, template :: mode :: count :: mask :: cls :: report :: payload⟩
            (.status st))
    let outOfRange :=
      16 ≤ template.toNat ∨ 2 ≤ mode.toNat ∨ (mode = 0#8 ∧ count = 0#8) ∨ 8 ≤ mask.toNat
        ∨ 2 ≤ cls.toNat ∨ 3 ≤ report.toNat
    (outOfRange → refused .badValue)
    ∧ (¬ outOfRange → ∀ t : Fin 16, template.toNat = t.val →
      match s.lib.slots[t].state with
      | .empty | .draft | .revising _ => refused .noTemplate
      | .ready d =>
        if payloadFits d payload = false then refused .badPayload
        else if d.repeatForm = .none ∧ ¬ (mode = 0#8 ∧ count = 1#8) then refused .badRepeat
        else if mask = 0#8 ∨ (∃ k : Fin 3, mask.getLsbD k.val = true
            ∧ (s.settings.line k).enabled = false) then refused .badEmitter
        else if 8 ≤ s.queue.jobs.length then refused .queueFull
        else s.supply.low = true → refused .lowSupply)

/-- 04 R62, R63, R56, R58, 05 R81: a SEND that passes every check while the engine is not IDLE: the job
joins the queue, behind the URGENT entries or at the back, and its template is claimed. R63: the id it
gets is the first one from the next-id counter on, wrapping from 255 to 1, that no live job bears. -/
def Obligations.SendQueuesTheJob : Prop :=
  (∀ (s : State) (dt : Nat) (tag template mode count mask cls report : Byte) (payload : List Byte)
      (spec : JobSpec),
      s.Ready →
      s.Misses dt ⟨0x20#8, tag, template :: mode :: count :: mask :: cls :: report :: payload⟩ →
      1 ≤ payload.length → payload.length ≤ 8 →
      jobSpecOf template mode count mask cls report payload = some spec →
      s.admissionRefusal spec = none → s.engine.state ≠ .idle →
      let job : Job :=
        { id := s.allocate, source := .host, spec := spec, state := .waiting, framesSent := 0
          endPending := none, holdStarted := none, toggleBit := none, holdExpiry := none }
      exec (.send dt tag template mode count mask cls report payload) s =
        .next
          { s.answered dt
              ⟨0x20#8, tag, template :: mode :: count :: mask :: cls :: report :: payload⟩
              (.jobId s.allocate) with
            queue :=
              { jobs :=
                  match spec.cls with
                  | .urgent =>
                    s.queue.jobs.takeWhile Job.urgent ++ job :: s.queue.jobs.dropWhile Job.urgent
                  | .normal => s.queue.jobs ++ [job]
                nextId := if s.allocate = 255 then 1 else s.allocate + 1 }
            lib :=
              { s.lib with
                slots :=
                  s.lib.slots.set spec.template
                    { s.lib.slots[spec.template] with
                      refs := s.lib.slots[spec.template].refs + 1 } } })
    ∧ (∀ s : State, s.liveJobs.length ≤ 8 → 1 ≤ s.queue.nextId → s.queue.nextId ≤ 255 →
          let after := fun id => if id = 255 then 1 else id + 1
          1 ≤ s.allocate ∧ s.allocate ≤ 255 ∧ s.allocate ∉ s.liveJobs.map Job.id
            ∧ ∃ n, s.allocate = after^[n] s.queue.nextId
              ∧ ∀ m < n, after^[m] s.queue.nextId ∈ s.liveJobs.map Job.id)

/-- 05 R81, R82, R92, 01 R8, 02 R38: a SEND into an IDLE engine is taken at once: the toggle state of a toggle
template flips and the job keeps it, the first full frame starts, a HOLD job's limit is set, and
JOB_START is posted when the report is BOTH. That JOB_START stands before the reply is the model's
choice (assumption log entry 5). -/
def Obligations.SendStartsTheFirstFrame : Prop :=
  ∀ (s : State) (dt : Nat) (tag template mode count mask cls report : Byte) (payload : List Byte)
    (spec : JobSpec) (d : Template),
    s.Ready →
    s.Misses dt ⟨0x20#8, tag, template :: mode :: count :: mask :: cls :: report :: payload⟩ →
    1 ≤ payload.length → payload.length ≤ 8 →
    jobSpecOf template mode count mask cls report payload = some spec →
    s.admissionRefusal spec = none → s.lib.slots[spec.template].state = .ready d →
    s.engine.state = .idle → s.engine.current = none → s.queue.jobs = [] →
    let flips := d.toggle.isSome
    let bit := !s.lib.slots[spec.template].toggle
    let job : Job :=
      { id := s.allocate, source := .host, spec := spec, state := .current, framesSent := 0
        endPending := none
        holdStarted := if spec.length = .hold then some (s.now + dt) else none
        toggleBit := if flips then some bit else none
        holdExpiry :=
          if spec.length = .hold then some (s.now + dt + s.settings.holdLimit * 1000000)
          else none }
    ∃ u, exec (.send dt tag template mode count mask cls report payload) s = .next u
      ∧ u.now = s.now + dt
      ∧ u.FrameStarted { s with now := s.now + dt } job d (d.fullFrame payload (flips && bit))
      ∧ u.queue = { jobs := [], nextId := if s.allocate = 255 then 1 else s.allocate + 1 }
      ∧ u.lib =
          { s.lib with
            slots :=
              s.lib.slots.set spec.template
                { s.lib.slots[spec.template] with
                  refs := s.lib.slots[spec.template].refs + 1
                  toggle :=
                    if flips then bit else s.lib.slots[spec.template].toggle } }
      ∧ u.keys = s.keys
      ∧ u.link =
          (if spec.report = .both then
              s.link.post
                (.jobStart s.allocate .host spec.template spec.cls (if flips then some bit else none))
            else s.link).afterRequest
            ⟨0x20#8, tag, template :: mode :: count :: mask :: cls :: report :: payload⟩
            (.jobId s.allocate)
      ∧ u.SameBeyondEmission s

/-- 04 R74, R75, 06 R114: the bookkeeping of a job that leaves the live set: its template's reference count is
lowered, the live job id of its key is cleared when it is the job's, and JOB_END is posted when its
report asks for it. 04 R68, R69, R66, R67: RELEASE and CANCEL of a job id: the refusals in order; a WAITING
job that is cancelled, and a PARKED job that has reached its minimum, leave at once with that
bookkeeping; any other job takes the reason as its end pending. -/
def Obligations.ReleaseAndCancel : Prop :=
  (∀ (s : State) (j : Job) (reason : EndReason),
      s.jobLeaves j reason =
        { s with
          lib :=
            { s.lib with
              slots :=
                s.lib.slots.set j.spec.template
                  { s.lib.slots[j.spec.template] with
                    refs := s.lib.slots[j.spec.template].refs - 1 } }
          keys :=
            Vector.ofFn fun k : Fin 8 =>
              { s.keys[k] with
                live :=
                  if j.source = .key k ∧ s.keys[k].live = some j.id then none else s.keys[k].live }
          link :=
            if j.spec.report = .never then s.link
            else s.link.post (.jobEnd j.id j.source j.spec.template reason j.framesSent) })
    ∧ (∀ (s : State) (dt : Nat) (tag id : Byte) (cancels : Bool), s.Ready →
          let kind := if cancels then 0x22#8 else 0x21#8
          s.Misses dt ⟨kind, tag, [id]⟩ →
          let c : Instr := if cancels then .cancel dt tag id else .release dt tag id
          let reason : PendingEnd := if cancels then .cancelled else .released
          let answer := s.answered dt ⟨kind, tag, [id]⟩
          ((∀ j ∈ s.liveJobs, j.id ≠ id.toNat) → exec c s = .next (answer (.status .noJob)))
          ∧ ∀ j : Job, s.findJob id.toNat = some j →
            if cancels = false ∧ j.spec.length ≠ .hold then
              exec c s = .next (answer (.status .notHold))
            else if j.endPending.isSome then exec c s = .next (answer (.status .ending))
            else if (cancels = true ∧ j.state = .waiting)
                ∨ (j.state = .parked ∧ s.minimum j ≤ j.framesSent) then
              let gone := s.jobLeaves j reason.reason
              exec c s =
                .next
                  { answer (.outcome .ended) with
                    queue := { s.queue with jobs := s.queue.jobs.filter fun k => decide (k.id ≠ j.id) }
                    lib := gone.lib
                    keys := gone.keys
                    link := gone.link.afterRequest ⟨kind, tag, [id]⟩ (.outcome .ended) }
            else
              let mark := fun k : Job =>
                if k.id = j.id then { k with endPending := some reason } else k
              exec c s =
                .next
                  { answer (.outcome .pending) with
                    queue := { s.queue with jobs := s.queue.jobs.map mark }
                    engine := { s.engine with current := s.engine.current.map mark } })

/-- 04 R72: FLUSH removes every entry, head first, each with the bookkeeping of a job end and reason
FLUSHED; the current job and the id counter stay. -/
def Obligations.FlushEmptiesTheQueue : Prop :=
  ∀ (s : State) (dt : Nat) (tag : Byte), s.Ready → s.Misses dt ⟨0x23#8, tag, []⟩ →
    let notices :=
      s.queue.jobs.filterMap fun j =>
        if j.spec.report = .never then none
        else some (Notice.jobEnd j.id j.source j.spec.template .flushed j.framesSent)
    ∃ u, exec (.flush dt tag) s = .next u
      ∧ u.now = s.now + dt
      ∧ u.queue = { jobs := [], nextId := s.queue.nextId } ∧ u.engine = s.engine
      ∧ (∀ t : Fin 16,
          u.lib.slots[t] =
            { s.lib.slots[t] with
              refs :=
                s.lib.slots[t].refs
                  - s.queue.jobs.countP fun j => decide (j.spec.template = t) })
      ∧ u.lib.draft = s.lib.draft
      ∧ (∀ k : Fin 8,
          u.keys[k] =
            { s.keys[k] with
              live :=
                if s.queue.jobs.any fun j =>
                    decide (j.source = .key k) && decide (s.keys[k].live = some j.id) then none
                else s.keys[k].live })
      ∧ (s.link.notices.length + notices.length ≤ 12 →
          u.link.notices = s.link.notices ++ notices)
      ∧ u.link.replies =
          s.link.replies.map (fun p => { p with ofEntry := false })
            ++ [{ kind := 0xA3#8, tag := tag, body := .removed s.queue.jobs.length
                  resent := false, ofEntry := true }]
      ∧ u.carrier = s.carrier ∧ u.ind = s.ind ∧ u.rx = s.rx ∧ u.SameBeyondEmission s

/-! ### The Emission Engine -/

/-- 05 R96, R97, 03 R54: STOP in every engine state. -/
def Obligations.StopInEveryState : Prop :=
  ∀ (s : State) (dt : Nat) (tag : Byte), s.Ready → s.Misses dt ⟨0x24#8, tag, []⟩ →
    let r : Request := ⟨0x24#8, tag, []⟩
    let answer := s.answered dt r (.status .ok)
    let released : Indicator := { asserted := false, tail := .stopped }
    (s.engine.state = .stopped → exec (.stop dt tag) s = .next answer)
    ∧ (s.engine.state = .idle ∨ s.engine.state = .spacing → s.engine.current = none →
      exec (.stop dt tag) s =
        .next { answer with engine := { s.engine with state := .stopped }, ind := released })
    ∧ (∀ j, s.engine.state = .spacing → s.engine.current = some j →
      let gone := s.jobLeaves j .cut
      exec (.stop dt tag) s =
        .next
          { answer with
            engine := { s.engine with state := .stopped, current := none }
            ind := released
            lib := gone.lib
            keys := gone.keys
            link := gone.link.afterRequest r (.status .ok) })
    ∧ (∀ j p, s.engine.state = .emitting → s.engine.current = some j →
        s.engine.position = some p →
      let gone := s.jobLeaves j .cut
      exec (.stop dt tag) s =
        .next
          { answer with
            engine :=
              { s.engine with
                state := .stopped, current := none, emitting := false
                position := some { p with stoppedAt := some (s.now + dt) }
                deadline := .running (s.now + dt + 2000) }
            ind := released
            rx := (State.activityOff { s with now := s.now + dt }).rx
            lib := gone.lib
            keys := gone.keys
            link := gone.link.afterRequest r (.status .ok) })

/-- 05 R99: RESUME: refused outside STOPPED; with the deadline ahead the engine goes to SPACING, with it
passed and nothing in the queue to IDLE. -/
def Obligations.ResumeWaitsForTheDeadline : Prop :=
  ∀ (s : State) (dt : Nat) (tag : Byte), s.Ready → s.Misses dt ⟨0x25#8, tag, []⟩ →
    let answer := fun st => s.answered dt ⟨0x25#8, tag, []⟩ (.status st)
    (s.engine.state ≠ .stopped → exec (.resume dt tag) s = .next (answer .notStopped))
    ∧ (s.engine.state = .stopped →
      (∀ due, s.engine.deadline = .running due → s.now + dt < due →
        exec (.resume dt tag) s =
          .next { answer .ok with engine := { s.engine with state := .spacing } })
      ∧ ((∀ due, s.engine.deadline = .running due → due ≤ s.now + dt) → s.queue.jobs = [] →
        exec (.resume dt tag) s =
          .next { answer .ok with engine := { s.engine with state := .idle } }))

/-- 05 R91, R99, R82, R83, 02 R35, R37: the engine takes the head of the queue, at a spacing end without a
current job and at a RESUME after the deadline: a WAITING job begins with its toggle bit, its hold limit
and its JOB_START; a PARKED job goes on with a full frame and all it kept. -/
def Obligations.TheHeadIsTaken : Prop :=
  ∀ (s : State) (dt : Nat) (tag : Byte) (c : Instr) (j : Job) (rest : List Job) (d : Template),
    s.queue.jobs = j :: rest → s.lib.slots[j.spec.template].state = .ready d →
    s.engine.current = none →
    ((c = .resume dt tag ∧ s.Ready ∧ s.Misses dt ⟨0x25#8, tag, []⟩ ∧ s.engine.state = .stopped
        ∧ ∀ due, s.engine.deadline = .running due → due ≤ s.now + dt)
      ∨ (c = .spacingEnd dt ∧ s.Running ∧ s.engine.state = .spacing
        ∧ ∃ due, s.engine.deadline = .running due ∧ due ≤ s.now + dt)) →
    let flips := d.toggle.isSome
    let bit := !s.lib.slots[j.spec.template].toggle
    ∃ u, exec c s = .next u ∧ u.now = s.now + dt
      ∧ u.queue = { s.queue with jobs := rest } ∧ u.keys = s.keys ∧ u.SameBeyondEmission s
      ∧ (j.state = .waiting → j.framesSent = 0 → j.toggleBit = none → j.holdStarted = none →
          j.holdExpiry = none →
        u.FrameStarted { s with now := s.now + dt }
            { j with
              state := .current
              toggleBit := if flips then some bit else none
              holdStarted := if j.spec.length = .hold then some (s.now + dt) else none
              holdExpiry :=
                if j.spec.length = .hold then some (s.now + dt + s.settings.holdLimit * 1000000)
                else none }
            d (d.fullFrame j.spec.payload (flips && bit))
          ∧ u.lib =
              { s.lib with
                slots :=
                  s.lib.slots.set j.spec.template
                    { s.lib.slots[j.spec.template] with
                      toggle := if flips then bit else s.lib.slots[j.spec.template].toggle } }
          ∧ u.link.notices =
              (if j.spec.report = .both ∧ s.link.notices.length < 12 then
                s.link.notices
                  ++ [.jobStart j.id j.source j.spec.template j.spec.cls
                        (if flips then some bit else none)]
               else s.link.notices))
      ∧ (j.state = .parked →
        u.FrameStarted { s with now := s.now + dt } { j with state := .current } d
            (d.fullFrame j.spec.payload (j.toggleBit.getD false))
          ∧ u.lib = s.lib ∧ u.link.notices = s.link.notices)

/-- 02 R34: an interval that is not the last one has elapsed: the position moves to the next; an
INTERVAL_END before that changes nothing (assumption log entry 3, DEDUCED). The position is kept when the
frame ends (entry 28, DESIGN CHOICE). 05 R85 to R87,
02 R39 to R41, 07 R132, 03 R53: the last interval of a frame has elapsed: the frame is counted, the deadline is
that of this frame, the engine is SPACING, the blank tail starts, and the job ends DONE, ends with its
pending reason, or stays. -/
def Obligations.IntervalEnds : Prop :=
  (∀ (s : State) (dt : Nat) (j : Job) (p : Position) (iv : Interval), s.Running →
      s.engine.state = .emitting → s.engine.current = some j → s.engine.position = some p →
      s.engine.buffer[p.index]? = some iv → p.index + 1 < s.engine.buffer.length →
      (p.since + iv.dur ≤ s.now + dt →
        exec (.intervalEnd dt) s =
          .next
            { s with
              now := s.now + dt
              engine :=
                { s.engine with
                  position := some { p with index := p.index + 1, since := s.now + dt } }
              doze := { s.doze with delay := .stopped } })
      ∧ (s.now + dt < p.since + iv.dur →
        exec (.intervalEnd dt) s =
          .next { s with now := s.now + dt, doze := { s.doze with delay := .stopped } }))
    ∧ (∀ (s : State) (dt : Nat) (j : Job) (p : Position) (iv : Interval) (d : Template), s.Running →
          s.engine.state = .emitting → s.engine.current = some j → s.engine.position = some p →
          s.engine.buffer[p.index]? = some iv → p.index + 1 = s.engine.buffer.length →
          p.since + iv.dur ≤ s.now + dt → s.lib.slots[j.spec.template].state = .ready d →
          let j' := { j with framesSent := min (j.framesSent + 1) 255 }
          let minimum := match j.spec.length with | .hold => d.minFrames | .count _ => 1
          let due :=
            match d.spacingMode with
            | .gap => s.now + dt + d.spacing
            | .period => max (p.frameStart + d.spacing) (s.now + dt + 2000)
          let ends : Option EndReason :=
            match j.spec.length with
            | .count n =>
              if n ≤ j'.framesSent then some .done
              else if minimum ≤ j'.framesSent then j.endPending.map PendingEnd.reason else none
            | .hold => if minimum ≤ j'.framesSent then j.endPending.map PendingEnd.reason else none
          ∃ u, exec (.intervalEnd dt) s = .next u ∧ u.now = s.now + dt
            ∧ u.engine =
                { s.engine with
                  state := .spacing
                  current := if ends.isSome then none else some j'
                  position := some { p with stoppedAt := some (s.now + dt) }
                  deadline := .running due
                  emitting := false }
            ∧ u.rx =
                (if s.settings.rxBlankTail = 0 then
                  (match s.rx.state with
                    | .blanked =>
                      { s.rx with
                        blankTail := .stopped
                        state := if s.rx.filtered = .space then .quiet else .discard }
                    | _ => { s.rx with blankTail := .stopped })
                 else
                  { s.rx with
                    blankTail := .running (s.now + dt + s.settings.rxBlankTail * 1000) })
            ∧ u.queue = s.queue ∧ u.carrier = s.carrier ∧ u.SameBeyondEmission s
            ∧ (ends = none → u.lib = s.lib ∧ u.keys = s.keys ∧ u.link = s.link ∧ u.ind = s.ind)
            ∧ (∀ reason, ends = some reason →
                u.lib = (s.jobLeaves j' reason).lib ∧ u.keys = (s.jobLeaves j' reason).keys
                  ∧ u.link = (s.jobLeaves j' reason).link
                  ∧ u.ind =
                      (if s.settings.indTail = 0 then { asserted := false, tail := .stopped }
                       else
                        { s.ind with
                          tail := .running (s.now + dt + s.settings.indTail * 1000) })))

/-- 05 R88, R91, 03 R53: a spacing end at which the current job, with a pending reason and its minimum
reached, ends: with nothing in the queue its tail starts and the engine is IDLE; otherwise the head is taken
in the same event, the tail does not start and IND stays asserted. With neither a current job nor an entry
in the queue the engine goes to IDLE; `TheHeadIsTaken` has the rest. -/
def Obligations.SpacingEndGoesIdle : Prop :=
  ∀ (s : State) (dt due : Nat), s.Running → s.engine.state = .spacing →
    s.engine.deadline = .running due → due ≤ s.now + dt →
    (s.queue.jobs = [] → s.engine.current = none →
      exec (.spacingEnd dt) s =
        .next
          (State.settle
            { s with now := s.now + dt, engine := { s.engine with state := .idle } }))
    ∧ (∀ j reason, s.engine.current = some j → j.endPending = some reason →
        s.minimum j ≤ j.framesSent →
      let gone := s.jobLeaves j reason.reason
      (s.queue.jobs = [] →
        exec (.spacingEnd dt) s =
          .next
            (State.settle
              { s with
                now := s.now + dt
                engine := { s.engine with state := .idle, current := none }
                ind :=
                  if s.settings.indTail = 0 then { asserted := false, tail := .stopped }
                  else
                    { s.ind with tail := .running (s.now + dt + s.settings.indTail * 1000) }
                lib := gone.lib
                keys := gone.keys
                link := gone.link }))
      ∧ (∀ (h : Job) (rest : List Job) (d : Template), s.queue.jobs = h :: rest →
          s.lib.slots[h.spec.template].state = .ready d →
        ∃ u, exec (.spacingEnd dt) s = .next u
          ∧ u.JobTaken { gone with now := s.now + dt } h d
          ∧ u.queue = { s.queue with jobs := rest }))

/-- 05 R89, R90, R82, 04 R58, R59: a spacing end with a current job that does not end: a NORMAL job is parked
for an URGENT head, first among the NORMAL entries, with all it has, and the head is taken from WAITING;
otherwise its next frame starts, a
marker frame on a MARKER template once its first frame has gone. -/
def Obligations.SpacingEndParksOrGoesOn : Prop :=
  ∀ (s : State) (dt due : Nat) (j : Job) (d : Template), s.Running →
    s.engine.state = .spacing → s.engine.deadline = .running due → due ≤ s.now + dt →
    s.engine.current = some j → s.lib.slots[j.spec.template].state = .ready d →
    (j.endPending = none ∨ j.framesSent < s.minimum j) →
    (∀ (h : Job) (rest : List Job) (e : Template), s.queue.jobs = h :: rest → h.spec.cls = .urgent →
        h.state = .waiting → j.spec.cls = .normal → s.lib.slots[h.spec.template].state = .ready e →
        h.framesSent = 0 →
      ∃ u, exec (.spacingEnd dt) s = .next u
        ∧ u.JobTaken { s with now := s.now + dt } h e
        ∧ u.queue =
            { s.queue with
              jobs :=
                rest.takeWhile Job.urgent
                  ++ { j with state := .parked } :: rest.dropWhile Job.urgent })
    ∧ ((j.spec.cls = .urgent ∨ (∀ h ∈ s.queue.jobs.head?, h.spec.cls = .normal)) →
      ∃ u, exec (.spacingEnd dt) s = .next u
        ∧ u.now = s.now + dt ∧ u.SameBeyondEmission s ∧ u.keys = s.keys ∧ u.lib = s.lib
        ∧ u.queue = s.queue ∧ u.link = s.link
        ∧ u.FrameStarted { s with now := s.now + dt } j d
            (if 0 < j.framesSent ∧ s.engine.resumed = false ∧ d.repeatForm = .marker then
              d.markerFrame
             else d.fullFrame j.spec.payload (j.toggleBit.getD false)))

/-- 05 R93, 04 R71, R66, R67, 03 R53: the hold limit of a live job falls due: a PARKED job that has reached its
minimum leaves with JOB_END HOLD_LIMIT, any other job without a pending reason takes HOLD_LIMIT; and the
IND tail expires: IND is released. -/
def Obligations.HoldLimitAndTailExpire : Prop :=
  ∀ (s : State) (dt : Nat), s.Running →
    (∀ (id : Byte) (j : Job) (due : Nat), s.findJob id.toNat = some j → j.holdExpiry = some due →
        due ≤ s.now + dt →
      exec (.holdLimitExpiry dt id) s =
        .next
          (State.settle
            (if j.endPending.isSome then { s with now := s.now + dt }
             else if j.state = .parked ∧ s.minimum j ≤ j.framesSent then
              { s.jobLeaves j .holdLimit with
                now := s.now + dt
                queue :=
                  { s.queue with jobs := s.queue.jobs.filter fun k => decide (k.id ≠ j.id) } }
             else
              let mark := fun k : Job =>
                if k.id = j.id then { k with endPending := some .holdLimit } else k
              { s with
                now := s.now + dt
                queue := { s.queue with jobs := s.queue.jobs.map mark }
                engine := { s.engine with current := s.engine.current.map mark } })))
    ∧ (∀ due, s.ind.tail = .running due → due ≤ s.now + dt →
      exec (.indTailExpiry dt) s =
        .next
          (State.settle
            { s with now := s.now + dt, ind := { asserted := false, tail := .stopped } }))

/-! ### The keys -/

/-- 06 R105 to R108, R119, 10 R191: a change of level on a K line: on a disabled key it is only recorded; on an
enabled key it acts by the tables of R107 and R108, and it wakes a dozing part. A "change" to the level
that the line has is none (the model's choice, assumption log entry 23). -/
def Obligations.KeyEdgeFollowsTheTable : Prop :=
  ∀ (s : State) (dt : Nat) (k : Fin 8) (high : Bool), s.heldInReset = false →
    let due := Timer.running (s.now + dt + s.settings.debounce * 1000)
    let lines :=
      if high then s.kLines ||| BitVec.twoPow 8 k.val else s.kLines &&& ~~~BitVec.twoPow 8 k.val
    let after : KeyState × Timer :=
      match s.keys[k].state, high with
      | .up, false => (.pressing, due)
      | .pressing, true => (.up, .stopped)
      | .down, true => (.releasing, due)
      | .releasing, false => (.down, .stopped)
      | .locked, true => (.locked, due)
      | .locked, false => (.locked, .stopped)
      | state, _ => (state, s.keys[k].expiry)
    if s.kLines.getLsbD k.val = high then
      exec (.keyEdge dt k high) s = .next (State.settle { s with now := s.now + dt })
    else if s.settings.keyEnable.getLsbD k.val = false then
      exec (.keyEdge dt k high) s =
        .next (State.settle { s with now := s.now + dt, kLines := lines })
    else
      exec (.keyEdge dt k high) s =
        .next
          (State.settle
            { s with
              now := s.now + dt
              kLines := lines
              keys := s.keys.set k { s.keys[k] with state := after.1, expiry := after.2 }
              doze :=
                match s.doze.state with
                | .dozing => { s.doze with state := .waking false }
                | .awake | .waking _ => s.doze })

/-- 06 R107 to R109, R113, R115, 04 R70, R81: a debounce expiry. A LOCKED key goes to UP. A release posts
KEY_EVENT UP and then releases the key's HOLD job. A press posts KEY_EVENT DOWN and then submits the
binding: KEY_REFUSED with STILL_LIVE or the status of admission, or a job of the key, which an IDLE
engine takes at once. -/
def Obligations.DebounceTakesPressAndRelease : Prop :=
  ∀ (s : State) (dt due : Nat) (k : Fin 8), s.Running → s.keys[k].expiry = .running due →
    due ≤ s.now + dt →
    let reported := fun down =>
      if s.settings.keyReport then s.link.post (.keyEvent k down) else s.link
    let moved := fun state : KeyState => { s.keys[k] with state := state, expiry := .stopped }
    let released :=
      { s with now := s.now + dt, keys := s.keys.set k (moved .up), link := reported false }
    let pressed :=
      { s with now := s.now + dt, keys := s.keys.set k (moved .down), link := reported true }
    let becomes := fun u => exec (.debounceExpiry dt k) s = .next (State.settle u)
    (s.keys[k].state = .locked →
      becomes { s with now := s.now + dt, keys := s.keys.set k (moved .up) })
    ∧ (s.keys[k].state = .releasing →
      (s.keys[k].live = none → becomes released)
      ∧ ∀ id, s.keys[k].live = some id →
        (s.findJob id = none → becomes released)
        ∧ ∀ j, s.findJob id = some j →
          if j.source ≠ .key k ∨ j.spec.length ≠ .hold ∨ j.endPending.isSome then becomes released
          else if j.state = .parked ∧ s.minimum j ≤ j.framesSent then
            becomes
              { released.jobLeaves j .released with
                queue := { s.queue with jobs := s.queue.jobs.filter fun i => decide (i.id ≠ j.id) } }
          else
            let mark := fun i : Job =>
              if i.id = j.id then { i with endPending := some .released } else i
            becomes
              { released with
                queue := { s.queue with jobs := s.queue.jobs.map mark }
                engine := { s.engine with current := s.engine.current.map mark } })
    ∧ (s.keys[k].state = .pressing →
      (s.keys[k].binding = none → becomes pressed)
      ∧ ∀ spec, s.keys[k].binding = some spec →
        (∀ id, s.keys[k].live = some id →
          becomes { pressed with link := pressed.link.post (.keyRefused k .stillLive (some id)) })
        ∧ (s.keys[k].live = none →
          (∀ st, s.admissionRefusal spec = some st →
            becomes { pressed with link := pressed.link.post (.keyRefused k st none) })
          ∧ (s.admissionRefusal spec = none →
            let lib : Library :=
              { s.lib with
                slots :=
                  s.lib.slots.set spec.template
                    { s.lib.slots[spec.template] with
                      refs := s.lib.slots[spec.template].refs + 1 } }
            let keys := s.keys.set k { moved .down with live := some s.allocate }
            let job : Job :=
              { id := s.allocate, source := .key k, spec := spec, state := .waiting
                framesSent := 0, endPending := none, holdStarted := none, toggleBit := none
                holdExpiry := none }
            let next := if s.allocate = 255 then 1 else s.allocate + 1
            (s.engine.state ≠ .idle →
              becomes
                { pressed with
                  lib := lib, keys := keys
                  queue :=
                    { jobs :=
                        match spec.cls with
                        | .urgent =>
                          s.queue.jobs.takeWhile Job.urgent
                            ++ job :: s.queue.jobs.dropWhile Job.urgent
                        | .normal => s.queue.jobs ++ [job]
                      nextId := next } })
            ∧ (∀ d, s.engine.state = .idle → s.engine.current = none → s.queue.jobs = [] →
                s.lib.slots[spec.template].state = .ready d → d.toggle = none →
              ∃ u, exec (.debounceExpiry dt k) s = .next u
                ∧ u.FrameStarted pressed
                    { job with
                      state := .current
                      holdStarted := if spec.length = .hold then some (s.now + dt) else none
                      holdExpiry :=
                        if spec.length = .hold then
                          some (s.now + dt + s.settings.holdLimit * 1000000)
                        else none }
                    d (d.fullFrame spec.payload false)
                ∧ u.queue = { jobs := [], nextId := next } ∧ u.lib = lib ∧ u.keys = keys
                ∧ u.link =
                    (if spec.report = .both then
                      pressed.link.post
                        (.jobStart s.allocate (.key k) spec.template spec.cls none)
                     else pressed.link)
                ∧ u.SameBeyondEmission s))))

/-- 06 R111, R112: BIND and UNBIND: the refusals in order; the claims on the old and the new template; the
key's state and its live job id stay. -/
def Obligations.BindAndUnbind : Prop :=
  ∀ (s : State) (dt : Nat) (tag key : Byte), s.Ready →
    let slots := fun (old new : Option JobSpec) =>
      Vector.ofFn fun n : Fin 16 =>
        { s.lib.slots[n] with
          refs :=
            s.lib.slots[n].refs - (if old.any fun b => decide (b.template = n) then 1 else 0)
              + (if new.any fun b => decide (b.template = n) then 1 else 0) }
    (∀ (template mode count mask cls report : Byte) (payload : List Byte),
      let r : Request :=
        ⟨0x28#8, tag,
          key :: template :: mode :: count :: mask :: cls :: report :: payload⟩
      s.Misses dt r → 1 ≤ payload.length → payload.length ≤ 8 →
      let c : Instr := .bind dt tag key template mode count mask cls report payload
      let refused := fun st => exec c s = .next (s.answered dt r (.status st))
      (8 ≤ key.toNat ∨ jobSpecOf template mode count mask cls report payload = none →
        refused .badValue)
      ∧ ∀ (k : Fin 8) (spec : JobSpec), key.toNat = k.val →
        jobSpecOf template mode count mask cls report payload = some spec →
        if s.isWriting then refused .saving
        else
          match s.lib.slots[spec.template].state with
          | .empty | .draft | .revising _ => refused .noTemplate
          | .ready d =>
            if payloadFits d payload = false then refused .badPayload
            else if d.repeatForm = .none ∧ spec.length ≠ .count 1 then refused .badRepeat
            else if spec.mask = 0#3 ∨ (∃ e : Fin 3, names spec.mask e = true
                ∧ (s.settings.line e).enabled = false) then refused .badEmitter
            else
              exec c s =
                .next
                  { s.answered dt r (.replaced s.keys[k].binding.isSome) with
                    keys := s.keys.set k { s.keys[k] with binding := some spec }
                    lib := { s.lib with slots := slots s.keys[k].binding (some spec) } })
    ∧ (s.Misses dt ⟨0x29#8, tag, [key]⟩ →
      let answer := s.answered dt ⟨0x29#8, tag, [key]⟩
      (8 ≤ key.toNat →
        exec (.unbind dt tag key) s = .next (answer (.status .badValue)))
      ∧ ∀ k : Fin 8, key.toNat = k.val →
        exec (.unbind dt tag key) s =
          .next
            (if s.isWriting then answer (.status .saving)
             else
              { answer (.replaced s.keys[k].binding.isSome) with
                keys := s.keys.set k { s.keys[k] with binding := none }
                lib := { s.lib with slots := slots s.keys[k].binding none } }))

/-! ### The receiver -/

/-- 07 R121, R122, R124, R126 to R128, R130: a change of RXIN, and a filtered edge: a candidate that has held for
RX_GLITCH, dated at the change, or a change with RX_GLITCH 0. The edge acts on the receiver state; in
IN_BURST it stores the interval that it ends. Two changes within one µs with RX_GLITCH 0 store an interval
of 0 µs (the model's choice, assumption log entry 31, against the 1 µs of R125). -/
def Obligations.ReceiverTakesEdges : Prop :=
  ∀ (s : State) (dt : Nat) (high : Bool), s.Running →
    let now := s.now + dt
    let level := if high = s.settings.rxHighActive then IKind.mark else .space
    (s.rx.lineHigh ≠ high → (∀ c ∈ s.rx.candidate, now < c.due) →
      (level = s.rx.filtered →
        exec (.rxinChange dt high) s =
          .next (State.settle
            { s with now := now, rx := { s.rx with lineHigh := high, candidate := none } }))
      ∧ (level ≠ s.rx.filtered → s.settings.rxGlitch ≠ 0 →
        exec (.rxinChange dt high) s =
          .next (State.settle
            { s with
              now := now
              rx :=
                { s.rx with
                  lineHigh := high
                  candidate := some { since := now, due := now + s.settings.rxGlitch } } })))
    ∧ (∀ c, s.rx.lineHigh ≠ high → s.rx.candidate = some c → c.due ≤ now →
        State.run [.glitchConfirm dt, .rxinChange 0 high] s = exec (.rxinChange dt high) s)
    ∧ (∀ (c : Instr) (edge : Nat),
      ((c = .glitchConfirm dt ∧ high = s.rx.lineHigh
          ∧ ∃ due, due ≤ now ∧ s.rx.candidate = some { since := edge, due := due })
        ∨ (c = .rxinChange dt high ∧ s.rx.lineHigh ≠ high ∧ s.rx.candidate = none
          ∧ s.settings.rxGlitch = 0 ∧ edge = now ∧ level ≠ s.rx.filtered)) →
      let kind := s.rx.filtered.other
      let rx := { s.rx with lineHigh := high, filtered := kind, candidate := none }
      let ends := Timer.running (edge + s.settings.rxBurstEnd * 1000 + 1)
      let limit := Timer.running (edge + 65001)
      let becomes := fun r => exec c s = .next (State.settle { s with now := now, rx := r })
      let posts := fun n r =>
        exec c s = .next (State.settle { s with now := now, rx := r, link := s.link.post n })
      match s.rx.state, kind with
      | .off, _ | .blanked, _ => becomes rx
      | .quiet, .mark =>
        let begun := { rx with state := .inBurst, lastEdge := edge, markLimit := limit }
        if s.rx.slotA = .free then becomes { begun with slotA := .filling edge [] }
        else if s.rx.slotB = .free then becomes { begun with slotB := .filling edge [] }
        else posts (.rxDropped .busy 0) { rx with state := .discard, lastEdge := edge }
      | .quiet, .space =>
        becomes { rx with state := .discard, lastEdge := edge, burstEnd := ends }
      | .discard, .mark => becomes { rx with lastEdge := edge, burstEnd := .stopped }
      | .discard, .space => becomes { rx with lastEdge := edge, burstEnd := ends }
      | .inBurst, _ =>
        ∀ (n m : SlotName) (start : Nat) (ivs : List Interval), n ≠ m →
          s.rx.slot n = .filling start ivs → (s.rx.slot m).isFilling = false →
          let grown := ivs ++ [{ kind := s.rx.filtered, dur := edge - s.rx.lastEdge }]
          let stored := { rx.setSlot n (.filling start grown) with lastEdge := edge }
          match kind with
          | .space => becomes { stored with markLimit := .stopped, burstEnd := ends }
          | .mark =>
            if grown.length = 192 then
              posts (.rxDropped .overflow 192)
                { stored.setSlot n .free with
                  state := .discard, burstEnd := .stopped, markLimit := .stopped }
            else becomes { stored with burstEnd := .stopped, markLimit := limit })

/-- 07 R127, R129, R130, R133, 08 R140, R141, R142: the timers of the receiver fall due. The burst-end timer
completes the burst of a FILLING slot, which an idle Matcher takes: an ARMED Learn Buffer gets it,
otherwise matching begins with the listening templates; in DISCARD it opens the receiver. The mark limit
drops the burst. The blank tail opens a BLANKED receiver. That a due burst-end timer or mark limit acts
while the glitch filter holds a candidate is the model's choice (assumption log entry 10). -/
def Obligations.ReceiverTimersExpire : Prop :=
  ∀ (s : State) (dt due : Nat), s.Running → due ≤ s.now + dt →
    let now := s.now + dt
    (∀ (n m : SlotName) (start : Nat) (ivs : List Interval), n ≠ m →
      s.rx.slot n = .filling start ivs → s.rx.state = .inBurst →
      (s.rx.burstEnd = .running due →
        let done := (s.rx.setSlot n (.full start s.rx.lastEdge s.rx.nextOrder ivs))
        let rx :=
          { done with state := .quiet, burstEnd := .stopped, nextOrder := s.rx.nextOrder + 1 }
        (∀ w, s.matcher = some w → (s.rx.slot m).isFilling = false →
          exec (.burstEndTimer dt) s = .next (State.settle { s with now := now, rx := rx }))
        ∧ (s.matcher = none → s.rx.slot m = .free → s.learn.isArmed = true →
          exec (.burstEndTimer dt) s =
            .next (State.settle
              { s with
                now := now, rx := rx.setSlot n .free, learn := .filled ivs
                link := s.link.post (.learnDone ivs.length (total ivs)) }))
        ∧ (s.matcher = none → s.rx.slot m = .free → s.learn.isArmed = false →
          exec (.burstEndTimer dt) s =
            .next (State.settle
              { s with
                now := now, rx := rx
                matcher := some { slot := n, untried := s.lib.listening, result := none } })))
      ∧ (s.rx.markLimit = .running due → (s.rx.slot m).isFilling = false →
        exec (.markLimit dt) s =
          .next (State.settle
            { s with
              now := now
              rx :=
                { s.rx.setSlot n .free with
                  state := .discard, burstEnd := .stopped, markLimit := .stopped }
              link := s.link.post (.rxDropped .stuck ivs.length) })))
    ∧ (s.rx.state = .discard → s.rx.burstEnd = .running due →
      exec (.burstEndTimer dt) s =
        .next (State.settle
          { s with now := now, rx := { s.rx with state := .quiet, burstEnd := .stopped } }))
    ∧ (s.rx.blankTail = .running due →
      exec (.blankTailExpiry dt) s =
        .next (State.settle
          { s with
            now := now
            rx :=
              { s.rx with
                blankTail := .stopped
                state :=
                  match s.rx.state, s.rx.filtered with
                  | .blanked, .space => .quiet
                  | .blanked, .mark => .discard
                  | other, _ => other } }))

/-- 08 R142, R148: the trials of a candidate: a full-frame match wins; otherwise the marker trial counts on a
MARKER template on which the tracker is HELD: as many intervals as the rendered marker, each of its kind and
within the tolerance of its duration. R140, R142, R149 to R154: the matching end: the result is the one found so far, or the first candidate
that matches among those not yet tried; it begins, repeats or changes the session, or the burst is
unmatched; the slot becomes FREE, and a FULL slot that waits is taken: R141: an ARMED Learn Buffer gets its
burst, with LEARN_DONE behind what the matching end posts, and the slot is FREE; otherwise matching
begins with the listening templates. -/
def Obligations.MatchingEndDelivers : Prop :=
  (∀ (s : State) (burst : List Interval) (t : Fin 16) (d : Template),
      s.lib.slots[t].state = .ready d →
      let marks :=
        List.Forall₂
          (fun got e =>
            got.kind = e.kind
              ∧ (got.dur - e.dur + (e.dur - got.dur)) * 100 ≤ e.dur * d.tolerance)
          burst d.markerFrame
      let counts :=
        d.repeatForm = .marker ∧ (∃ code, s.tracker = .held code ∧ code.template = t) ∧ marks
      (∀ payload, fullFrameTrial d burst = some payload →
        tryCandidate s burst t = some (.fullFrame t payload))
      ∧ (fullFrameTrial d burst = none →
        (counts → tryCandidate s burst t = some (.marker t))
        ∧ (¬ counts → tryCandidate s burst t = none)))
  ∧ ∀ (s : State) (dt : Nat) (m : Matching) (n : SlotName), s.Running → s.matcher = some m →
    n ≠ m.slot →
    let burst := (s.rx.slot m.slot).intervals
    let deadline := (s.rx.slot m.slot).endTime + s.settings.rxWindow * 1000
    let winner :=
      match m.result with
      | some r => some r
      | none => m.untried.findSome? (tryCandidate s burst)
    let becomes := fun tracker link =>
      exec (.matchingEnd dt) s =
        .next (State.settle
          (if (s.rx.slot n).isFull = true ∧ s.learn.isArmed = true then
            { s with
              now := s.now + dt
              rx := (s.rx.setSlot m.slot .free).setSlot n .free
              matcher := none
              tracker := tracker
              learn := .filled (s.rx.slot n).intervals
              link :=
                Link.post
                  (.learnDone (s.rx.slot n).intervals.length (total (s.rx.slot n).intervals)) link }
           else
            { s with
              now := s.now + dt
              rx := s.rx.setSlot m.slot .free
              matcher :=
                if (s.rx.slot n).isFull then
                  some { slot := n, untried := s.lib.listening, result := none }
                else none
              tracker := tracker
              link := link }))
    let unmatched :=
      becomes s.tracker
        (if s.settings.rxReportUnknown then s.link.post (.rxUnknown burst.length (total burst))
         else s.link)
    let repeated := fun (code : Tracked) kind =>
      let count := min (code.repeats + 1) 65535
      becomes (.held { code with repeats := count, deadline := deadline })
        (if s.settings.rxReportRepeats then s.link.post (.rxRepeat code.template count kind)
         else s.link)
    let begun := fun (t : Fin 16) payload (l : Link) =>
      let toggle := (s.lib.slots[t].state.usable.bind Template.toggle).map (payloadBit payload)
      becomes
        (.held
          { template := t, payload := payload, toggle := toggle, repeats := 0
            deadline := deadline })
        (l.post (.rxCode t toggle payload))
    match winner, s.tracker with
    | none, _ => unmatched
    | some (.marker _), .quiet => unmatched
    | some (.marker t), .held code =>
      if code.template = t then repeated code .markerFrame else unmatched
    | some (.fullFrame t payload), .quiet => begun t payload s.link
    | some (.fullFrame t payload), .held code =>
      if code.template = t ∧ code.payload = payload then repeated code .fullFrame
      else
        begun t payload
          (s.link.post (.rxEnd code.template .changed code.repeats code.payload))

/-- 08 R152, R143, R157: the window deadline of a HELD tracker falls due: RX_END TIMEOUT ends the session;
and the learn timer of an ARMED Learn Buffer: LEARN_EXPIRED. R157 to R159: LEARN_ARM, LEARN_CANCEL and
LEARN_READ, their refusals in order and what they do. -/
def Obligations.TrackerAndLearnBuffer : Prop :=
  ∀ (s : State) (dt : Nat) (tag b : Byte), s.Running →
    (∀ code, s.tracker = .held code → code.deadline ≤ s.now + dt →
      let link := s.link.post (.rxEnd code.template .timeout code.repeats code.payload)
      (s.matcher = none →
        exec (.rxWindowExpiry dt) s =
          .next (State.settle { s with now := s.now + dt, tracker := .quiet, link := link }))
      ∧ (∀ m, s.matcher = some m →
        ∃ m', exec (.rxWindowExpiry dt) s =
            .next (State.settle
              { s with
                now := s.now + dt, tracker := .quiet, link := link, matcher := some m'
                freeUses := s.freeUses + 1 })
          ∧ m'.slot = m.slot ∧ (∀ t ∈ m'.untried, t ∈ m.untried)
          ∧ (∀ r, m.result = some r → m' = m)))
    ∧ (∀ expiry, s.learn = .armed expiry → expiry ≤ s.now + dt →
      exec (.learnTimerExpiry dt) s =
        .next (State.settle
          { s with now := s.now + dt, learn := .idle, link := s.link.post .learnExpired }))
    ∧ (s.Ready → s.Misses dt ⟨0x30#8, tag, [b]⟩ →
      exec (.learnArm dt tag b) s =
        .next
          (if b.toNat < 1 ∨ 30 < b.toNat then
            s.answered dt ⟨0x30#8, tag, [b]⟩ (.status .badValue)
           else if s.learn.isArmed then
            s.answered dt ⟨0x30#8, tag, [b]⟩ (.status .learnBusy)
           else
            { s.answered dt ⟨0x30#8, tag, [b]⟩ (.status .ok) with
              learn := .armed (s.now + dt + b.toNat * 1000000) }))
    ∧ (s.Ready → s.Misses dt ⟨0x31#8, tag, []⟩ →
      exec (.learnCancel dt tag) s =
        .next
          { s.answered dt ⟨0x31#8, tag, []⟩
              (.learnWas (match s.learn with | .idle => 0#8 | .armed _ => 1#8 | .filled _ => 2#8)) with
            learn := .idle })
    ∧ (s.Ready → s.Misses dt ⟨0x32#8, tag, [b]⟩ →
      exec (.learnRead dt tag b) s =
        .next
          (s.answered dt ⟨0x32#8, tag, [b]⟩
            (if 190 < b.toNat then .status .badValue
             else
              match s.learn with
              | .idle | .armed _ => .status .notFilled
              | .filled ivs =>
                if b.toNat < ivs.length then
                  .learnData ivs.length b.toNat ((ivs.drop b.toNat).take 24)
                else .status .badValue)))

/-! ### The link -/

/-- 09 R174, R167: PING: 0 to 16 data bytes come back behind the part code 0x0318 with status OK; a longer
payload is refused with BAD_LENGTH. It is answered whatever state the blocks are in, and nothing but the
link changes. -/
def Obligations.PingIsAnsweredInEveryState : Prop :=
  ∀ (s : State) (dt : Nat) (tag : Byte) (data : List Byte), s.Ready →
    s.Misses dt ⟨0x01#8, tag, data⟩ →
    (data.length ≤ 16 →
      exec (.ping dt tag data) s = .next (s.answered dt ⟨0x01#8, tag, data⟩ (.pong data))
        ∧ (s.answered dt ⟨0x01#8, tag, data⟩ (.pong data)).link.replies.getLast?.map Reply.payload
            = some (0x00#8 :: 0x18#8 :: 0x03#8 :: data))
    ∧ (16 < data.length → data.length ≤ 60 →
      exec (.ping dt tag data) s =
        .next (s.answered dt ⟨0x01#8, tag, data⟩ (.status .badLength)))

/-- 09 R167 steps 2 and 3: a request of a kind that is not in use is answered UNKNOWN_KIND, one whose
payload its kind does not allow BAD_LENGTH; it reaches no block. -/
def Obligations.BadRequestsReachNoBlock : Prop :=
  ∀ (s : State) (dt : Nat) (tag : Byte) (payload : List Byte), s.Ready → payload.length ≤ 60 →
    (∀ kind : Byte, kind.toNat < 64 → kind ∉ kindsInUse → s.Misses dt ⟨kind, tag, payload⟩ →
      exec (.unknownKindRequest dt kind tag payload) s =
        .next (s.answered dt ⟨kind, tag, payload⟩ (.status .unknownKind)))
    ∧ (∀ k : RequestKind, k ≠ .restart → k.lengthOk payload = false →
        s.Misses dt ⟨k.code, tag, payload⟩ →
      exec (.linkFrameReceived dt k.code tag payload (frameCheck k.code tag payload)) s =
        .next (s.answered dt ⟨k.code, tag, payload⟩ (.status .badLength)))

/-- 09 R176, 03 R51, 06 R105, 07 R132 to R135, 10 R186: SET: its refusals in order, and what a changed value does
to its block at once; GET; and a setting that has been put reads back, the others as before. -/
def Obligations.SetActsAtOnce : Prop :=
  (∀ (s : State) (dt : Nat) (tag id : Byte) (v : BitVec 32), s.Ready →
    s.Misses dt ⟨0x03#8, tag, id :: u32 v.toNat⟩ →
    let c : Instr := .set dt tag id v
    let answer := fun st => s.answered dt ⟨0x03#8, tag, id :: u32 v.toNat⟩ (.status st)
    match SettingId.ofByte id with
    | none => exec c s = .next (answer .badValue)
    | some i =>
      if i.inRange v.toNat = false then exec c s = .next (answer .badValue)
      else if s.isWriting then exec c s = .next (answer .saving)
      else if s.settings.get i = v.toNat then exec c s = .next (answer .ok)
      else if ∃ e : Fin 3, i = [SettingId.lineE0, .lineE1, .lineE2][e]
          ∧ ∃ j ∈ s.liveJobs, names j.spec.mask e = true then
        exec c s = .next (answer .lineInUse)
      else
        let now := s.settings.put i v.toNat
        let ok := { answer .ok with settings := now }
        let blanks := now.rxBlank && (s.engine.emitting || s.rx.blankTail.isRunning)
        let opens : RxState := if s.rx.filtered = .space then .quiet else .discard
        let left : Receiver :=
          { s.rx with
            burstEnd := .stopped, markLimit := .stopped, slotA := s.rx.slotA.abandoned
            slotB := s.rx.slotB.abandoned }
        let read : IKind := if s.rx.lineHigh = now.rxHighActive then .mark else .space
        match i with
        | .keyEnable =>
          exec c s =
            .next
              { ok with
                keys :=
                  Vector.ofFn fun k : Fin 8 =>
                    if s.settings.keyEnable.getLsbD k.val = now.keyEnable.getLsbD k.val then s.keys[k]
                    else
                      { s.keys[k] with
                        expiry := .stopped
                        state :=
                          if now.keyEnable.getLsbD k.val = true ∧ s.kLines.getLsbD k.val = false
                          then .locked else .up } }
        | .rxEnable =>
          exec c s =
            .next
              (if now.rxEnable then
                { ok with
                  rx :=
                    { s.rx with
                      filtered := read, candidate := none
                      state := if blanks then .blanked else .quiet } }
               else
                { ok with
                  matcher := none
                  rx :=
                    { s.rx with
                      state := .off, burstEnd := .stopped, markLimit := .stopped, slotA := .free
                      slotB := .free } })
        | .rxPolarity =>
          exec c s =
            .next
              { ok with
                rx :=
                  if s.rx.state = .off ∨ s.rx.state = .blanked then
                    { s.rx with filtered := read, candidate := none }
                  else
                    { left with
                      filtered := read, candidate := none, state := .discard
                      lastEdge := s.now + dt
                      burstEnd :=
                        if read = .space then
                          .running (s.now + dt + s.settings.rxBurstEnd * 1000 + 1)
                        else .stopped } }
        | .rxBlank =>
          exec c s =
            .next
              { ok with
                rx :=
                  if now.rxBlank then
                    (if blanks = true ∧ s.rx.state ≠ .off then { left with state := .blanked }
                     else s.rx)
                  else if s.rx.state = .blanked then { s.rx with state := opens } else s.rx }
        | .supplyThreshold =>
          let low :=
            if s.supply.vdd < v.toNat * 100 then true
            else if v.toNat * 100 + 100 < s.supply.vdd then false
            else s.supply.low
          exec c s =
            .next
              (if low = s.supply.low then ok
               else
                { ok with
                  supply := { s.supply with low := low }
                  link :=
                    (s.link.post (.supply low v.toNat)).afterRequest
                      ⟨0x03#8, tag, id :: u32 v.toNat⟩ (.status .ok) })
        | _ => exec c s = .next ok)
  ∧ (∀ (s : State) (dt : Nat) (tag id : Byte), s.Ready → s.Misses dt ⟨0x04#8, tag, [id]⟩ →
    exec (.get dt tag id) s =
      .next
        (s.answered dt ⟨0x04#8, tag, [id]⟩
          (match SettingId.ofByte id with
            | none => .status .badValue
            | some i => .setting id (BitVec.ofNat 32 (s.settings.get i)))))
  ∧ (∀ (c : Settings) (i j : SettingId) (v : Nat), i.inRange v = true →
    (c.put i v).get j = if j = i then v else c.get j)

/-- 10 R185, 01 R21, 04 R76, 06 R117, 07 R137, 11 section 11.5: the five status requests are answered in every
state and change nothing but the link; their replies have the lengths of section 11.3 and carry, byte by
byte, the state that the request finds. A draft whose expiry is overdue (assumption log entry 3) shows 1
second. -/
def Obligations.StatusRequestsChangeNothing : Prop :=
  ∀ (s : State) (dt : Nat) (tag : Byte), s.Ready →
    let at' : State := { s with now := s.now + dt }
    let yes := fun b : Bool => if b then 1#8 else 0#8
    let summary := fun j : Job =>
      [ BitVec.ofNat 8 j.id,
        BitVec.ofNat 8
          ((match j.source with | .host => 0 | .key k => k.val + 1)
            + (match j.spec.cls with | .normal => 0 | .urgent => 16) + 32 * j.spec.mask.toNat),
        BitVec.ofNat 8
          (j.spec.template.val
            + (match j.state with | .waiting => 0 | .parked => 16 | .current => 32)
            + (match j.endPending with
              | none => 0
              | some .released => 64
              | some .cancelled => 128
              | some .holdLimit => 192)),
        BitVec.ofNat 8 (match j.spec.length with | .hold => 0 | .count n => n),
        BitVec.ofNat 8 j.framesSent ]
    let slot := fun n : SlotName =>
      [ (match s.rx.slot n with | .free => 0#8 | .filling .. => 1#8 | .full .. => 2#8),
        BitVec.ofNat 8 (s.rx.slot n).intervals.length,
        yes (s.matcher.any fun m => decide (m.slot = n)) ]
    let bank := fun b : Bank =>
      match b with
      | .valid gen _ => 1#8 :: u32 gen
      | .invalid => List.replicate 5 0#8
    let name := fun n : BankName => match n with | .a => 0#8 | .b => 1#8
    let left := fun done : Nat =>
      [ BitVec.ofNat 8 ((done - at'.now + 999) / 1000),
        BitVec.ofNat 8 ((done - at'.now + 999) / 1000 / 256) ]
    (s.Misses dt ⟨0x0A#8, tag, []⟩ →
      exec (.storeStatus dt tag) s =
        .next (s.answered dt ⟨0x0A#8, tag, []⟩ (.snapshot at'.storeStatus)))
    ∧ (s.Misses dt ⟨0x16#8, tag, []⟩ →
      exec (.tplStatus dt tag) s =
        .next (s.answered dt ⟨0x16#8, tag, []⟩ (.snapshot at'.tplStatus)))
    ∧ (s.Misses dt ⟨0x26#8, tag, []⟩ →
      exec (.queueStatus dt tag) s =
        .next (s.answered dt ⟨0x26#8, tag, []⟩ (.snapshot s.queueStatus)))
    ∧ (s.Misses dt ⟨0x2A#8, tag, []⟩ →
      exec (.keyStatus dt tag) s =
        .next (s.answered dt ⟨0x2A#8, tag, []⟩ (.snapshot s.keyStatus)))
    ∧ (s.Misses dt ⟨0x33#8, tag, []⟩ →
      exec (.rxStatus dt tag) s =
        .next (s.answered dt ⟨0x33#8, tag, []⟩ (.snapshot s.rxStatus)))
    ∧ at'.storeStatus.length + 1 = 19 ∧ at'.tplStatus.length + 1 = 55
    ∧ s.queueStatus.length + 1 = 10 + 5 * s.queue.jobs.length ∧ s.keyStatus.length + 1 = 33
    ∧ s.rxStatus.length + 1 = 16
    ∧ (∀ t : Fin 16,
        (at'.tplStatus.drop (3 * t.val)).take 3 =
          [ (match s.lib.slots[t].state with
              | .empty => 0#8
              | .draft => 1#8
              | .revising _ => 2#8
              | .ready _ => 3#8),
            BitVec.ofNat 8 s.lib.slots[t].refs, if s.lib.slots[t].toggle then 1#8 else 0#8 ])
    ∧ (s.lib.draft = none → at'.tplStatus.drop 48 = [0#8, 0xFF#8, 0xFF#8, 0#8, 0#8, 0#8])
    ∧ (∀ (d : Draft) (due : Nat), s.lib.draft = some d → d.expiry = .running due →
      ∃ put : BitVec 16,
        at'.tplStatus.drop 48 =
            [ 1#8, BitVec.ofNat 8 d.slot.val, (match d.mode with | .new => 0#8 | .revise => 1#8),
              put.setWidth 8, (put >>> 8).setWidth 8,
              BitVec.ofNat 8 (max 1 ((due - at'.now + 999999) / 1000000)) ]
          ∧ ∀ i < 16,
            put.getLsbD i = true ↔
              ∃ p ∈ ([.carrier, .lead, .symbol 0, .symbol 1, .symbol 2, .symbol 3, .format, .trailer,
                .repetition, .spacing, .receive] : List Part)[i]?, p ∈ d.put)
    ∧ (∀ k : Fin 8,
        (s.keyStatus.drop (4 * k.val)).take 4 =
          [ BitVec.ofNat 8
              ((if s.settings.keyEnable.getLsbD k.val then 1 else 0)
                + (if s.kLines.getLsbD k.val then 2 else 0)
                + (if s.keys[k].binding.isSome then 4 else 0)),
            (match s.keys[k].state with
              | .up => 0#8
              | .pressing => 1#8
              | .down => 2#8
              | .releasing => 3#8
              | .locked => 4#8),
            (match s.keys[k].binding with
              | none => 0xFF#8
              | some spec => BitVec.ofNat 8 spec.template.val),
            BitVec.ofNat 8 (s.keys[k].live.getD 0) ])
    ∧ s.queueStatus =
        [ (match s.engine.state with
            | .idle => 0#8
            | .emitting => 1#8
            | .spacing => 2#8
            | .stopped => 3#8),
          BitVec.ofNat 8 s.queue.nextId, yes s.engine.current.isSome,
          BitVec.ofNat 8 s.queue.jobs.length ]
        ++ (match s.engine.current with
            | some j => summary j
            | none => List.replicate 5 0#8)
        ++ s.queue.jobs.flatMap summary
    ∧ s.rxStatus =
        [ (match s.rx.state with
            | .off => 0#8
            | .quiet => 1#8
            | .inBurst => 2#8
            | .blanked => 3#8
            | .discard => 4#8),
          (match s.rx.filtered with | .mark => 0#8 | .space => 1#8),
          yes s.rx.blankTail.isRunning ]
        ++ slot .a ++ slot .b
        ++ (match s.tracker with
            | .quiet => [0#8, 0xFF#8, 0#8, 0#8]
            | .held code =>
              [1#8, BitVec.ofNat 8 code.template.val, BitVec.ofNat 8 code.repeats,
                BitVec.ofNat 8 (code.repeats / 256)])
        ++ (match s.learn with
            | .idle => [0#8, 0#8]
            | .armed _ => [1#8, 0#8]
            | .filled ivs => [2#8, BitVec.ofNat 8 ivs.length])
    ∧ at'.storeStatus =
        (match s.store.op with | .idle => 0#8 | .writing .. => 1#8 | .wiping .. => 2#8)
        :: bank s.store.bankA ++ bank s.store.bankB
        ++ (match s.store.op with
            | .idle => 0xFF#8 :: List.replicate 6 0#8
            | .writing target gen done _ => name target :: u32 gen ++ left done
            | .wiping target done second =>
              name target :: List.replicate 4 0#8
                ++ left (if second then done else done + 30000))

/-- 09 R166, R165, R167: a whole link frame is judged: a wrong check byte, a kind that is no request and a full
intake queue lose it with LINK_FAULT; otherwise it enters the intake queue, where it waits while the
handler may not take it. A frame that characters have partly delivered is dropped without TRUNCATED (the
model's choice, assumption log entry 32). -/
def Obligations.FramesAreJudgedInOrder : Prop :=
  ∀ (s : State) (dt : Nat) (kind tag : Byte) (payload : List Byte) (check : Byte), s.Running →
    payload.length ≤ 60 →
    let hunting := fun l : Link => { l with receiver := HuntState.hunt, interByte := .stopped }
    let becomes := fun l : Link =>
      exec (.linkFrameReceived dt kind tag payload check) s =
        .next
          { s with
            now := s.now + dt, link := hunting l, doze := { s.doze with delay := .stopped } }
    if check ≠ crc (BitVec.ofNat 8 payload.length :: kind :: tag :: payload) then
      becomes (s.link.post (.linkFault .badCheck))
    else if 0x40 ≤ kind.toNat then becomes (s.link.post (.linkFault (.badKind kind tag)))
    else if 3 ≤ s.link.intake.length then
      becomes (s.link.post (.linkFault (.intakeFull kind tag)))
    else if s.link.handler = .restarting ∨ 2 ≤ s.link.replies.length then
      becomes { s.link with intake := s.link.intake ++ [⟨kind, tag, payload⟩] }
    else
      s.link.intake = [] → s.Misses dt ⟨kind, tag, payload⟩ →
        ∃ u body, exec (.linkFrameReceived dt kind tag payload check) s = .next u
          ∧ u.link.replies.getLast? =
              some
                { kind := kind + 0x80#8, tag := tag, body := body, resent := false
                  ofEntry := decide (kind ≠ 0x02#8) }
          ∧ u.link.intake = []

/-- 09 R161, R164, R165, 10 R191, with assumption log entries 3, 24 and 27 (when a timer falls due, when a
character is taken and which one is lost, and what the inter-byte timer measures): a character acts on the
frame receiver by the table of R164, with the inter-byte timer set anew; with its stop bit low, or begun
before the part listened, it is as though it had not arrived; when the inter-byte timer fell due before it
began, it is taken in HUNT. R165: the timer abandons a lone start byte silently, any more with LINK_FAULT
TRUNCATED. -/
def Obligations.CharactersDriveTheReceiver : Prop :=
  ∀ (s : State) (dt ago : Nat) (b : Byte), s.Running →
    let becomes := fun (l : Link) =>
      .next (State.settle { s with now := s.now + dt, link := l })
    let waits := fun h =>
      becomes { s.link with receiver := h, interByte := .running (s.now + dt + 10001) }
    let hunts := { s.link with receiver := HuntState.hunt, interByte := .stopped }
    let taken := exec (.characterReceived dt b ago true) s
    exec (.characterReceived dt b ago false) s = becomes s.link
    ∧ (s.now + dt < s.link.listenFrom + ago → taken = becomes s.link)
    ∧ (s.link.listenFrom + ago ≤ s.now + dt →
      (∀ due, s.link.interByte = .running due → due ≤ s.now + dt - ago →
        taken = State.run [.interByteTimeout dt, .characterReceived 0 b ago true] s)
      ∧ ((∀ due, s.link.interByte = .running due → s.now + dt - ago < due) →
        match s.link.receiver with
        | .hunt => taken = (if b = 0xB5#8 then waits .length else becomes s.link)
        | .length => taken = (if b.toNat ≤ 60 then waits (.kind b.toNat) else becomes hunts)
        | .kind len => taken = waits (.tag len b)
        | .tag len kind =>
          taken = waits (if len = 0 then .check kind b [] else .payload len kind b [])
        | .payload len kind tag got =>
          taken =
            waits
              (if got.length + 1 < len then .payload len kind tag (got ++ [b])
               else .check kind tag (got ++ [b]))
        | .check kind tag payload =>
          payload.length ≤ 60 → taken = exec (.linkFrameReceived dt kind tag payload b) s))
    ∧ (∀ due, s.link.interByte = .running due → due ≤ s.now + dt →
      exec (.interByteTimeout dt) s =
        (let truncated := fun bytes =>
          becomes (Link.post (.linkFault (.truncated bytes)) hunts)
         match s.link.receiver with
         | .hunt => becomes s.link
         | .length => becomes hunts
         | .kind _ => truncated 2
         | .tag .. => truncated 3
         | .payload _ _ _ got => truncated (4 + got.length)
         | .check _ _ payload => truncated (4 + payload.length)))

/-- 09 R162 to R166: the characters of a frame that follow one another with gaps of at most 10 ms, taken in
HUNT one by one, do what the frame does that they make. That a frame can come whole or by its characters is
the model's choice (assumption log entry 4); when a character is taken, and the inter-byte timer, are
entries 24 and 27. -/
def Obligations.CharactersMakeAFrame : Prop :=
  ∀ (s : State) (kind tag check : Byte) (payload : List Byte) (times : List (Nat × Nat)),
    s.Running → s.link.receiver = .hunt → s.link.listenFrom ≤ s.now → payload.length ≤ 60 →
    times.length = payload.length + 5 →
    (∀ p ∈ times, p.2 ≤ p.1 ∧ p.1 - p.2 ≤ 10000) →
    State.run
        (List.zipWith (fun (p : Nat × Nat) b => Instr.characterReceived p.1 b p.2 true) times
          (0xB5#8 :: BitVec.ofNat 8 payload.length :: kind :: tag :: payload ++ [check]))
        s =
      exec (.linkFrameReceived (times.map Prod.fst).sum kind tag payload check) s

/-- 09 R168, 11 R194: the reply cache: a request that equals the entry's while its window is open is not
carried out; a copy of the cached reply, RESENT, is sent, and no closing moment is set while it waits.
Its status byte has bit 7 set, the rest is the cached reply's. The closing moment removes the entry. The
frame receiver hunts, whatever of another frame it had (assumption log entry 32, DESIGN CHOICE). -/
def Obligations.ReplyCacheAnswersAgain : Prop :=
  ∀ (s : State) (dt : Nat) (e : CacheEntry), s.Running → s.link.cache = some e →
    (∀ r : Request, s.link.intake = [] → s.link.handler = .idle → s.link.replies.length < 2 →
        r = e.request → r.kind.toNat < 64 → r.payload.length ≤ 60 →
        (∀ due, e.closing = .running due → s.now + dt ≤ due) →
      let copy : Reply :=
        { kind := r.kind + 0x80#8, tag := r.tag, body := e.reply, resent := true, ofEntry := true }
      exec (.linkFrameReceived dt r.kind r.tag r.payload (frameCheck r.kind r.tag r.payload)) s =
          .next
            { s with
              now := s.now + dt
              link :=
                { s.link with
                  receiver := .hunt
                  interByte := .stopped
                  replies := s.link.replies ++ [copy]
                  cache := some { e with closing := .stopped }
                  sending :=
                    match s.link.sending with
                    | none => some .reply
                    | some x => some x }
              doze := { s.doze with delay := .stopped } }
        ∧ copy.payload.head? =
            (Reply.payload { copy with resent := false }).head?.map (· ||| 0x80#8)
        ∧ copy.payload.tail = (Reply.payload { copy with resent := false }).tail
        ∧ ∀ b ∈ (Reply.payload { copy with resent := false }).head?, b.getLsbD 7 = false)
    ∧ (∀ due, e.closing = .running due → due ≤ s.now + dt →
      exec (.replyCacheWindowClose dt) s =
        .next
          (State.settle
            { s with now := s.now + dt, link := { s.link with cache := none } }))

/-- 09 R168, R170 to R173: a posted notice joins the queue, or is dropped and sets the lost marker; an idle
serializer starts it with its tag and LOST flag; ATTN is asserted while a notice is in the queue. A
frame on TXD ends: it leaves its place, a reply of the cached request sets the closing moment 2 s later,
a notice raises the sequence number, and the oldest reply, otherwise the front notice, is sent next; the
requests that wait in the intake queue are then taken as though they came in at this moment, one after
the other: each one while the handler may take it, the rest wait on. -/
def Obligations.FramesLeaveInOrder : Prop :=
  (∀ (l : Link) (n : Notice),
    l.post n =
      if 12 ≤ l.notices.length then { l with lost := true }
      else if l.sending = none ∧ l.replies = [] ∧ l.notices = [] then
        { l with notices := [n], sending := some (.notice l.seq l.lost), lost := false }
      else if l.sending = none then
        (match l.replies with
          | _ :: _ => { l with notices := l.notices ++ [n], sending := some .reply }
          | [] =>
            { l with
              notices := l.notices ++ [n], sending := some (.notice l.seq l.lost), lost := false })
      else { l with notices := l.notices ++ [n] })
  ∧ (∀ s : State, s.heldInReset = false → (s.attnAsserted = true ↔ s.link.notices ≠ []))
  ∧ (∀ (s : State) (dt : Nat) (strap : Bool), s.Running →
    let next := fun l : Link =>
      match l.replies, l.notices with
      | _ :: _, _ => { l with sending := some .reply }
      | [], _ :: _ => { l with sending := some (.notice l.seq l.lost), lost := false }
      | [], [] => { l with sending := none }
    let ends := exec (.outboundFrameEnd ⟨dt, strap⟩) s
    let becomes := fun l : Link =>
      s.link.intake = [] → ends = .next (State.settle { s with now := s.now + dt, link := l })
    let takesWaiting :=
      s.link.intake.length ≤ 3 → s.link.receiver = .hunt → s.link.interByte = .stopped →
        (∀ q ∈ s.link.intake, q.kind.toNat < 64 ∧ q.payload.length ≤ 60) →
      ends =
        State.run
          (.outboundFrameEnd ⟨dt, strap⟩
            :: s.link.intake.map fun q =>
              .linkFrameReceived 0 q.kind q.tag q.payload (frameCheck q.kind q.tag q.payload))
          { s with link := { s.link with intake := [] } }
    (∀ (r : Reply) (rest : List Reply), s.link.sending = some .reply →
        s.link.replies = r :: rest → r.body ≠ .restarting →
      let cache :=
        if r.ofEntry = true ∧ (∀ p ∈ rest, p.ofEntry = false) then
          s.link.cache.map fun e => { e with closing := .running (s.now + dt + 2000000) }
        else s.link.cache
      becomes (next { s.link with replies := rest, cache := cache }) ∧ takesWaiting)
    ∧ (∀ (tag : Byte) (lost : Bool) (n : Notice) (rest : List Notice),
        s.link.sending = some (.notice tag lost) → s.link.notices = n :: rest →
      becomes (next { s.link with notices := rest, seq := s.link.seq + 1#8 }) ∧ takesWaiting))

/-- 09 R162, R163, 11 section 11.1: the CRC of the worked example, step by step; every frame that the part
sends has its length and its check byte right; and a frame with one byte changed has another check
byte. R161, R177: on TXD each byte is a start bit low, its 8 bits with the least significant first and a
stop bit high; behind the frame, while nothing is sent and held in reset the line stands high. -/
def Obligations.CheckByteFindsAChangedByte : Prop :=
  crc [] = 0xFF#8 ∧ crc [0x00#8] = 0xF3#8 ∧ crc [0x00#8, 0x01#8] = 0xD0#8
    ∧ crc [0x00#8, 0x01#8, 0x10#8] = 0x4E#8
    ∧ frameBytes 0x01#8 0x10#8 [] = [0xB5#8, 0x00#8, 0x01#8, 0x10#8, 0x4E#8]
    ∧ (∀ (l : Link) (bytes : List Byte), l.frame = some bytes →
        ∃ kind tag payload,
          bytes =
            0xB5#8 :: BitVec.ofNat 8 payload.length :: kind :: tag :: payload
              ++ [crc (BitVec.ofNat 8 payload.length :: kind :: tag :: payload)])
    ∧ (∀ (before after : List Byte) (a b : Byte), a ≠ b →
        crc (before ++ a :: after) ≠ crc (before ++ b :: after))
    ∧ ∀ s : State,
        (s.heldInReset = true ∨ s.link.sending = none → ∀ bit, s.txdHigh bit = true)
        ∧ ∀ bytes, s.heldInReset = false → s.link.frame = some bytes →
            (∀ (i : Nat) (b : Byte), bytes[i]? = some b →
              s.txdHigh (10 * i) = false ∧ s.txdHigh (10 * i + 9) = true
                ∧ ∀ n < 8, s.txdHigh (10 * i + 1 + n) = b.getLsbD n)
            ∧ ∀ bit, 10 * bytes.length ≤ bit → s.txdHigh bit = true

/-! ### The Image Store and the supply -/

/-- 10 R178, R180, R181, R184: SAVE and WIPE: the refusals in order; the target of a save is INVALID while the
image of the working state is written with one generation above the highest; the completion makes it
VALID; a wipe erases the bank that does not hold the highest generation, then the other one. The banks
are as `StepKeepsTheImages` says they are in every state that a run reaches. -/
def Obligations.SaveAndWipe : Prop :=
  ∀ (s : State) (dt : Nat) (tag : Byte), s.BanksSound →
    let highest := max s.store.bankA.generation s.store.bankB.generation
    let target : BankName := if s.store.bankB.generation < s.store.bankA.generation then .b else .a
    let image : Image :=
      { slots :=
          Vector.ofFn fun t : Fin 16 =>
            match s.lib.slots[t].state with
            | .ready d | .revising d => some d
            | .empty | .draft => none
        bindings := Vector.ofFn fun k : Fin 8 => s.keys[k].binding
        settings := s.settings }
    let lasts :=
      40000 + 6000 * (List.finRange 16).countP (fun t => image.slots[t].isSome)
        + 3000 * (List.finRange 8).countP fun k => s.keys[k].binding.isSome
    let without := fun (bank : BankName) (op : StoreOp) =>
      match bank with
      | .a => { s.store with bankA := .invalid, op := op }
      | .b => { s.store with bankB := .invalid, op := op }
    (s.Ready → s.Misses dt ⟨0x08#8, tag, []⟩ →
      let answer := s.answered dt ⟨0x08#8, tag, []⟩
      exec (.save dt tag) s =
        .next
          (if s.supply.low then answer (.status .lowSupply)
           else if s.store.op ≠ .idle then answer (.status .saving)
           else if 4294967295 ≤ highest then answer (.status .badValue)
           else
            { answer (.saveAccepted target (highest + 1)) with
              store := without target (.writing target (highest + 1) (s.now + dt + lasts) image) }))
    ∧ (∀ bank gen done img, s.Running → s.store.op = .writing bank gen done img → done ≤ s.now + dt →
      exec (.saveWriteComplete dt) s =
        .next (State.settle
          { s with
            now := s.now + dt
            store :=
              (match bank with
                | .a => { s.store with bankA := .valid gen img, op := .idle }
                | .b => { s.store with bankB := .valid gen img, op := .idle })
            link := s.link.post (.saveDone (.ok bank gen)) }))
    ∧ (s.Ready → s.Misses dt ⟨0x09#8, tag, []⟩ →
      (s.store.op ≠ .idle →
        exec (.wipe dt tag) s = .next (s.answered dt ⟨0x09#8, tag, []⟩ (.status .saving)))
      ∧ (s.store.op = .idle →
        exec (.wipe dt tag) s =
          .next
            { s.answered dt ⟨0x09#8, tag, []⟩ (.status .accepted) with
              store := without target (.wiping target (s.now + dt + 30000) false) }))
    ∧ (∀ bank done second, s.Running → s.store.op = .wiping bank done second → done ≤ s.now + dt →
      let other : BankName := match bank with | .a => .b | .b => .a
      exec (.wipeEraseEnd dt) s =
        .next (State.settle
          (if second then
            { s with
              now := s.now + dt, store := { s.store with op := .idle }
              link := s.link.post (.saveDone .wiped) }
           else
            { s with
              now := s.now + dt
              store := without other (.wiping other (s.now + dt + 30000) true) })))

/-- 10 R183, R186, R190, 09 R161: VDD moves. Below 1.8 V the part is held in reset, and coming back it takes
a power-on reset, with the BAUD strap as it is then found (assumption log entries 17 and 18). Awake, the
supply state changes below the threshold and above the threshold plus 0.1 V, with a SUPPLY notice, and the
change to LOW abandons a save with SAVE_DONE FAILED_SUPPLY behind it. In DOZE nothing is compared. -/
def Obligations.SupplyIsWatched : Prop :=
  ∀ (s : State) (dt vdd : Nat) (strap : Bool),
    let threshold := s.settings.supplyThreshold
    let moved := { s with now := s.now + dt, supply := { s.supply with vdd := vdd } }
    let turned := fun low =>
      { moved with
        supply := { vdd := vdd, low := low }, link := s.link.post (.supply low threshold) }
    let becomes := fun u => exec (.supplyChange dt ⟨vdd, strap⟩) s = .next (State.settle u)
    (s.heldInReset = true →
      exec (.supplyChange dt ⟨vdd, strap⟩) s = exec (.powerOnReset dt vdd strap) s)
    ∧ (s.heldInReset = false → vdd < 1800 → becomes moved ∧ moved.heldInReset = true)
    ∧ (s.heldInReset = false → 1800 ≤ vdd →
      (s.doze.state ≠ .awake → becomes moved)
      ∧ (s.doze.state = .awake →
        if s.supply.low = true then
          becomes (if threshold * 100 + 100 < vdd then turned false else moved)
        else if vdd < threshold * 100 then
          match s.store.op with
          | .writing target _ _ _ =>
            becomes
              { turned true with
                store := { s.store with op := .idle }
                link := (turned true).link.post (.saveDone (.failedSupply target)) }
          | .idle | .wiping .. => becomes (turned true)
        else becomes moved))

/-- 10 R178 to R181: what a SAVE has written a pin reset brings back: settings, bindings and definitions are
those that stood when the SAVE was taken (a REVISING slot as READY with its retained definition), and
START reports the bank and the generation that the SAVE's reply named: the bank that did not hold the
highest generation, or A, and one above the highest. -/
def Obligations.SavedImageComesBack : Prop :=
  ∀ (s : State) (dt wait later : Nat) (tag : Byte) (strap : Bool), s.Ready → s.BanksSound →
    s.Misses dt ⟨0x08#8, tag, []⟩ → s.supply.low = false → s.store.op = .idle →
    s.store.bankA.generation < 4294967295 → s.store.bankB.generation < 4294967295 →
    160000 ≤ wait →
    let bank : BankName := if s.store.bankB.generation < s.store.bankA.generation then .b else .a
    let generation := max s.store.bankA.generation s.store.bankB.generation + 1
    (∃ u, exec (.save dt tag) s = .next u
      ∧ u.link.replies.getLast?.map Reply.body = some (.saveAccepted bank generation))
    ∧ ∃ t, State.run [.save dt tag, .saveWriteComplete wait, .pinReset later (some strap)] s = .next t
      ∧ t.settings = s.settings
      ∧ (∀ k : Fin 8, t.keys[k].binding = s.keys[k].binding)
      ∧ (∀ n : Fin 16,
          t.lib.slots[n].state =
            (match s.lib.slots[n].state with
              | .ready d | .revising d => .ready d
              | .empty | .draft => .empty))
      ∧ t.link.notices.head? = some (.start .pin (.loaded bank generation))

/-! ### DOZE -/

/-- 10 R189, judged once at the end of each command, which is the model's reading (assumption log entry 26,
DEDUCED): the doze delay timer follows DOZE and the part's quiet: after every command of a running part
that leaves it awake, the timer runs exactly when DOZE is on and the part is quiet, with the expiry it
had, or DOZE_DELAY from now when it starts. -/
def Obligations.DozeDelayFollowsQuiet : Prop :=
  ∀ (c : Instr) (s t : State), WellFormed c = true → s.Running → exec c s = .next t → t.Running →
    t.doze.delay =
      if t.settings.doze = true ∧ t.isQuiet = true then
        (match s.doze.delay with
          | .stopped => .running (t.now + t.settings.dozeDelay * 1000)
          | delay => delay)
      else .stopped

/-- 10 R190, R191, 03 R54, 06 R119, 07 R137, 09 R168, R177: the doze delay timer expires and the part enters
DOZE: the running timers are paused with what they have left, and IND is released. RXD and RXIN wake it
into the wake latency. At its end the timers go on, the frame receiver listens from the next µs on (which
loses the waking character after a latency of 0 µs as well, assumption log entry 24, DESIGN CHOICE), the
filtered condition is read from the line, a receiver that RXIN has woken waits in DISCARD, and the Supply
Watch compares, to LOW and to OK. -/
def Obligations.DozeEntryAndWake : Prop :=
  ∀ (s : State) (dt : Nat),
    let now := s.now + dt
    let pause : Timer → Timer := fun t =>
      match t with | .running due => .paused (due - now) | other => other
    let resume : Timer → Timer := fun t =>
      match t with | .paused left => .running (now + left) | other => other
    let timers : (Timer → Timer) → State := fun f =>
      { s with
        now := now
        lib := { s.lib with draft := s.lib.draft.map fun d => { d with expiry := f d.expiry } }
        engine := { s.engine with deadline := f s.engine.deadline }
        link :=
          { s.link with cache := s.link.cache.map fun e => { e with closing := f e.closing } }
        keys := Vector.ofFn fun k : Fin 8 => { s.keys[k] with expiry := f s.keys[k].expiry } }
    let read : IKind := if s.rx.lineHigh = s.settings.rxHighActive then .mark else .space
    (∀ due, s.Running → s.doze.delay = .running due → due ≤ now → s.settings.doze = true →
        s.isQuiet = true →
      exec (.dozeDelayExpiry dt) s =
        .next
          { timers pause with
            ind := { asserted := false, tail := .stopped }
            rx := { s.rx with candidate := none }
            doze := { state := .dozing, delay := .stopped } })
    ∧ (s.heldInReset = false → s.doze.state = .dozing →
      exec (.rxdWakeEdge dt) s =
          .next { s with now := now, doze := { s.doze with state := .waking false } }
        ∧ ∀ high, s.rx.lineHigh ≠ high →
          exec (.rxinChange dt high) s =
            .next
              { s with
                now := now
                rx := { s.rx with lineHigh := high }
                doze :=
                  if high = s.settings.rxHighActive ∧ s.settings.rxWake = true
                      ∧ s.rx.state = .quiet then
                    { s.doze with state := .waking true }
                  else s.doze })
    ∧ (∀ byRxin, s.heldInReset = false → s.doze.state = .waking byRxin →
        (if s.supply.low = true then s.supply.vdd ≤ s.settings.supplyThreshold * 100 + 100
         else s.settings.supplyThreshold * 100 ≤ s.supply.vdd) →
      exec (.wakeLatencyEnd dt) s =
        .next
          (State.settle
            { timers resume with
              link := { (timers resume).link with listenFrom := now + 1 }
              doze := { state := .awake, delay := .stopped }
              rx :=
                if byRxin then
                  { s.rx with
                    filtered := read, candidate := none, state := .discard, lastEdge := now
                    burstEnd :=
                      if read = .space then .running (now + s.settings.rxBurstEnd * 1000 + 1)
                      else .stopped }
                else { s.rx with filtered := read, candidate := none } }))
    ∧ (∀ byRxin, s.heldInReset = false → s.doze.state = .waking byRxin → s.supply.low = false →
        s.supply.vdd < s.settings.supplyThreshold * 100 → s.store.op = .idle →
      ∃ u, exec (.wakeLatencyEnd dt) s = .next u ∧ u.Running ∧ u.supply.low = true
        ∧ u.link.notices =
            (if s.link.notices.length < 12 then
              s.link.notices ++ [.supply true s.settings.supplyThreshold]
             else s.link.notices))
    ∧ (∀ byRxin, s.heldInReset = false → s.doze.state = .waking byRxin → s.supply.low = true →
        s.settings.supplyThreshold * 100 + 100 < s.supply.vdd →
      ∃ u, exec (.wakeLatencyEnd dt) s = .next u ∧ u.Running ∧ u.supply.low = false
        ∧ u.link.notices =
            (if s.link.notices.length < 12 then
              s.link.notices ++ [.supply false s.settings.supplyThreshold]
             else s.link.notices))

/-! ### The invariants -/

/-- 04 R58, 09 R166, R167, R170: no step lets a queue grow beyond its room. -/
def Obligations.StepKeepsTheRoom : Prop :=
  ∀ s t : State, step s = .next t → s.QueuesFit → t.QueuesFit

/-- 04 R56, R58, R59: no step breaks the order of the emission queue: URGENT before NORMAL, a PARKED job only
at the head of the NORMAL ones, and none while a NORMAL job is current. -/
def Obligations.StepKeepsTheOrder : Prop :=
  ∀ s t : State, step s = .next t → s.QueueOrdered → t.QueueOrdered

/-- 01 R7, 04 R56, R57, R63, R74, 05 R79, R80, 06 R114: every step keeps the books of the jobs: job ids are
distinct, every reference count is the number of live jobs and bindings that name the template, a
template in use is READY, and each key's live job id names that key's live job. -/
def Obligations.StepKeepsTheBooks : Prop :=
  ∀ s t : State, step s = .next t → s.JobsSound → t.JobsSound

/-- 01 R2, 07 R124, R125, R132, R134, 08 R140, R142, R149, 10 R189 to R191: every step keeps the draft bound to
its slot, at most one slot FILLING and that only IN_BURST, BLANKED exactly while blanking holds, the
Matcher and a HELD tracker on READY templates that listen, and a dozing part still. -/
def Obligations.StepKeepsReception : Prop :=
  ∀ s t : State, step s = .next t → s.ReceptionSound → t.ReceptionSound

/-- 10 R178, R180, R181, R184, 09 R176, 01 R14, R16: every step keeps the generations of the banks apart and in
range and a bank that is being changed INVALID; every setting, of the part and of every image, in its
range; and every definition, of the library and of every image, one that has passed the commit. -/
def Obligations.StepKeepsTheImages : Prop :=
  ∀ s t : State, step s = .next t →
    (s.BanksSound → t.BanksSound) ∧ (s.AllInRange → t.AllInRange)
      ∧ (s.AllCommitted → t.AllCommitted)

/-- The state that the model starts from is the state that a power-on reset of a blank part leaves: a
power-on reset at 3.0 V with BAUD low changes nothing in it (assumption log entry 8). Every invariant
holds there. -/
def Obligations.ResetStateIsSound : Prop :=
  exec (.powerOnReset 0 3000 false) State.reset = .next State.reset
    ∧ State.reset.QueuesFit ∧ State.reset.QueueOrdered ∧ State.reset.JobsSound
    ∧ State.reset.ReceptionSound ∧ State.reset.BanksSound ∧ State.reset.AllInRange
    ∧ State.reset.AllCommitted
end

