-- ==== Sys2Proof/Laws/State.lean ====
section
/-! SUPPORT. What the shared operations of Machine/Ops.lean do and what they leave unchanged: one lemma for
each field that an operation changes, and one that lists the fields it does not touch. -/

namespace Sys2Proof.Machine

/-! ### What the operations leave unchanged -/

/-- The hold in reset, spelt without a decision, so that `simp` sees through an update (10 R186, 03 R52). -/
theorem State.heldInReset_eq (s : State) :
    s.heldInReset = (s.resetLow || Nat.blt s.supply.vdd Config.resetVoltage) := by
  unfold State.heldInReset
  congr 1
  exact Bool.eq_iff_iff.2 (by rw [decide_eq_true_iff, Nat.blt_eq])

@[simp] theorem State.advance_frame (dt : Nat) (s : State) :
   (s.advance dt).heldInReset = s.heldInReset ∧ (s.advance dt).resetLow = s.resetLow ∧
    (s.advance dt).settings = s.settings ∧ (s.advance dt).lib = s.lib ∧
    (s.advance dt).queue = s.queue ∧ (s.advance dt).engine = s.engine ∧
    (s.advance dt).carrier = s.carrier ∧ (s.advance dt).ind = s.ind ∧ (s.advance dt).keys = s.keys ∧
    (s.advance dt).kLines = s.kLines ∧ (s.advance dt).rx = s.rx ∧
    (s.advance dt).matcher = s.matcher ∧ (s.advance dt).tracker = s.tracker ∧
    (s.advance dt).learn = s.learn ∧ (s.advance dt).link = s.link ∧ (s.advance dt).store = s.store ∧
    (s.advance dt).supply = s.supply ∧ (s.advance dt).doze = s.doze ∧
    (s.advance dt).freeUses = s.freeUses ∧ (s.advance dt).pending = s.pending := by
  simp [State.heldInReset_eq, State.advance]

@[simp] theorem Link.startNext_frame (l : Link) :
   l.startNext.receiver = l.receiver ∧ l.startNext.interByte = l.interByte ∧
    l.startNext.listenFrom = l.listenFrom ∧ l.startNext.intake = l.intake ∧
    l.startNext.handler = l.handler ∧ l.startNext.replies = l.replies ∧
    l.startNext.cache = l.cache ∧ l.startNext.notices = l.notices ∧ l.startNext.seq = l.seq ∧
    l.startNext.fast = l.fast := by
  unfold Link.startNext; (repeat' split) <;> simp

@[simp] theorem Link.post_frame (n : Notice) (l : Link) :
   (l.post n).receiver = l.receiver ∧ (l.post n).interByte = l.interByte ∧
    (l.post n).listenFrom = l.listenFrom ∧ (l.post n).intake = l.intake ∧
    (l.post n).handler = l.handler ∧ (l.post n).replies = l.replies ∧ (l.post n).cache = l.cache ∧
    (l.post n).seq = l.seq ∧ (l.post n).fast = l.fast := by
  unfold Link.post; split <;> simp

@[simp] theorem State.post_frame (n : Notice) (s : State) :
   (s.post n).now = s.now ∧ (s.post n).heldInReset = s.heldInReset ∧
    (s.post n).resetLow = s.resetLow ∧ (s.post n).settings = s.settings ∧ (s.post n).lib = s.lib ∧
    (s.post n).queue = s.queue ∧ (s.post n).engine = s.engine ∧ (s.post n).carrier = s.carrier ∧
    (s.post n).ind = s.ind ∧ (s.post n).keys = s.keys ∧ (s.post n).kLines = s.kLines ∧
    (s.post n).rx = s.rx ∧ (s.post n).matcher = s.matcher ∧ (s.post n).tracker = s.tracker ∧
    (s.post n).learn = s.learn ∧ (s.post n).link.replies = s.link.replies ∧
    (s.post n).link.intake = s.link.intake ∧ (s.post n).link.handler = s.link.handler ∧
    (s.post n).link.cache = s.link.cache ∧ (s.post n).link.receiver = s.link.receiver ∧
    (s.post n).link.interByte = s.link.interByte ∧ (s.post n).link.listenFrom = s.link.listenFrom ∧
    (s.post n).link.seq = s.link.seq ∧ (s.post n).link.fast = s.link.fast ∧
    (s.post n).store = s.store ∧ (s.post n).supply = s.supply ∧ (s.post n).doze = s.doze ∧
    (s.post n).freeUses = s.freeUses ∧ (s.post n).pending = s.pending := by
  simp [State.heldInReset_eq, State.post]

@[simp] theorem Library.claim_frame (t : Fin 16) (l : Library) :
   (l.claim t).draft = l.draft := by
  simp [Library.claim]

@[simp] theorem Library.unclaim_frame (t : Fin 16) (l : Library) :
   (l.unclaim t).draft = l.draft := by
  simp [Library.unclaim]

@[simp] theorem Link.postJobEnd_frame (j : Job) (reason : EndReason) (l : Link) :
   (l.postJobEnd j reason).receiver = l.receiver ∧ (l.postJobEnd j reason).interByte = l.interByte ∧
    (l.postJobEnd j reason).listenFrom = l.listenFrom ∧ (l.postJobEnd j reason).intake = l.intake ∧
    (l.postJobEnd j reason).handler = l.handler ∧ (l.postJobEnd j reason).replies = l.replies ∧
    (l.postJobEnd j reason).cache = l.cache ∧ (l.postJobEnd j reason).seq = l.seq ∧
    (l.postJobEnd j reason).fast = l.fast := by
  unfold Link.postJobEnd; split <;> simp

@[simp] theorem State.jobLeaves_frame (j : Job) (reason : EndReason) (s : State) :
   (s.jobLeaves j reason).now = s.now ∧ (s.jobLeaves j reason).heldInReset = s.heldInReset ∧
    (s.jobLeaves j reason).resetLow = s.resetLow ∧ (s.jobLeaves j reason).settings = s.settings ∧
    (s.jobLeaves j reason).lib.draft = s.lib.draft ∧ (s.jobLeaves j reason).queue = s.queue ∧
    (s.jobLeaves j reason).engine = s.engine ∧ (s.jobLeaves j reason).carrier = s.carrier ∧
    (s.jobLeaves j reason).ind = s.ind ∧ (s.jobLeaves j reason).kLines = s.kLines ∧
    (s.jobLeaves j reason).rx = s.rx ∧ (s.jobLeaves j reason).matcher = s.matcher ∧
    (s.jobLeaves j reason).tracker = s.tracker ∧ (s.jobLeaves j reason).learn = s.learn ∧
    (s.jobLeaves j reason).link.replies = s.link.replies ∧
    (s.jobLeaves j reason).link.intake = s.link.intake ∧
    (s.jobLeaves j reason).link.handler = s.link.handler ∧
    (s.jobLeaves j reason).link.cache = s.link.cache ∧
    (s.jobLeaves j reason).link.receiver = s.link.receiver ∧
    (s.jobLeaves j reason).link.interByte = s.link.interByte ∧
    (s.jobLeaves j reason).link.listenFrom = s.link.listenFrom ∧
    (s.jobLeaves j reason).link.seq = s.link.seq ∧ (s.jobLeaves j reason).link.fast = s.link.fast ∧
    (s.jobLeaves j reason).store = s.store ∧ (s.jobLeaves j reason).supply = s.supply ∧
    (s.jobLeaves j reason).doze = s.doze ∧ (s.jobLeaves j reason).freeUses = s.freeUses ∧
    (s.jobLeaves j reason).pending = s.pending := by
  simp [State.heldInReset_eq, State.jobLeaves]

/-! ### What the operations change -/

@[simp] theorem State.advance_now (dt : Nat) (s : State) : (s.advance dt).now = s.now + dt := rfl

@[simp] theorem State.advance_zero (s : State) : s.advance 0 = s := rfl

@[simp] theorem State.post_link (n : Notice) (s : State) : (s.post n).link = s.link.post n := rfl

@[simp] theorem Timer.isDue_stopped (now : Nat) : Timer.stopped.isDue now = false := rfl

@[simp] theorem Timer.isDue_paused (left now : Nat) : (Timer.paused left).isDue now = false := rfl

@[simp] theorem Timer.isDue_running (due now : Nat) :
    (Timer.running due).isDue now = true ↔ due ≤ now := by simp [Timer.isDue]

@[simp] theorem Timer.isRunning_running (due : Nat) : (Timer.running due).isRunning = true := rfl

@[simp] theorem Timer.isRunning_stopped : Timer.stopped.isRunning = false := rfl

/-- A timer that is due is running. -/
theorem Timer.running_of_isDue {t : Timer} {now : Nat} (h : t.isDue now = true) :
    ∃ due, t = .running due ∧ due ≤ now := by
  cases t <;> simp_all [Timer.isDue]

/-- A timer that is paused and resumed later has the time left that it had. -/
theorem Timer.resume_pause (due now later : Nat) :
    ((Timer.running due).pause now).resume later = .running (later + (due - now)) := rfl

/-- What a start of the serializer can do: nothing, because a frame is being sent or none waits; start
the oldest reply; or start the front notice with its tag and LOST flag (09 R171, R172). -/
theorem Link.startNext_cases (l : Link) :
    (l.startNext = l ∧ (l.sending ≠ none ∨ (l.replies = [] ∧ l.notices = [])))
      ∨ (l.startNext = { l with sending := some .reply } ∧ l.sending = none ∧ l.replies ≠ [])
      ∨ (l.startNext = { l with sending := some (.notice l.seq l.lost), lost := false }
          ∧ l.sending = none ∧ l.replies = [] ∧ l.notices ≠ []) := by
  unfold Link.startNext
  split
  · simp_all
  · split
    · simp_all
    · split <;> simp_all

/-- What a post can do: the notice joins the back and the serializer starts if it can, or the notice is
dropped and the lost marker set (09 R170). -/
theorem Link.post_cases (n : Notice) (l : Link) :
    (l.notices.length < 12 ∧ l.post n = Link.startNext { l with notices := l.notices ++ [n] })
      ∨ (12 ≤ l.notices.length ∧ l.post n = { l with lost := true }) := by
  unfold Link.post Config.noticeRoom
  split
  · left; simp_all
  · right; simp_all

/-- The notice queue after a post (09 R170). -/
theorem Link.post_notices (n : Notice) (l : Link) :
    (l.post n).notices = if l.notices.length < 12 then l.notices ++ [n] else l.notices := by
  rcases l.post_cases n with ⟨h, e⟩ | ⟨h, e⟩
  · simp [e, h]
  · simp [e, Nat.not_lt.2 h]

/-- A post never leaves the notice queue empty. -/
theorem Link.post_notices_ne (n : Notice) (l : Link) : (l.post n).notices ≠ [] := by
  rw [Link.post_notices]
  split
  · simp
  · rintro h; simp_all

/-- A post keeps the notice queue within its room. -/
theorem Link.post_notices_length (n : Notice) (l : Link) (h : l.notices.length ≤ 12) :
    (l.post n).notices.length ≤ 12 := by
  rw [Link.post_notices]
  split
  · simp; omega
  · exact h

/-- A claim raises one reference count by 1 (01 R7). -/
theorem Library.claim_slot (t u : Fin 16) (l : Library) :
    (l.claim t).slots[u] =
      if u = t then { l.slots[u] with refs := l.slots[u].refs + 1 } else l.slots[u] := by
  unfold Library.claim
  by_cases h : u = t
  · subst h; simp
  · have : t.val ≠ u.val := fun e => h (Fin.ext e.symm)
    simp [h, this]

/-- A claim taken back lowers one reference count by 1 (01 R7). -/
theorem Library.unclaim_slot (t u : Fin 16) (l : Library) :
    (l.unclaim t).slots[u] =
      if u = t then { l.slots[u] with refs := l.slots[u].refs - 1 } else l.slots[u] := by
  unfold Library.unclaim
  by_cases h : u = t
  · subst h; simp
  · have : t.val ≠ u.val := fun e => h (Fin.ext e.symm)
    simp [h, this]

@[simp] theorem Library.claim_state (t u : Fin 16) (l : Library) :
    (l.claim t).slots[u].state = l.slots[u].state := by
  rw [Library.claim_slot]; split <;> rfl

@[simp] theorem Library.unclaim_state (t u : Fin 16) (l : Library) :
    (l.unclaim t).slots[u].state = l.slots[u].state := by
  rw [Library.unclaim_slot]; split <;> rfl

@[simp] theorem State.jobLeaves_link (j : Job) (reason : EndReason) (s : State) :
    (s.jobLeaves j reason).link = s.link.postJobEnd j reason := rfl

@[simp] theorem State.jobLeaves_lib (j : Job) (reason : EndReason) (s : State) :
    (s.jobLeaves j reason).lib = s.lib.unclaim j.spec.template := rfl

@[simp] theorem State.jobLeaves_keys (j : Job) (reason : EndReason) (s : State) :
    (s.jobLeaves j reason).keys = clearLive j s.keys := rfl

/-- The binding of a key is untouched when a live job id is cleared (06 R114). -/
@[simp] theorem clearLive_binding (j : Job) (keys : Vector KeyRec 8) (k : Fin 8) :
    (clearLive j keys)[k].binding = keys[k].binding := by
  unfold clearLive
  split
  · rfl
  · rename_i m _
    split
    · by_cases h : m = k
      · subst h; simp
      · have : m.val ≠ k.val := fun e => h (Fin.ext e)
        simp [this]
    · rfl

end Sys2Proof.Machine
end

