-- ==== Sys2Proof/Laws/Matcher.lean ====
section
/-! SUPPORT. What the Matcher, the Receive Tracker and the Learn Buffer leave unchanged: for each operation one lemma that lists every
field of the state, or of its part, that the operation does not touch. -/

namespace Sys2Proof.Machine

@[simp] theorem Receiver.setSlot_frame (rx : Receiver) (n : SlotName) (b : BurstSlot) :
   (Receiver.setSlot rx n b).lineHigh = rx.lineHigh ∧
    (Receiver.setSlot rx n b).filtered = rx.filtered ∧
    (Receiver.setSlot rx n b).candidate = rx.candidate ∧
    (Receiver.setSlot rx n b).state = rx.state ∧ (Receiver.setSlot rx n b).lastEdge = rx.lastEdge ∧
    (Receiver.setSlot rx n b).burstEnd = rx.burstEnd ∧
    (Receiver.setSlot rx n b).markLimit = rx.markLimit ∧
    (Receiver.setSlot rx n b).blankTail = rx.blankTail ∧
    (Receiver.setSlot rx n b).nextOrder = rx.nextOrder := by
  unfold Receiver.setSlot; split <;> simp

@[simp] theorem State.matcherReached_frame (s : State) :
   s.matcherReached.now = s.now ∧ s.matcherReached.heldInReset = s.heldInReset ∧
    s.matcherReached.resetLow = s.resetLow ∧ s.matcherReached.settings = s.settings ∧
    s.matcherReached.lib = s.lib ∧ s.matcherReached.queue = s.queue ∧
    s.matcherReached.engine = s.engine ∧ s.matcherReached.carrier = s.carrier ∧
    s.matcherReached.ind = s.ind ∧ s.matcherReached.keys = s.keys ∧
    s.matcherReached.kLines = s.kLines ∧ s.matcherReached.rx = s.rx ∧
    s.matcherReached.tracker = s.tracker ∧ s.matcherReached.learn = s.learn ∧
    s.matcherReached.link = s.link ∧ s.matcherReached.store = s.store ∧
    s.matcherReached.supply = s.supply ∧ s.matcherReached.doze = s.doze ∧
    s.matcherReached.pending = s.pending := by
  unfold State.matcherReached; split <;> simp [State.heldInReset_eq]

@[simp] theorem State.divert_frame (n : SlotName) (s : State) :
   (s.divert n).now = s.now ∧ (s.divert n).heldInReset = s.heldInReset ∧
    (s.divert n).resetLow = s.resetLow ∧ (s.divert n).settings = s.settings ∧
    (s.divert n).lib = s.lib ∧ (s.divert n).queue = s.queue ∧ (s.divert n).engine = s.engine ∧
    (s.divert n).carrier = s.carrier ∧ (s.divert n).ind = s.ind ∧ (s.divert n).keys = s.keys ∧
    (s.divert n).kLines = s.kLines ∧ (s.divert n).rx.state = s.rx.state ∧
    (s.divert n).rx.lineHigh = s.rx.lineHigh ∧ (s.divert n).rx.filtered = s.rx.filtered ∧
    (s.divert n).rx.blankTail = s.rx.blankTail ∧ (s.divert n).rx.burstEnd = s.rx.burstEnd ∧
    (s.divert n).rx.markLimit = s.rx.markLimit ∧ (s.divert n).rx.nextOrder = s.rx.nextOrder ∧
    (s.divert n).rx.candidate = s.rx.candidate ∧ (s.divert n).rx.lastEdge = s.rx.lastEdge ∧
    (s.divert n).matcher = s.matcher ∧ (s.divert n).tracker = s.tracker ∧
    (s.divert n).link.replies = s.link.replies ∧ (s.divert n).link.intake = s.link.intake ∧
    (s.divert n).link.handler = s.link.handler ∧ (s.divert n).link.cache = s.link.cache ∧
    (s.divert n).link.receiver = s.link.receiver ∧ (s.divert n).link.interByte = s.link.interByte ∧
    (s.divert n).link.listenFrom = s.link.listenFrom ∧ (s.divert n).link.seq = s.link.seq ∧
    (s.divert n).link.fast = s.link.fast ∧ (s.divert n).store = s.store ∧
    (s.divert n).supply = s.supply ∧ (s.divert n).doze = s.doze ∧
    (s.divert n).freeUses = s.freeUses ∧ (s.divert n).pending = s.pending := by
  simp [State.heldInReset_eq, State.divert]

@[simp] theorem State.matcherTakeOne_frame (s : State) :
   s.matcherTakeOne.now = s.now ∧ s.matcherTakeOne.heldInReset = s.heldInReset ∧
    s.matcherTakeOne.resetLow = s.resetLow ∧ s.matcherTakeOne.settings = s.settings ∧
    s.matcherTakeOne.lib = s.lib ∧ s.matcherTakeOne.queue = s.queue ∧
    s.matcherTakeOne.engine = s.engine ∧ s.matcherTakeOne.carrier = s.carrier ∧
    s.matcherTakeOne.ind = s.ind ∧ s.matcherTakeOne.keys = s.keys ∧
    s.matcherTakeOne.kLines = s.kLines ∧ s.matcherTakeOne.rx.state = s.rx.state ∧
    s.matcherTakeOne.rx.lineHigh = s.rx.lineHigh ∧ s.matcherTakeOne.rx.filtered = s.rx.filtered ∧
    s.matcherTakeOne.rx.blankTail = s.rx.blankTail ∧ s.matcherTakeOne.rx.burstEnd = s.rx.burstEnd ∧
    s.matcherTakeOne.rx.markLimit = s.rx.markLimit ∧
    s.matcherTakeOne.rx.nextOrder = s.rx.nextOrder ∧
    s.matcherTakeOne.rx.candidate = s.rx.candidate ∧ s.matcherTakeOne.rx.lastEdge = s.rx.lastEdge ∧
    s.matcherTakeOne.tracker = s.tracker ∧ s.matcherTakeOne.link.replies = s.link.replies ∧
    s.matcherTakeOne.link.intake = s.link.intake ∧ s.matcherTakeOne.link.handler = s.link.handler ∧
    s.matcherTakeOne.link.cache = s.link.cache ∧ s.matcherTakeOne.link.receiver = s.link.receiver ∧
    s.matcherTakeOne.link.interByte = s.link.interByte ∧
    s.matcherTakeOne.link.listenFrom = s.link.listenFrom ∧ s.matcherTakeOne.link.seq = s.link.seq ∧
    s.matcherTakeOne.link.fast = s.link.fast ∧ s.matcherTakeOne.store = s.store ∧
    s.matcherTakeOne.supply = s.supply ∧ s.matcherTakeOne.doze = s.doze ∧
    s.matcherTakeOne.freeUses = s.freeUses ∧ s.matcherTakeOne.pending = s.pending := by
  unfold State.matcherTakeOne; (repeat' split) <;> simp [State.heldInReset_eq]

@[simp] theorem State.matcherTake_frame (s : State) :
   s.matcherTake.now = s.now ∧ s.matcherTake.heldInReset = s.heldInReset ∧
    s.matcherTake.resetLow = s.resetLow ∧ s.matcherTake.settings = s.settings ∧
    s.matcherTake.lib = s.lib ∧ s.matcherTake.queue = s.queue ∧ s.matcherTake.engine = s.engine ∧
    s.matcherTake.carrier = s.carrier ∧ s.matcherTake.ind = s.ind ∧ s.matcherTake.keys = s.keys ∧
    s.matcherTake.kLines = s.kLines ∧ s.matcherTake.rx.state = s.rx.state ∧
    s.matcherTake.rx.lineHigh = s.rx.lineHigh ∧ s.matcherTake.rx.filtered = s.rx.filtered ∧
    s.matcherTake.rx.blankTail = s.rx.blankTail ∧ s.matcherTake.rx.burstEnd = s.rx.burstEnd ∧
    s.matcherTake.rx.markLimit = s.rx.markLimit ∧ s.matcherTake.rx.nextOrder = s.rx.nextOrder ∧
    s.matcherTake.rx.candidate = s.rx.candidate ∧ s.matcherTake.rx.lastEdge = s.rx.lastEdge ∧
    s.matcherTake.tracker = s.tracker ∧ s.matcherTake.link.replies = s.link.replies ∧
    s.matcherTake.link.intake = s.link.intake ∧ s.matcherTake.link.handler = s.link.handler ∧
    s.matcherTake.link.cache = s.link.cache ∧ s.matcherTake.link.receiver = s.link.receiver ∧
    s.matcherTake.link.interByte = s.link.interByte ∧
    s.matcherTake.link.listenFrom = s.link.listenFrom ∧ s.matcherTake.link.seq = s.link.seq ∧
    s.matcherTake.link.fast = s.link.fast ∧ s.matcherTake.store = s.store ∧
    s.matcherTake.supply = s.supply ∧ s.matcherTake.doze = s.doze ∧
    s.matcherTake.freeUses = s.freeUses ∧ s.matcherTake.pending = s.pending := by
  simp [State.heldInReset_eq, State.matcherTake]

@[simp] theorem State.beginSession_frame (t : Fin 16) (payload : List Byte) (burstEnd : Nat)
    (s : State) :
   (s.beginSession t payload burstEnd).now = s.now ∧
    (s.beginSession t payload burstEnd).heldInReset = s.heldInReset ∧
    (s.beginSession t payload burstEnd).resetLow = s.resetLow ∧
    (s.beginSession t payload burstEnd).settings = s.settings ∧
    (s.beginSession t payload burstEnd).lib = s.lib ∧
    (s.beginSession t payload burstEnd).queue = s.queue ∧
    (s.beginSession t payload burstEnd).engine = s.engine ∧
    (s.beginSession t payload burstEnd).carrier = s.carrier ∧
    (s.beginSession t payload burstEnd).ind = s.ind ∧
    (s.beginSession t payload burstEnd).keys = s.keys ∧
    (s.beginSession t payload burstEnd).kLines = s.kLines ∧
    (s.beginSession t payload burstEnd).rx = s.rx ∧
    (s.beginSession t payload burstEnd).matcher = s.matcher ∧
    (s.beginSession t payload burstEnd).learn = s.learn ∧
    (s.beginSession t payload burstEnd).link.replies = s.link.replies ∧
    (s.beginSession t payload burstEnd).link.intake = s.link.intake ∧
    (s.beginSession t payload burstEnd).link.handler = s.link.handler ∧
    (s.beginSession t payload burstEnd).link.cache = s.link.cache ∧
    (s.beginSession t payload burstEnd).link.receiver = s.link.receiver ∧
    (s.beginSession t payload burstEnd).link.interByte = s.link.interByte ∧
    (s.beginSession t payload burstEnd).link.listenFrom = s.link.listenFrom ∧
    (s.beginSession t payload burstEnd).link.seq = s.link.seq ∧
    (s.beginSession t payload burstEnd).link.fast = s.link.fast ∧
    (s.beginSession t payload burstEnd).store = s.store ∧
    (s.beginSession t payload burstEnd).supply = s.supply ∧
    (s.beginSession t payload burstEnd).doze = s.doze ∧
    (s.beginSession t payload burstEnd).freeUses = s.freeUses ∧
    (s.beginSession t payload burstEnd).pending = s.pending := by
  simp [State.heldInReset_eq, State.beginSession]

@[simp] theorem State.countRepeat_frame (code : Tracked) (kind : FrameKind) (burstEnd : Nat)
    (s : State) :
   (s.countRepeat code kind burstEnd).now = s.now ∧
    (s.countRepeat code kind burstEnd).heldInReset = s.heldInReset ∧
    (s.countRepeat code kind burstEnd).resetLow = s.resetLow ∧
    (s.countRepeat code kind burstEnd).settings = s.settings ∧
    (s.countRepeat code kind burstEnd).lib = s.lib ∧
    (s.countRepeat code kind burstEnd).queue = s.queue ∧
    (s.countRepeat code kind burstEnd).engine = s.engine ∧
    (s.countRepeat code kind burstEnd).carrier = s.carrier ∧
    (s.countRepeat code kind burstEnd).ind = s.ind ∧
    (s.countRepeat code kind burstEnd).keys = s.keys ∧
    (s.countRepeat code kind burstEnd).kLines = s.kLines ∧
    (s.countRepeat code kind burstEnd).rx = s.rx ∧
    (s.countRepeat code kind burstEnd).matcher = s.matcher ∧
    (s.countRepeat code kind burstEnd).learn = s.learn ∧
    (s.countRepeat code kind burstEnd).link.replies = s.link.replies ∧
    (s.countRepeat code kind burstEnd).link.intake = s.link.intake ∧
    (s.countRepeat code kind burstEnd).link.handler = s.link.handler ∧
    (s.countRepeat code kind burstEnd).link.cache = s.link.cache ∧
    (s.countRepeat code kind burstEnd).link.receiver = s.link.receiver ∧
    (s.countRepeat code kind burstEnd).link.interByte = s.link.interByte ∧
    (s.countRepeat code kind burstEnd).link.listenFrom = s.link.listenFrom ∧
    (s.countRepeat code kind burstEnd).link.seq = s.link.seq ∧
    (s.countRepeat code kind burstEnd).link.fast = s.link.fast ∧
    (s.countRepeat code kind burstEnd).store = s.store ∧
    (s.countRepeat code kind burstEnd).supply = s.supply ∧
    (s.countRepeat code kind burstEnd).doze = s.doze ∧
    (s.countRepeat code kind burstEnd).freeUses = s.freeUses ∧
    (s.countRepeat code kind burstEnd).pending = s.pending := by
  unfold State.countRepeat; split <;> simp [State.heldInReset_eq]

@[simp] theorem State.endSession_frame (code : Tracked) (reason : RxEndReason) (s : State) :
   (s.endSession code reason).now = s.now ∧ (s.endSession code reason).heldInReset = s.heldInReset ∧
    (s.endSession code reason).resetLow = s.resetLow ∧
    (s.endSession code reason).settings = s.settings ∧ (s.endSession code reason).lib = s.lib ∧
    (s.endSession code reason).queue = s.queue ∧ (s.endSession code reason).engine = s.engine ∧
    (s.endSession code reason).carrier = s.carrier ∧ (s.endSession code reason).ind = s.ind ∧
    (s.endSession code reason).keys = s.keys ∧ (s.endSession code reason).kLines = s.kLines ∧
    (s.endSession code reason).rx = s.rx ∧ (s.endSession code reason).matcher = s.matcher ∧
    (s.endSession code reason).learn = s.learn ∧
    (s.endSession code reason).link.replies = s.link.replies ∧
    (s.endSession code reason).link.intake = s.link.intake ∧
    (s.endSession code reason).link.handler = s.link.handler ∧
    (s.endSession code reason).link.cache = s.link.cache ∧
    (s.endSession code reason).link.receiver = s.link.receiver ∧
    (s.endSession code reason).link.interByte = s.link.interByte ∧
    (s.endSession code reason).link.listenFrom = s.link.listenFrom ∧
    (s.endSession code reason).link.seq = s.link.seq ∧
    (s.endSession code reason).link.fast = s.link.fast ∧
    (s.endSession code reason).store = s.store ∧ (s.endSession code reason).supply = s.supply ∧
    (s.endSession code reason).doze = s.doze ∧ (s.endSession code reason).freeUses = s.freeUses ∧
    (s.endSession code reason).pending = s.pending := by
  simp [State.heldInReset_eq, State.endSession]

@[simp] theorem State.trackFull_frame (t : Fin 16) (payload : List Byte) (burstEnd : Nat)
    (s : State) :
   (s.trackFull t payload burstEnd).now = s.now ∧
    (s.trackFull t payload burstEnd).heldInReset = s.heldInReset ∧
    (s.trackFull t payload burstEnd).resetLow = s.resetLow ∧
    (s.trackFull t payload burstEnd).settings = s.settings ∧
    (s.trackFull t payload burstEnd).lib = s.lib ∧
    (s.trackFull t payload burstEnd).queue = s.queue ∧
    (s.trackFull t payload burstEnd).engine = s.engine ∧
    (s.trackFull t payload burstEnd).carrier = s.carrier ∧
    (s.trackFull t payload burstEnd).ind = s.ind ∧ (s.trackFull t payload burstEnd).keys = s.keys ∧
    (s.trackFull t payload burstEnd).kLines = s.kLines ∧
    (s.trackFull t payload burstEnd).rx = s.rx ∧
    (s.trackFull t payload burstEnd).matcher = s.matcher ∧
    (s.trackFull t payload burstEnd).learn = s.learn ∧
    (s.trackFull t payload burstEnd).link.replies = s.link.replies ∧
    (s.trackFull t payload burstEnd).link.intake = s.link.intake ∧
    (s.trackFull t payload burstEnd).link.handler = s.link.handler ∧
    (s.trackFull t payload burstEnd).link.cache = s.link.cache ∧
    (s.trackFull t payload burstEnd).link.receiver = s.link.receiver ∧
    (s.trackFull t payload burstEnd).link.interByte = s.link.interByte ∧
    (s.trackFull t payload burstEnd).link.listenFrom = s.link.listenFrom ∧
    (s.trackFull t payload burstEnd).link.seq = s.link.seq ∧
    (s.trackFull t payload burstEnd).link.fast = s.link.fast ∧
    (s.trackFull t payload burstEnd).store = s.store ∧
    (s.trackFull t payload burstEnd).supply = s.supply ∧
    (s.trackFull t payload burstEnd).doze = s.doze ∧
    (s.trackFull t payload burstEnd).freeUses = s.freeUses ∧
    (s.trackFull t payload burstEnd).pending = s.pending := by
  unfold State.trackFull; (repeat' split) <;> simp [State.heldInReset_eq]

@[simp] theorem State.reportUnknown_frame (burst : List Interval) (s : State) :
   (s.reportUnknown burst).now = s.now ∧ (s.reportUnknown burst).heldInReset = s.heldInReset ∧
    (s.reportUnknown burst).resetLow = s.resetLow ∧ (s.reportUnknown burst).settings = s.settings ∧
    (s.reportUnknown burst).lib = s.lib ∧ (s.reportUnknown burst).queue = s.queue ∧
    (s.reportUnknown burst).engine = s.engine ∧ (s.reportUnknown burst).carrier = s.carrier ∧
    (s.reportUnknown burst).ind = s.ind ∧ (s.reportUnknown burst).keys = s.keys ∧
    (s.reportUnknown burst).kLines = s.kLines ∧ (s.reportUnknown burst).rx = s.rx ∧
    (s.reportUnknown burst).matcher = s.matcher ∧ (s.reportUnknown burst).tracker = s.tracker ∧
    (s.reportUnknown burst).learn = s.learn ∧
    (s.reportUnknown burst).link.replies = s.link.replies ∧
    (s.reportUnknown burst).link.intake = s.link.intake ∧
    (s.reportUnknown burst).link.handler = s.link.handler ∧
    (s.reportUnknown burst).link.cache = s.link.cache ∧
    (s.reportUnknown burst).link.receiver = s.link.receiver ∧
    (s.reportUnknown burst).link.interByte = s.link.interByte ∧
    (s.reportUnknown burst).link.listenFrom = s.link.listenFrom ∧
    (s.reportUnknown burst).link.seq = s.link.seq ∧
    (s.reportUnknown burst).link.fast = s.link.fast ∧ (s.reportUnknown burst).store = s.store ∧
    (s.reportUnknown burst).supply = s.supply ∧ (s.reportUnknown burst).doze = s.doze ∧
    (s.reportUnknown burst).freeUses = s.freeUses ∧
    (s.reportUnknown burst).pending = s.pending := by
  unfold State.reportUnknown; split <;> simp [State.heldInReset_eq]

@[simp] theorem State.trackMarker_frame (t : Fin 16) (burst : List Interval) (burstEnd : Nat)
    (s : State) :
   (s.trackMarker t burst burstEnd).now = s.now ∧
    (s.trackMarker t burst burstEnd).heldInReset = s.heldInReset ∧
    (s.trackMarker t burst burstEnd).resetLow = s.resetLow ∧
    (s.trackMarker t burst burstEnd).settings = s.settings ∧
    (s.trackMarker t burst burstEnd).lib = s.lib ∧
    (s.trackMarker t burst burstEnd).queue = s.queue ∧
    (s.trackMarker t burst burstEnd).engine = s.engine ∧
    (s.trackMarker t burst burstEnd).carrier = s.carrier ∧
    (s.trackMarker t burst burstEnd).ind = s.ind ∧ (s.trackMarker t burst burstEnd).keys = s.keys ∧
    (s.trackMarker t burst burstEnd).kLines = s.kLines ∧
    (s.trackMarker t burst burstEnd).rx = s.rx ∧
    (s.trackMarker t burst burstEnd).matcher = s.matcher ∧
    (s.trackMarker t burst burstEnd).learn = s.learn ∧
    (s.trackMarker t burst burstEnd).link.replies = s.link.replies ∧
    (s.trackMarker t burst burstEnd).link.intake = s.link.intake ∧
    (s.trackMarker t burst burstEnd).link.handler = s.link.handler ∧
    (s.trackMarker t burst burstEnd).link.cache = s.link.cache ∧
    (s.trackMarker t burst burstEnd).link.receiver = s.link.receiver ∧
    (s.trackMarker t burst burstEnd).link.interByte = s.link.interByte ∧
    (s.trackMarker t burst burstEnd).link.listenFrom = s.link.listenFrom ∧
    (s.trackMarker t burst burstEnd).link.seq = s.link.seq ∧
    (s.trackMarker t burst burstEnd).link.fast = s.link.fast ∧
    (s.trackMarker t burst burstEnd).store = s.store ∧
    (s.trackMarker t burst burstEnd).supply = s.supply ∧
    (s.trackMarker t burst burstEnd).doze = s.doze ∧
    (s.trackMarker t burst burstEnd).freeUses = s.freeUses ∧
    (s.trackMarker t burst burstEnd).pending = s.pending := by
  unfold State.trackMarker; (repeat' split) <;> simp [State.heldInReset_eq]

@[simp] theorem State.applyMatch_frame (burst : List Interval) (burstEnd : Nat)
    (r : Option MatchResult) (s : State) :
   (s.applyMatch burst burstEnd r).now = s.now ∧
    (s.applyMatch burst burstEnd r).heldInReset = s.heldInReset ∧
    (s.applyMatch burst burstEnd r).resetLow = s.resetLow ∧
    (s.applyMatch burst burstEnd r).settings = s.settings ∧
    (s.applyMatch burst burstEnd r).lib = s.lib ∧ (s.applyMatch burst burstEnd r).queue = s.queue ∧
    (s.applyMatch burst burstEnd r).engine = s.engine ∧
    (s.applyMatch burst burstEnd r).carrier = s.carrier ∧
    (s.applyMatch burst burstEnd r).ind = s.ind ∧ (s.applyMatch burst burstEnd r).keys = s.keys ∧
    (s.applyMatch burst burstEnd r).kLines = s.kLines ∧ (s.applyMatch burst burstEnd r).rx = s.rx ∧
    (s.applyMatch burst burstEnd r).matcher = s.matcher ∧
    (s.applyMatch burst burstEnd r).learn = s.learn ∧
    (s.applyMatch burst burstEnd r).link.replies = s.link.replies ∧
    (s.applyMatch burst burstEnd r).link.intake = s.link.intake ∧
    (s.applyMatch burst burstEnd r).link.handler = s.link.handler ∧
    (s.applyMatch burst burstEnd r).link.cache = s.link.cache ∧
    (s.applyMatch burst burstEnd r).link.receiver = s.link.receiver ∧
    (s.applyMatch burst burstEnd r).link.interByte = s.link.interByte ∧
    (s.applyMatch burst burstEnd r).link.listenFrom = s.link.listenFrom ∧
    (s.applyMatch burst burstEnd r).link.seq = s.link.seq ∧
    (s.applyMatch burst burstEnd r).link.fast = s.link.fast ∧
    (s.applyMatch burst burstEnd r).store = s.store ∧
    (s.applyMatch burst burstEnd r).supply = s.supply ∧
    (s.applyMatch burst burstEnd r).doze = s.doze ∧
    (s.applyMatch burst burstEnd r).freeUses = s.freeUses ∧
    (s.applyMatch burst burstEnd r).pending = s.pending := by
  unfold State.applyMatch; split <;> simp [State.heldInReset_eq]

@[simp] theorem State.deliver_frame (m : Matching) (s : State) :
   (s.deliver m).now = s.now ∧ (s.deliver m).heldInReset = s.heldInReset ∧
    (s.deliver m).resetLow = s.resetLow ∧ (s.deliver m).settings = s.settings ∧
    (s.deliver m).lib = s.lib ∧ (s.deliver m).queue = s.queue ∧ (s.deliver m).engine = s.engine ∧
    (s.deliver m).carrier = s.carrier ∧ (s.deliver m).ind = s.ind ∧ (s.deliver m).keys = s.keys ∧
    (s.deliver m).kLines = s.kLines ∧ (s.deliver m).rx = s.rx ∧ (s.deliver m).matcher = s.matcher ∧
    (s.deliver m).learn = s.learn ∧ (s.deliver m).link.replies = s.link.replies ∧
    (s.deliver m).link.intake = s.link.intake ∧ (s.deliver m).link.handler = s.link.handler ∧
    (s.deliver m).link.cache = s.link.cache ∧ (s.deliver m).link.receiver = s.link.receiver ∧
    (s.deliver m).link.interByte = s.link.interByte ∧
    (s.deliver m).link.listenFrom = s.link.listenFrom ∧ (s.deliver m).link.seq = s.link.seq ∧
    (s.deliver m).link.fast = s.link.fast ∧ (s.deliver m).store = s.store ∧
    (s.deliver m).supply = s.supply ∧ (s.deliver m).doze = s.doze ∧
    (s.deliver m).freeUses = s.freeUses ∧ (s.deliver m).pending = s.pending := by
  simp [State.heldInReset_eq, State.deliver]

@[simp] theorem State.freeBurst_frame (n : SlotName) (s : State) :
   (s.freeBurst n).now = s.now ∧ (s.freeBurst n).heldInReset = s.heldInReset ∧
    (s.freeBurst n).resetLow = s.resetLow ∧ (s.freeBurst n).settings = s.settings ∧
    (s.freeBurst n).lib = s.lib ∧ (s.freeBurst n).queue = s.queue ∧
    (s.freeBurst n).engine = s.engine ∧ (s.freeBurst n).carrier = s.carrier ∧
    (s.freeBurst n).ind = s.ind ∧ (s.freeBurst n).keys = s.keys ∧
    (s.freeBurst n).kLines = s.kLines ∧ (s.freeBurst n).rx.state = s.rx.state ∧
    (s.freeBurst n).rx.lineHigh = s.rx.lineHigh ∧ (s.freeBurst n).rx.filtered = s.rx.filtered ∧
    (s.freeBurst n).rx.blankTail = s.rx.blankTail ∧ (s.freeBurst n).rx.burstEnd = s.rx.burstEnd ∧
    (s.freeBurst n).rx.markLimit = s.rx.markLimit ∧ (s.freeBurst n).rx.nextOrder = s.rx.nextOrder ∧
    (s.freeBurst n).rx.candidate = s.rx.candidate ∧ (s.freeBurst n).rx.lastEdge = s.rx.lastEdge ∧
    (s.freeBurst n).tracker = s.tracker ∧ (s.freeBurst n).learn = s.learn ∧
    (s.freeBurst n).link = s.link ∧ (s.freeBurst n).store = s.store ∧
    (s.freeBurst n).supply = s.supply ∧ (s.freeBurst n).doze = s.doze ∧
    (s.freeBurst n).freeUses = s.freeUses ∧ (s.freeBurst n).pending = s.pending := by
  simp [State.heldInReset_eq, State.freeBurst]

@[simp] theorem State.matchingEnds_frame (s : State) :
   s.matchingEnds.now = s.now ∧ s.matchingEnds.heldInReset = s.heldInReset ∧
    s.matchingEnds.resetLow = s.resetLow ∧ s.matchingEnds.settings = s.settings ∧
    s.matchingEnds.lib = s.lib ∧ s.matchingEnds.queue = s.queue ∧ s.matchingEnds.engine = s.engine ∧
    s.matchingEnds.carrier = s.carrier ∧ s.matchingEnds.ind = s.ind ∧ s.matchingEnds.keys = s.keys ∧
    s.matchingEnds.kLines = s.kLines ∧ s.matchingEnds.rx.state = s.rx.state ∧
    s.matchingEnds.rx.lineHigh = s.rx.lineHigh ∧ s.matchingEnds.rx.filtered = s.rx.filtered ∧
    s.matchingEnds.rx.blankTail = s.rx.blankTail ∧ s.matchingEnds.rx.burstEnd = s.rx.burstEnd ∧
    s.matchingEnds.rx.markLimit = s.rx.markLimit ∧ s.matchingEnds.rx.nextOrder = s.rx.nextOrder ∧
    s.matchingEnds.rx.candidate = s.rx.candidate ∧ s.matchingEnds.rx.lastEdge = s.rx.lastEdge ∧
    s.matchingEnds.link.replies = s.link.replies ∧ s.matchingEnds.link.intake = s.link.intake ∧
    s.matchingEnds.link.handler = s.link.handler ∧ s.matchingEnds.link.cache = s.link.cache ∧
    s.matchingEnds.link.receiver = s.link.receiver ∧
    s.matchingEnds.link.interByte = s.link.interByte ∧
    s.matchingEnds.link.listenFrom = s.link.listenFrom ∧ s.matchingEnds.link.seq = s.link.seq ∧
    s.matchingEnds.link.fast = s.link.fast ∧ s.matchingEnds.store = s.store ∧
    s.matchingEnds.supply = s.supply ∧ s.matchingEnds.doze = s.doze ∧
    s.matchingEnds.freeUses = s.freeUses ∧ s.matchingEnds.pending = s.pending := by
  unfold State.matchingEnds; split <;> simp [State.heldInReset_eq]

@[simp] theorem State.windowExpires_frame (s : State) :
   s.windowExpires.now = s.now ∧ s.windowExpires.heldInReset = s.heldInReset ∧
    s.windowExpires.resetLow = s.resetLow ∧ s.windowExpires.settings = s.settings ∧
    s.windowExpires.lib = s.lib ∧ s.windowExpires.queue = s.queue ∧
    s.windowExpires.engine = s.engine ∧ s.windowExpires.carrier = s.carrier ∧
    s.windowExpires.ind = s.ind ∧ s.windowExpires.keys = s.keys ∧
    s.windowExpires.kLines = s.kLines ∧ s.windowExpires.rx = s.rx ∧
    s.windowExpires.learn = s.learn ∧ s.windowExpires.link.replies = s.link.replies ∧
    s.windowExpires.link.intake = s.link.intake ∧ s.windowExpires.link.handler = s.link.handler ∧
    s.windowExpires.link.cache = s.link.cache ∧ s.windowExpires.link.receiver = s.link.receiver ∧
    s.windowExpires.link.interByte = s.link.interByte ∧
    s.windowExpires.link.listenFrom = s.link.listenFrom ∧ s.windowExpires.link.seq = s.link.seq ∧
    s.windowExpires.link.fast = s.link.fast ∧ s.windowExpires.store = s.store ∧
    s.windowExpires.supply = s.supply ∧ s.windowExpires.doze = s.doze ∧
    s.windowExpires.pending = s.pending := by
  unfold State.windowExpires; (repeat' split) <;> simp [State.heldInReset_eq]

@[simp] theorem State.dropTemplate_frame (t : Fin 16) (s : State) :
   (s.dropTemplate t).now = s.now ∧ (s.dropTemplate t).heldInReset = s.heldInReset ∧
    (s.dropTemplate t).resetLow = s.resetLow ∧ (s.dropTemplate t).settings = s.settings ∧
    (s.dropTemplate t).lib = s.lib ∧ (s.dropTemplate t).queue = s.queue ∧
    (s.dropTemplate t).engine = s.engine ∧ (s.dropTemplate t).carrier = s.carrier ∧
    (s.dropTemplate t).ind = s.ind ∧ (s.dropTemplate t).keys = s.keys ∧
    (s.dropTemplate t).kLines = s.kLines ∧ (s.dropTemplate t).rx = s.rx ∧
    (s.dropTemplate t).tracker = s.tracker ∧ (s.dropTemplate t).learn = s.learn ∧
    (s.dropTemplate t).link = s.link ∧ (s.dropTemplate t).store = s.store ∧
    (s.dropTemplate t).supply = s.supply ∧ (s.dropTemplate t).doze = s.doze ∧
    (s.dropTemplate t).freeUses = s.freeUses ∧ (s.dropTemplate t).pending = s.pending := by
  simp [State.heldInReset_eq, State.dropTemplate]

@[simp] theorem State.endSessionOn_frame (t : Fin 16) (s : State) :
   (s.endSessionOn t).now = s.now ∧ (s.endSessionOn t).heldInReset = s.heldInReset ∧
    (s.endSessionOn t).resetLow = s.resetLow ∧ (s.endSessionOn t).settings = s.settings ∧
    (s.endSessionOn t).lib = s.lib ∧ (s.endSessionOn t).queue = s.queue ∧
    (s.endSessionOn t).engine = s.engine ∧ (s.endSessionOn t).carrier = s.carrier ∧
    (s.endSessionOn t).ind = s.ind ∧ (s.endSessionOn t).keys = s.keys ∧
    (s.endSessionOn t).kLines = s.kLines ∧ (s.endSessionOn t).rx = s.rx ∧
    (s.endSessionOn t).matcher = s.matcher ∧ (s.endSessionOn t).learn = s.learn ∧
    (s.endSessionOn t).link.replies = s.link.replies ∧
    (s.endSessionOn t).link.intake = s.link.intake ∧
    (s.endSessionOn t).link.handler = s.link.handler ∧
    (s.endSessionOn t).link.cache = s.link.cache ∧
    (s.endSessionOn t).link.receiver = s.link.receiver ∧
    (s.endSessionOn t).link.interByte = s.link.interByte ∧
    (s.endSessionOn t).link.listenFrom = s.link.listenFrom ∧
    (s.endSessionOn t).link.seq = s.link.seq ∧ (s.endSessionOn t).link.fast = s.link.fast ∧
    (s.endSessionOn t).store = s.store ∧ (s.endSessionOn t).supply = s.supply ∧
    (s.endSessionOn t).doze = s.doze ∧ (s.endSessionOn t).freeUses = s.freeUses ∧
    (s.endSessionOn t).pending = s.pending := by
  unfold State.endSessionOn; (repeat' split) <;> simp [State.heldInReset_eq]

@[simp] theorem State.slotLeavesReady_frame (t : Fin 16) (s : State) :
   (s.slotLeavesReady t).now = s.now ∧ (s.slotLeavesReady t).heldInReset = s.heldInReset ∧
    (s.slotLeavesReady t).resetLow = s.resetLow ∧ (s.slotLeavesReady t).settings = s.settings ∧
    (s.slotLeavesReady t).lib = s.lib ∧ (s.slotLeavesReady t).queue = s.queue ∧
    (s.slotLeavesReady t).engine = s.engine ∧ (s.slotLeavesReady t).carrier = s.carrier ∧
    (s.slotLeavesReady t).ind = s.ind ∧ (s.slotLeavesReady t).keys = s.keys ∧
    (s.slotLeavesReady t).kLines = s.kLines ∧ (s.slotLeavesReady t).rx = s.rx ∧
    (s.slotLeavesReady t).learn = s.learn ∧ (s.slotLeavesReady t).link.replies = s.link.replies ∧
    (s.slotLeavesReady t).link.intake = s.link.intake ∧
    (s.slotLeavesReady t).link.handler = s.link.handler ∧
    (s.slotLeavesReady t).link.cache = s.link.cache ∧
    (s.slotLeavesReady t).link.receiver = s.link.receiver ∧
    (s.slotLeavesReady t).link.interByte = s.link.interByte ∧
    (s.slotLeavesReady t).link.listenFrom = s.link.listenFrom ∧
    (s.slotLeavesReady t).link.seq = s.link.seq ∧ (s.slotLeavesReady t).link.fast = s.link.fast ∧
    (s.slotLeavesReady t).store = s.store ∧ (s.slotLeavesReady t).supply = s.supply ∧
    (s.slotLeavesReady t).doze = s.doze ∧ (s.slotLeavesReady t).pending = s.pending := by
  simp [State.heldInReset_eq, State.slotLeavesReady]

@[simp] theorem State.learnExpires_frame (s : State) :
   s.learnExpires.now = s.now ∧ s.learnExpires.heldInReset = s.heldInReset ∧
    s.learnExpires.resetLow = s.resetLow ∧ s.learnExpires.settings = s.settings ∧
    s.learnExpires.lib = s.lib ∧ s.learnExpires.queue = s.queue ∧ s.learnExpires.engine = s.engine ∧
    s.learnExpires.carrier = s.carrier ∧ s.learnExpires.ind = s.ind ∧ s.learnExpires.keys = s.keys ∧
    s.learnExpires.kLines = s.kLines ∧ s.learnExpires.rx = s.rx ∧
    s.learnExpires.matcher = s.matcher ∧ s.learnExpires.tracker = s.tracker ∧
    s.learnExpires.link.replies = s.link.replies ∧ s.learnExpires.link.intake = s.link.intake ∧
    s.learnExpires.link.handler = s.link.handler ∧ s.learnExpires.link.cache = s.link.cache ∧
    s.learnExpires.link.receiver = s.link.receiver ∧
    s.learnExpires.link.interByte = s.link.interByte ∧
    s.learnExpires.link.listenFrom = s.link.listenFrom ∧ s.learnExpires.link.seq = s.link.seq ∧
    s.learnExpires.link.fast = s.link.fast ∧ s.learnExpires.store = s.store ∧
    s.learnExpires.supply = s.supply ∧ s.learnExpires.doze = s.doze ∧
    s.learnExpires.freeUses = s.freeUses ∧ s.learnExpires.pending = s.pending := by
  unfold State.learnExpires; (repeat' split) <;> simp [State.heldInReset_eq]

end Sys2Proof.Machine
end

