-- ==== Sys2Proof/Laws/Receiver.lean ====
section
/-! SUPPORT. What the Receiver Front End leaves unchanged: for each operation one lemma that lists every
field of the state, or of its part, that the operation does not touch. -/

namespace Sys2Proof.Machine

@[simp] theorem State.readLine_frame (s : State) :
   s.readLine.now = s.now ∧ s.readLine.heldInReset = s.heldInReset ∧
    s.readLine.resetLow = s.resetLow ∧ s.readLine.settings = s.settings ∧ s.readLine.lib = s.lib ∧
    s.readLine.queue = s.queue ∧ s.readLine.engine = s.engine ∧ s.readLine.carrier = s.carrier ∧
    s.readLine.ind = s.ind ∧ s.readLine.keys = s.keys ∧ s.readLine.kLines = s.kLines ∧
    s.readLine.rx.state = s.rx.state ∧ s.readLine.rx.lineHigh = s.rx.lineHigh ∧
    s.readLine.rx.blankTail = s.rx.blankTail ∧ s.readLine.rx.burstEnd = s.rx.burstEnd ∧
    s.readLine.rx.markLimit = s.rx.markLimit ∧ s.readLine.rx.slotA = s.rx.slotA ∧
    s.readLine.rx.slotB = s.rx.slotB ∧ s.readLine.rx.nextOrder = s.rx.nextOrder ∧
    s.readLine.rx.lastEdge = s.rx.lastEdge ∧ s.readLine.matcher = s.matcher ∧
    s.readLine.tracker = s.tracker ∧ s.readLine.learn = s.learn ∧ s.readLine.link = s.link ∧
    s.readLine.store = s.store ∧ s.readLine.supply = s.supply ∧ s.readLine.doze = s.doze ∧
    s.readLine.freeUses = s.freeUses ∧ s.readLine.pending = s.pending := by
  simp [State.heldInReset_eq, State.readLine]

@[simp] theorem Receiver.leaveBurst_frame (rx : Receiver) (dest : RxState) :
   (Receiver.leaveBurst rx dest).lineHigh = rx.lineHigh ∧
    (Receiver.leaveBurst rx dest).filtered = rx.filtered ∧
    (Receiver.leaveBurst rx dest).candidate = rx.candidate ∧
    (Receiver.leaveBurst rx dest).lastEdge = rx.lastEdge ∧
    (Receiver.leaveBurst rx dest).blankTail = rx.blankTail ∧
    (Receiver.leaveBurst rx dest).nextOrder = rx.nextOrder := by
  simp [Receiver.leaveBurst]

@[simp] theorem State.dropBurst_frame (reason : DropReason) (s : State) :
   (s.dropBurst reason).now = s.now ∧ (s.dropBurst reason).heldInReset = s.heldInReset ∧
    (s.dropBurst reason).resetLow = s.resetLow ∧ (s.dropBurst reason).settings = s.settings ∧
    (s.dropBurst reason).lib = s.lib ∧ (s.dropBurst reason).queue = s.queue ∧
    (s.dropBurst reason).engine = s.engine ∧ (s.dropBurst reason).carrier = s.carrier ∧
    (s.dropBurst reason).ind = s.ind ∧ (s.dropBurst reason).keys = s.keys ∧
    (s.dropBurst reason).kLines = s.kLines ∧ (s.dropBurst reason).rx.lineHigh = s.rx.lineHigh ∧
    (s.dropBurst reason).rx.filtered = s.rx.filtered ∧
    (s.dropBurst reason).rx.blankTail = s.rx.blankTail ∧
    (s.dropBurst reason).rx.nextOrder = s.rx.nextOrder ∧
    (s.dropBurst reason).rx.candidate = s.rx.candidate ∧
    (s.dropBurst reason).rx.lastEdge = s.rx.lastEdge ∧ (s.dropBurst reason).matcher = s.matcher ∧
    (s.dropBurst reason).tracker = s.tracker ∧ (s.dropBurst reason).learn = s.learn ∧
    (s.dropBurst reason).link.replies = s.link.replies ∧
    (s.dropBurst reason).link.intake = s.link.intake ∧
    (s.dropBurst reason).link.handler = s.link.handler ∧
    (s.dropBurst reason).link.cache = s.link.cache ∧
    (s.dropBurst reason).link.receiver = s.link.receiver ∧
    (s.dropBurst reason).link.interByte = s.link.interByte ∧
    (s.dropBurst reason).link.listenFrom = s.link.listenFrom ∧
    (s.dropBurst reason).link.seq = s.link.seq ∧ (s.dropBurst reason).link.fast = s.link.fast ∧
    (s.dropBurst reason).store = s.store ∧ (s.dropBurst reason).supply = s.supply ∧
    (s.dropBurst reason).doze = s.doze ∧ (s.dropBurst reason).freeUses = s.freeUses ∧
    (s.dropBurst reason).pending = s.pending := by
  simp [State.heldInReset_eq, State.dropBurst]

@[simp] theorem State.startBurst_frame (edge : Nat) (s : State) :
   (s.startBurst edge).now = s.now ∧ (s.startBurst edge).heldInReset = s.heldInReset ∧
    (s.startBurst edge).resetLow = s.resetLow ∧ (s.startBurst edge).settings = s.settings ∧
    (s.startBurst edge).lib = s.lib ∧ (s.startBurst edge).queue = s.queue ∧
    (s.startBurst edge).engine = s.engine ∧ (s.startBurst edge).carrier = s.carrier ∧
    (s.startBurst edge).ind = s.ind ∧ (s.startBurst edge).keys = s.keys ∧
    (s.startBurst edge).kLines = s.kLines ∧ (s.startBurst edge).rx.lineHigh = s.rx.lineHigh ∧
    (s.startBurst edge).rx.filtered = s.rx.filtered ∧
    (s.startBurst edge).rx.blankTail = s.rx.blankTail ∧
    (s.startBurst edge).rx.burstEnd = s.rx.burstEnd ∧
    (s.startBurst edge).rx.nextOrder = s.rx.nextOrder ∧
    (s.startBurst edge).rx.candidate = s.rx.candidate ∧ (s.startBurst edge).matcher = s.matcher ∧
    (s.startBurst edge).tracker = s.tracker ∧ (s.startBurst edge).learn = s.learn ∧
    (s.startBurst edge).link.replies = s.link.replies ∧
    (s.startBurst edge).link.intake = s.link.intake ∧
    (s.startBurst edge).link.handler = s.link.handler ∧
    (s.startBurst edge).link.cache = s.link.cache ∧
    (s.startBurst edge).link.receiver = s.link.receiver ∧
    (s.startBurst edge).link.interByte = s.link.interByte ∧
    (s.startBurst edge).link.listenFrom = s.link.listenFrom ∧
    (s.startBurst edge).link.seq = s.link.seq ∧ (s.startBurst edge).link.fast = s.link.fast ∧
    (s.startBurst edge).store = s.store ∧ (s.startBurst edge).supply = s.supply ∧
    (s.startBurst edge).doze = s.doze ∧ (s.startBurst edge).freeUses = s.freeUses ∧
    (s.startBurst edge).pending = s.pending := by
  unfold State.startBurst; split <;> simp [State.heldInReset_eq]

@[simp] theorem Receiver.storeInterval_frame (rx : Receiver) (kind : IKind) (edge : Nat) :
   (Receiver.storeInterval rx kind edge).lineHigh = rx.lineHigh ∧
    (Receiver.storeInterval rx kind edge).filtered = rx.filtered ∧
    (Receiver.storeInterval rx kind edge).candidate = rx.candidate ∧
    (Receiver.storeInterval rx kind edge).state = rx.state ∧
    (Receiver.storeInterval rx kind edge).burstEnd = rx.burstEnd ∧
    (Receiver.storeInterval rx kind edge).markLimit = rx.markLimit ∧
    (Receiver.storeInterval rx kind edge).blankTail = rx.blankTail ∧
    (Receiver.storeInterval rx kind edge).nextOrder = rx.nextOrder := by
  simp [Receiver.storeInterval]

@[simp] theorem State.storeEdge_frame (k : IKind) (edge : Nat) (s : State) :
   (s.storeEdge k edge).now = s.now ∧ (s.storeEdge k edge).heldInReset = s.heldInReset ∧
    (s.storeEdge k edge).resetLow = s.resetLow ∧ (s.storeEdge k edge).settings = s.settings ∧
    (s.storeEdge k edge).lib = s.lib ∧ (s.storeEdge k edge).queue = s.queue ∧
    (s.storeEdge k edge).engine = s.engine ∧ (s.storeEdge k edge).carrier = s.carrier ∧
    (s.storeEdge k edge).ind = s.ind ∧ (s.storeEdge k edge).keys = s.keys ∧
    (s.storeEdge k edge).kLines = s.kLines ∧ (s.storeEdge k edge).rx.state = s.rx.state ∧
    (s.storeEdge k edge).rx.lineHigh = s.rx.lineHigh ∧
    (s.storeEdge k edge).rx.filtered = s.rx.filtered ∧
    (s.storeEdge k edge).rx.blankTail = s.rx.blankTail ∧
    (s.storeEdge k edge).rx.burstEnd = s.rx.burstEnd ∧
    (s.storeEdge k edge).rx.markLimit = s.rx.markLimit ∧
    (s.storeEdge k edge).rx.nextOrder = s.rx.nextOrder ∧
    (s.storeEdge k edge).rx.candidate = s.rx.candidate ∧ (s.storeEdge k edge).matcher = s.matcher ∧
    (s.storeEdge k edge).tracker = s.tracker ∧ (s.storeEdge k edge).learn = s.learn ∧
    (s.storeEdge k edge).link = s.link ∧ (s.storeEdge k edge).store = s.store ∧
    (s.storeEdge k edge).supply = s.supply ∧ (s.storeEdge k edge).doze = s.doze ∧
    (s.storeEdge k edge).freeUses = s.freeUses ∧ (s.storeEdge k edge).pending = s.pending := by
  simp [State.heldInReset_eq, State.storeEdge]

@[simp] theorem State.afterStore_frame (k : IKind) (edge : Nat) (s : State) :
   (s.afterStore k edge).now = s.now ∧ (s.afterStore k edge).heldInReset = s.heldInReset ∧
    (s.afterStore k edge).resetLow = s.resetLow ∧ (s.afterStore k edge).settings = s.settings ∧
    (s.afterStore k edge).lib = s.lib ∧ (s.afterStore k edge).queue = s.queue ∧
    (s.afterStore k edge).engine = s.engine ∧ (s.afterStore k edge).carrier = s.carrier ∧
    (s.afterStore k edge).ind = s.ind ∧ (s.afterStore k edge).keys = s.keys ∧
    (s.afterStore k edge).kLines = s.kLines ∧ (s.afterStore k edge).rx.lineHigh = s.rx.lineHigh ∧
    (s.afterStore k edge).rx.filtered = s.rx.filtered ∧
    (s.afterStore k edge).rx.blankTail = s.rx.blankTail ∧
    (s.afterStore k edge).rx.nextOrder = s.rx.nextOrder ∧
    (s.afterStore k edge).rx.candidate = s.rx.candidate ∧
    (s.afterStore k edge).rx.lastEdge = s.rx.lastEdge ∧ (s.afterStore k edge).matcher = s.matcher ∧
    (s.afterStore k edge).tracker = s.tracker ∧ (s.afterStore k edge).learn = s.learn ∧
    (s.afterStore k edge).link.replies = s.link.replies ∧
    (s.afterStore k edge).link.intake = s.link.intake ∧
    (s.afterStore k edge).link.handler = s.link.handler ∧
    (s.afterStore k edge).link.cache = s.link.cache ∧
    (s.afterStore k edge).link.receiver = s.link.receiver ∧
    (s.afterStore k edge).link.interByte = s.link.interByte ∧
    (s.afterStore k edge).link.listenFrom = s.link.listenFrom ∧
    (s.afterStore k edge).link.seq = s.link.seq ∧ (s.afterStore k edge).link.fast = s.link.fast ∧
    (s.afterStore k edge).store = s.store ∧ (s.afterStore k edge).supply = s.supply ∧
    (s.afterStore k edge).doze = s.doze ∧ (s.afterStore k edge).freeUses = s.freeUses ∧
    (s.afterStore k edge).pending = s.pending := by
  unfold State.afterStore; (repeat' split) <;> simp [State.heldInReset_eq]

@[simp] theorem State.edgeInBurst_frame (k : IKind) (edge : Nat) (s : State) :
   (s.edgeInBurst k edge).now = s.now ∧ (s.edgeInBurst k edge).heldInReset = s.heldInReset ∧
    (s.edgeInBurst k edge).resetLow = s.resetLow ∧ (s.edgeInBurst k edge).settings = s.settings ∧
    (s.edgeInBurst k edge).lib = s.lib ∧ (s.edgeInBurst k edge).queue = s.queue ∧
    (s.edgeInBurst k edge).engine = s.engine ∧ (s.edgeInBurst k edge).carrier = s.carrier ∧
    (s.edgeInBurst k edge).ind = s.ind ∧ (s.edgeInBurst k edge).keys = s.keys ∧
    (s.edgeInBurst k edge).kLines = s.kLines ∧ (s.edgeInBurst k edge).rx.lineHigh = s.rx.lineHigh ∧
    (s.edgeInBurst k edge).rx.filtered = s.rx.filtered ∧
    (s.edgeInBurst k edge).rx.blankTail = s.rx.blankTail ∧
    (s.edgeInBurst k edge).rx.nextOrder = s.rx.nextOrder ∧
    (s.edgeInBurst k edge).rx.candidate = s.rx.candidate ∧
    (s.edgeInBurst k edge).matcher = s.matcher ∧ (s.edgeInBurst k edge).tracker = s.tracker ∧
    (s.edgeInBurst k edge).learn = s.learn ∧ (s.edgeInBurst k edge).link.replies = s.link.replies ∧
    (s.edgeInBurst k edge).link.intake = s.link.intake ∧
    (s.edgeInBurst k edge).link.handler = s.link.handler ∧
    (s.edgeInBurst k edge).link.cache = s.link.cache ∧
    (s.edgeInBurst k edge).link.receiver = s.link.receiver ∧
    (s.edgeInBurst k edge).link.interByte = s.link.interByte ∧
    (s.edgeInBurst k edge).link.listenFrom = s.link.listenFrom ∧
    (s.edgeInBurst k edge).link.seq = s.link.seq ∧ (s.edgeInBurst k edge).link.fast = s.link.fast ∧
    (s.edgeInBurst k edge).store = s.store ∧ (s.edgeInBurst k edge).supply = s.supply ∧
    (s.edgeInBurst k edge).doze = s.doze ∧ (s.edgeInBurst k edge).freeUses = s.freeUses ∧
    (s.edgeInBurst k edge).pending = s.pending := by
  simp [State.heldInReset_eq, State.edgeInBurst]

@[simp] theorem State.setFiltered_frame (k : IKind) (s : State) :
   (s.setFiltered k).now = s.now ∧ (s.setFiltered k).heldInReset = s.heldInReset ∧
    (s.setFiltered k).resetLow = s.resetLow ∧ (s.setFiltered k).settings = s.settings ∧
    (s.setFiltered k).lib = s.lib ∧ (s.setFiltered k).queue = s.queue ∧
    (s.setFiltered k).engine = s.engine ∧ (s.setFiltered k).carrier = s.carrier ∧
    (s.setFiltered k).ind = s.ind ∧ (s.setFiltered k).keys = s.keys ∧
    (s.setFiltered k).kLines = s.kLines ∧ (s.setFiltered k).rx.state = s.rx.state ∧
    (s.setFiltered k).rx.lineHigh = s.rx.lineHigh ∧
    (s.setFiltered k).rx.blankTail = s.rx.blankTail ∧
    (s.setFiltered k).rx.burstEnd = s.rx.burstEnd ∧
    (s.setFiltered k).rx.markLimit = s.rx.markLimit ∧ (s.setFiltered k).rx.slotA = s.rx.slotA ∧
    (s.setFiltered k).rx.slotB = s.rx.slotB ∧ (s.setFiltered k).rx.nextOrder = s.rx.nextOrder ∧
    (s.setFiltered k).rx.lastEdge = s.rx.lastEdge ∧ (s.setFiltered k).matcher = s.matcher ∧
    (s.setFiltered k).tracker = s.tracker ∧ (s.setFiltered k).learn = s.learn ∧
    (s.setFiltered k).link = s.link ∧ (s.setFiltered k).store = s.store ∧
    (s.setFiltered k).supply = s.supply ∧ (s.setFiltered k).doze = s.doze ∧
    (s.setFiltered k).freeUses = s.freeUses ∧ (s.setFiltered k).pending = s.pending := by
  simp [State.heldInReset_eq, State.setFiltered]

@[simp] theorem State.receiverEdge_frame (k : IKind) (edge : Nat) (s : State) :
   (s.receiverEdge k edge).now = s.now ∧ (s.receiverEdge k edge).heldInReset = s.heldInReset ∧
    (s.receiverEdge k edge).resetLow = s.resetLow ∧ (s.receiverEdge k edge).settings = s.settings ∧
    (s.receiverEdge k edge).lib = s.lib ∧ (s.receiverEdge k edge).queue = s.queue ∧
    (s.receiverEdge k edge).engine = s.engine ∧ (s.receiverEdge k edge).carrier = s.carrier ∧
    (s.receiverEdge k edge).ind = s.ind ∧ (s.receiverEdge k edge).keys = s.keys ∧
    (s.receiverEdge k edge).kLines = s.kLines ∧
    (s.receiverEdge k edge).rx.lineHigh = s.rx.lineHigh ∧
    (s.receiverEdge k edge).rx.filtered = s.rx.filtered ∧
    (s.receiverEdge k edge).rx.blankTail = s.rx.blankTail ∧
    (s.receiverEdge k edge).rx.nextOrder = s.rx.nextOrder ∧
    (s.receiverEdge k edge).rx.candidate = s.rx.candidate ∧
    (s.receiverEdge k edge).matcher = s.matcher ∧ (s.receiverEdge k edge).tracker = s.tracker ∧
    (s.receiverEdge k edge).learn = s.learn ∧
    (s.receiverEdge k edge).link.replies = s.link.replies ∧
    (s.receiverEdge k edge).link.intake = s.link.intake ∧
    (s.receiverEdge k edge).link.handler = s.link.handler ∧
    (s.receiverEdge k edge).link.cache = s.link.cache ∧
    (s.receiverEdge k edge).link.receiver = s.link.receiver ∧
    (s.receiverEdge k edge).link.interByte = s.link.interByte ∧
    (s.receiverEdge k edge).link.listenFrom = s.link.listenFrom ∧
    (s.receiverEdge k edge).link.seq = s.link.seq ∧
    (s.receiverEdge k edge).link.fast = s.link.fast ∧ (s.receiverEdge k edge).store = s.store ∧
    (s.receiverEdge k edge).supply = s.supply ∧ (s.receiverEdge k edge).doze = s.doze ∧
    (s.receiverEdge k edge).freeUses = s.freeUses ∧
    (s.receiverEdge k edge).pending = s.pending := by
  unfold State.receiverEdge; (repeat' split) <;> simp [State.heldInReset_eq]

@[simp] theorem State.filteredEdge_frame (k : IKind) (edge : Nat) (s : State) :
   (s.filteredEdge k edge).now = s.now ∧ (s.filteredEdge k edge).heldInReset = s.heldInReset ∧
    (s.filteredEdge k edge).resetLow = s.resetLow ∧ (s.filteredEdge k edge).settings = s.settings ∧
    (s.filteredEdge k edge).lib = s.lib ∧ (s.filteredEdge k edge).queue = s.queue ∧
    (s.filteredEdge k edge).engine = s.engine ∧ (s.filteredEdge k edge).carrier = s.carrier ∧
    (s.filteredEdge k edge).ind = s.ind ∧ (s.filteredEdge k edge).keys = s.keys ∧
    (s.filteredEdge k edge).kLines = s.kLines ∧
    (s.filteredEdge k edge).rx.lineHigh = s.rx.lineHigh ∧
    (s.filteredEdge k edge).rx.blankTail = s.rx.blankTail ∧
    (s.filteredEdge k edge).rx.nextOrder = s.rx.nextOrder ∧
    (s.filteredEdge k edge).matcher = s.matcher ∧ (s.filteredEdge k edge).tracker = s.tracker ∧
    (s.filteredEdge k edge).learn = s.learn ∧
    (s.filteredEdge k edge).link.replies = s.link.replies ∧
    (s.filteredEdge k edge).link.intake = s.link.intake ∧
    (s.filteredEdge k edge).link.handler = s.link.handler ∧
    (s.filteredEdge k edge).link.cache = s.link.cache ∧
    (s.filteredEdge k edge).link.receiver = s.link.receiver ∧
    (s.filteredEdge k edge).link.interByte = s.link.interByte ∧
    (s.filteredEdge k edge).link.listenFrom = s.link.listenFrom ∧
    (s.filteredEdge k edge).link.seq = s.link.seq ∧
    (s.filteredEdge k edge).link.fast = s.link.fast ∧ (s.filteredEdge k edge).store = s.store ∧
    (s.filteredEdge k edge).supply = s.supply ∧ (s.filteredEdge k edge).doze = s.doze ∧
    (s.filteredEdge k edge).freeUses = s.freeUses ∧
    (s.filteredEdge k edge).pending = s.pending := by
  simp [State.heldInReset_eq, State.filteredEdge]

@[simp] theorem State.confirmGlitch_frame (s : State) :
   s.confirmGlitch.now = s.now ∧ s.confirmGlitch.heldInReset = s.heldInReset ∧
    s.confirmGlitch.resetLow = s.resetLow ∧ s.confirmGlitch.settings = s.settings ∧
    s.confirmGlitch.lib = s.lib ∧ s.confirmGlitch.queue = s.queue ∧
    s.confirmGlitch.engine = s.engine ∧ s.confirmGlitch.carrier = s.carrier ∧
    s.confirmGlitch.ind = s.ind ∧ s.confirmGlitch.keys = s.keys ∧
    s.confirmGlitch.kLines = s.kLines ∧ s.confirmGlitch.rx.lineHigh = s.rx.lineHigh ∧
    s.confirmGlitch.rx.blankTail = s.rx.blankTail ∧ s.confirmGlitch.rx.nextOrder = s.rx.nextOrder ∧
    s.confirmGlitch.matcher = s.matcher ∧ s.confirmGlitch.tracker = s.tracker ∧
    s.confirmGlitch.learn = s.learn ∧ s.confirmGlitch.link.replies = s.link.replies ∧
    s.confirmGlitch.link.intake = s.link.intake ∧ s.confirmGlitch.link.handler = s.link.handler ∧
    s.confirmGlitch.link.cache = s.link.cache ∧ s.confirmGlitch.link.receiver = s.link.receiver ∧
    s.confirmGlitch.link.interByte = s.link.interByte ∧
    s.confirmGlitch.link.listenFrom = s.link.listenFrom ∧ s.confirmGlitch.link.seq = s.link.seq ∧
    s.confirmGlitch.link.fast = s.link.fast ∧ s.confirmGlitch.store = s.store ∧
    s.confirmGlitch.supply = s.supply ∧ s.confirmGlitch.doze = s.doze ∧
    s.confirmGlitch.freeUses = s.freeUses ∧ s.confirmGlitch.pending = s.pending := by
  unfold State.confirmGlitch; (repeat' split) <;> simp [State.heldInReset_eq]

@[simp] theorem State.setRxinLine_frame (high : Bool) (s : State) :
   (s.setRxinLine high).now = s.now ∧ (s.setRxinLine high).heldInReset = s.heldInReset ∧
    (s.setRxinLine high).resetLow = s.resetLow ∧ (s.setRxinLine high).settings = s.settings ∧
    (s.setRxinLine high).lib = s.lib ∧ (s.setRxinLine high).queue = s.queue ∧
    (s.setRxinLine high).engine = s.engine ∧ (s.setRxinLine high).carrier = s.carrier ∧
    (s.setRxinLine high).ind = s.ind ∧ (s.setRxinLine high).keys = s.keys ∧
    (s.setRxinLine high).kLines = s.kLines ∧ (s.setRxinLine high).rx.state = s.rx.state ∧
    (s.setRxinLine high).rx.filtered = s.rx.filtered ∧
    (s.setRxinLine high).rx.blankTail = s.rx.blankTail ∧
    (s.setRxinLine high).rx.burstEnd = s.rx.burstEnd ∧
    (s.setRxinLine high).rx.markLimit = s.rx.markLimit ∧
    (s.setRxinLine high).rx.slotA = s.rx.slotA ∧ (s.setRxinLine high).rx.slotB = s.rx.slotB ∧
    (s.setRxinLine high).rx.nextOrder = s.rx.nextOrder ∧
    (s.setRxinLine high).rx.candidate = s.rx.candidate ∧
    (s.setRxinLine high).rx.lastEdge = s.rx.lastEdge ∧ (s.setRxinLine high).matcher = s.matcher ∧
    (s.setRxinLine high).tracker = s.tracker ∧ (s.setRxinLine high).learn = s.learn ∧
    (s.setRxinLine high).link = s.link ∧ (s.setRxinLine high).store = s.store ∧
    (s.setRxinLine high).supply = s.supply ∧ (s.setRxinLine high).doze = s.doze ∧
    (s.setRxinLine high).freeUses = s.freeUses ∧ (s.setRxinLine high).pending = s.pending := by
  simp [State.heldInReset_eq, State.setRxinLine]

@[simp] theorem State.filterLine_frame (s : State) :
   s.filterLine.now = s.now ∧ s.filterLine.heldInReset = s.heldInReset ∧
    s.filterLine.resetLow = s.resetLow ∧ s.filterLine.settings = s.settings ∧
    s.filterLine.lib = s.lib ∧ s.filterLine.queue = s.queue ∧ s.filterLine.engine = s.engine ∧
    s.filterLine.carrier = s.carrier ∧ s.filterLine.ind = s.ind ∧ s.filterLine.keys = s.keys ∧
    s.filterLine.kLines = s.kLines ∧ s.filterLine.rx.lineHigh = s.rx.lineHigh ∧
    s.filterLine.rx.blankTail = s.rx.blankTail ∧ s.filterLine.rx.nextOrder = s.rx.nextOrder ∧
    s.filterLine.matcher = s.matcher ∧ s.filterLine.tracker = s.tracker ∧
    s.filterLine.learn = s.learn ∧ s.filterLine.link.replies = s.link.replies ∧
    s.filterLine.link.intake = s.link.intake ∧ s.filterLine.link.handler = s.link.handler ∧
    s.filterLine.link.cache = s.link.cache ∧ s.filterLine.link.receiver = s.link.receiver ∧
    s.filterLine.link.interByte = s.link.interByte ∧
    s.filterLine.link.listenFrom = s.link.listenFrom ∧ s.filterLine.link.seq = s.link.seq ∧
    s.filterLine.link.fast = s.link.fast ∧ s.filterLine.store = s.store ∧
    s.filterLine.supply = s.supply ∧ s.filterLine.doze = s.doze ∧
    s.filterLine.freeUses = s.freeUses ∧ s.filterLine.pending = s.pending := by
  unfold State.filterLine; (repeat' split) <;> simp [State.heldInReset_eq]

@[simp] theorem State.lineChanges_frame (high : Bool) (s : State) :
   (s.lineChanges high).now = s.now ∧ (s.lineChanges high).heldInReset = s.heldInReset ∧
    (s.lineChanges high).resetLow = s.resetLow ∧ (s.lineChanges high).settings = s.settings ∧
    (s.lineChanges high).lib = s.lib ∧ (s.lineChanges high).queue = s.queue ∧
    (s.lineChanges high).engine = s.engine ∧ (s.lineChanges high).carrier = s.carrier ∧
    (s.lineChanges high).ind = s.ind ∧ (s.lineChanges high).keys = s.keys ∧
    (s.lineChanges high).kLines = s.kLines ∧ (s.lineChanges high).rx.blankTail = s.rx.blankTail ∧
    (s.lineChanges high).rx.nextOrder = s.rx.nextOrder ∧ (s.lineChanges high).matcher = s.matcher ∧
    (s.lineChanges high).tracker = s.tracker ∧ (s.lineChanges high).learn = s.learn ∧
    (s.lineChanges high).link.replies = s.link.replies ∧
    (s.lineChanges high).link.intake = s.link.intake ∧
    (s.lineChanges high).link.handler = s.link.handler ∧
    (s.lineChanges high).link.cache = s.link.cache ∧
    (s.lineChanges high).link.receiver = s.link.receiver ∧
    (s.lineChanges high).link.interByte = s.link.interByte ∧
    (s.lineChanges high).link.listenFrom = s.link.listenFrom ∧
    (s.lineChanges high).link.seq = s.link.seq ∧ (s.lineChanges high).link.fast = s.link.fast ∧
    (s.lineChanges high).store = s.store ∧ (s.lineChanges high).supply = s.supply ∧
    (s.lineChanges high).doze = s.doze ∧ (s.lineChanges high).freeUses = s.freeUses ∧
    (s.lineChanges high).pending = s.pending := by
  simp [State.heldInReset_eq, State.lineChanges]

@[simp] theorem State.burstEnds_frame (s : State) :
   s.burstEnds.now = s.now ∧ s.burstEnds.heldInReset = s.heldInReset ∧
    s.burstEnds.resetLow = s.resetLow ∧ s.burstEnds.settings = s.settings ∧
    s.burstEnds.lib = s.lib ∧ s.burstEnds.queue = s.queue ∧ s.burstEnds.engine = s.engine ∧
    s.burstEnds.carrier = s.carrier ∧ s.burstEnds.ind = s.ind ∧ s.burstEnds.keys = s.keys ∧
    s.burstEnds.kLines = s.kLines ∧ s.burstEnds.rx.lineHigh = s.rx.lineHigh ∧
    s.burstEnds.rx.filtered = s.rx.filtered ∧ s.burstEnds.rx.blankTail = s.rx.blankTail ∧
    s.burstEnds.rx.markLimit = s.rx.markLimit ∧ s.burstEnds.rx.candidate = s.rx.candidate ∧
    s.burstEnds.rx.lastEdge = s.rx.lastEdge ∧ s.burstEnds.tracker = s.tracker ∧
    s.burstEnds.link.replies = s.link.replies ∧ s.burstEnds.link.intake = s.link.intake ∧
    s.burstEnds.link.handler = s.link.handler ∧ s.burstEnds.link.cache = s.link.cache ∧
    s.burstEnds.link.receiver = s.link.receiver ∧ s.burstEnds.link.interByte = s.link.interByte ∧
    s.burstEnds.link.listenFrom = s.link.listenFrom ∧ s.burstEnds.link.seq = s.link.seq ∧
    s.burstEnds.link.fast = s.link.fast ∧ s.burstEnds.store = s.store ∧
    s.burstEnds.supply = s.supply ∧ s.burstEnds.doze = s.doze ∧ s.burstEnds.freeUses = s.freeUses ∧
    s.burstEnds.pending = s.pending := by
  unfold State.burstEnds; (repeat' split) <;> simp [State.heldInReset_eq]

@[simp] theorem State.markTooLong_frame (s : State) :
   s.markTooLong.now = s.now ∧ s.markTooLong.heldInReset = s.heldInReset ∧
    s.markTooLong.resetLow = s.resetLow ∧ s.markTooLong.settings = s.settings ∧
    s.markTooLong.lib = s.lib ∧ s.markTooLong.queue = s.queue ∧ s.markTooLong.engine = s.engine ∧
    s.markTooLong.carrier = s.carrier ∧ s.markTooLong.ind = s.ind ∧ s.markTooLong.keys = s.keys ∧
    s.markTooLong.kLines = s.kLines ∧ s.markTooLong.rx.lineHigh = s.rx.lineHigh ∧
    s.markTooLong.rx.filtered = s.rx.filtered ∧ s.markTooLong.rx.blankTail = s.rx.blankTail ∧
    s.markTooLong.rx.nextOrder = s.rx.nextOrder ∧ s.markTooLong.rx.candidate = s.rx.candidate ∧
    s.markTooLong.rx.lastEdge = s.rx.lastEdge ∧ s.markTooLong.matcher = s.matcher ∧
    s.markTooLong.tracker = s.tracker ∧ s.markTooLong.learn = s.learn ∧
    s.markTooLong.link.replies = s.link.replies ∧ s.markTooLong.link.intake = s.link.intake ∧
    s.markTooLong.link.handler = s.link.handler ∧ s.markTooLong.link.cache = s.link.cache ∧
    s.markTooLong.link.receiver = s.link.receiver ∧
    s.markTooLong.link.interByte = s.link.interByte ∧
    s.markTooLong.link.listenFrom = s.link.listenFrom ∧ s.markTooLong.link.seq = s.link.seq ∧
    s.markTooLong.link.fast = s.link.fast ∧ s.markTooLong.store = s.store ∧
    s.markTooLong.supply = s.supply ∧ s.markTooLong.doze = s.doze ∧
    s.markTooLong.freeUses = s.freeUses ∧ s.markTooLong.pending = s.pending := by
  unfold State.markTooLong; split <;> simp [State.heldInReset_eq]

@[simp] theorem Receiver.blank_frame (rx : Receiver) :
   rx.blank.lineHigh = rx.lineHigh ∧ rx.blank.filtered = rx.filtered ∧
    rx.blank.candidate = rx.candidate ∧ rx.blank.lastEdge = rx.lastEdge ∧
    rx.blank.blankTail = rx.blankTail ∧ rx.blank.nextOrder = rx.nextOrder := by
  unfold Receiver.blank; split <;> simp

@[simp] theorem Receiver.unblank_frame (rx : Receiver) :
   rx.unblank.lineHigh = rx.lineHigh ∧ rx.unblank.filtered = rx.filtered ∧
    rx.unblank.candidate = rx.candidate ∧ rx.unblank.lastEdge = rx.lastEdge ∧
    rx.unblank.burstEnd = rx.burstEnd ∧ rx.unblank.markLimit = rx.markLimit ∧
    rx.unblank.blankTail = rx.blankTail ∧ rx.unblank.slotA = rx.slotA ∧
    rx.unblank.slotB = rx.slotB ∧ rx.unblank.nextOrder = rx.nextOrder := by
  unfold Receiver.unblank; split <;> simp

@[simp] theorem State.activityOn_frame (s : State) :
   s.activityOn.now = s.now ∧ s.activityOn.heldInReset = s.heldInReset ∧
    s.activityOn.resetLow = s.resetLow ∧ s.activityOn.settings = s.settings ∧
    s.activityOn.lib = s.lib ∧ s.activityOn.queue = s.queue ∧
    s.activityOn.engine.state = s.engine.state ∧ s.activityOn.engine.current = s.engine.current ∧
    s.activityOn.engine.deadline = s.engine.deadline ∧
    s.activityOn.engine.buffer = s.engine.buffer ∧
    s.activityOn.engine.position = s.engine.position ∧ s.activityOn.carrier = s.carrier ∧
    s.activityOn.ind = s.ind ∧ s.activityOn.keys = s.keys ∧ s.activityOn.kLines = s.kLines ∧
    s.activityOn.rx.lineHigh = s.rx.lineHigh ∧ s.activityOn.rx.filtered = s.rx.filtered ∧
    s.activityOn.rx.nextOrder = s.rx.nextOrder ∧ s.activityOn.rx.candidate = s.rx.candidate ∧
    s.activityOn.rx.lastEdge = s.rx.lastEdge ∧ s.activityOn.matcher = s.matcher ∧
    s.activityOn.tracker = s.tracker ∧ s.activityOn.learn = s.learn ∧ s.activityOn.link = s.link ∧
    s.activityOn.store = s.store ∧ s.activityOn.supply = s.supply ∧ s.activityOn.doze = s.doze ∧
    s.activityOn.freeUses = s.freeUses ∧ s.activityOn.pending = s.pending := by
  unfold State.activityOn; split <;> simp [State.heldInReset_eq]

@[simp] theorem State.activityOff_frame (s : State) :
   s.activityOff.now = s.now ∧ s.activityOff.heldInReset = s.heldInReset ∧
    s.activityOff.resetLow = s.resetLow ∧ s.activityOff.settings = s.settings ∧
    s.activityOff.lib = s.lib ∧ s.activityOff.queue = s.queue ∧
    s.activityOff.engine.state = s.engine.state ∧ s.activityOff.engine.current = s.engine.current ∧
    s.activityOff.engine.deadline = s.engine.deadline ∧
    s.activityOff.engine.buffer = s.engine.buffer ∧
    s.activityOff.engine.position = s.engine.position ∧ s.activityOff.carrier = s.carrier ∧
    s.activityOff.ind = s.ind ∧ s.activityOff.keys = s.keys ∧ s.activityOff.kLines = s.kLines ∧
    s.activityOff.rx.lineHigh = s.rx.lineHigh ∧ s.activityOff.rx.filtered = s.rx.filtered ∧
    s.activityOff.rx.burstEnd = s.rx.burstEnd ∧ s.activityOff.rx.markLimit = s.rx.markLimit ∧
    s.activityOff.rx.slotA = s.rx.slotA ∧ s.activityOff.rx.slotB = s.rx.slotB ∧
    s.activityOff.rx.nextOrder = s.rx.nextOrder ∧ s.activityOff.rx.candidate = s.rx.candidate ∧
    s.activityOff.rx.lastEdge = s.rx.lastEdge ∧ s.activityOff.matcher = s.matcher ∧
    s.activityOff.tracker = s.tracker ∧ s.activityOff.learn = s.learn ∧
    s.activityOff.link = s.link ∧ s.activityOff.store = s.store ∧ s.activityOff.supply = s.supply ∧
    s.activityOff.doze = s.doze ∧ s.activityOff.freeUses = s.freeUses ∧
    s.activityOff.pending = s.pending := by
  unfold State.activityOff; split <;> simp [State.heldInReset_eq]

@[simp] theorem State.blankTailExpires_frame (s : State) :
   s.blankTailExpires.now = s.now ∧ s.blankTailExpires.heldInReset = s.heldInReset ∧
    s.blankTailExpires.resetLow = s.resetLow ∧ s.blankTailExpires.settings = s.settings ∧
    s.blankTailExpires.lib = s.lib ∧ s.blankTailExpires.queue = s.queue ∧
    s.blankTailExpires.engine = s.engine ∧ s.blankTailExpires.carrier = s.carrier ∧
    s.blankTailExpires.ind = s.ind ∧ s.blankTailExpires.keys = s.keys ∧
    s.blankTailExpires.kLines = s.kLines ∧ s.blankTailExpires.rx.lineHigh = s.rx.lineHigh ∧
    s.blankTailExpires.rx.filtered = s.rx.filtered ∧
    s.blankTailExpires.rx.burstEnd = s.rx.burstEnd ∧
    s.blankTailExpires.rx.markLimit = s.rx.markLimit ∧ s.blankTailExpires.rx.slotA = s.rx.slotA ∧
    s.blankTailExpires.rx.slotB = s.rx.slotB ∧ s.blankTailExpires.rx.nextOrder = s.rx.nextOrder ∧
    s.blankTailExpires.rx.candidate = s.rx.candidate ∧
    s.blankTailExpires.rx.lastEdge = s.rx.lastEdge ∧ s.blankTailExpires.matcher = s.matcher ∧
    s.blankTailExpires.tracker = s.tracker ∧ s.blankTailExpires.learn = s.learn ∧
    s.blankTailExpires.link = s.link ∧ s.blankTailExpires.store = s.store ∧
    s.blankTailExpires.supply = s.supply ∧ s.blankTailExpires.doze = s.doze ∧
    s.blankTailExpires.freeUses = s.freeUses ∧ s.blankTailExpires.pending = s.pending := by
  unfold State.blankTailExpires; split <;> simp [State.heldInReset_eq]

@[simp] theorem State.receiverOff_frame (s : State) :
   s.receiverOff.now = s.now ∧ s.receiverOff.heldInReset = s.heldInReset ∧
    s.receiverOff.resetLow = s.resetLow ∧ s.receiverOff.settings = s.settings ∧
    s.receiverOff.lib = s.lib ∧ s.receiverOff.queue = s.queue ∧ s.receiverOff.engine = s.engine ∧
    s.receiverOff.carrier = s.carrier ∧ s.receiverOff.ind = s.ind ∧ s.receiverOff.keys = s.keys ∧
    s.receiverOff.kLines = s.kLines ∧ s.receiverOff.rx.lineHigh = s.rx.lineHigh ∧
    s.receiverOff.rx.filtered = s.rx.filtered ∧ s.receiverOff.rx.blankTail = s.rx.blankTail ∧
    s.receiverOff.rx.nextOrder = s.rx.nextOrder ∧ s.receiverOff.rx.candidate = s.rx.candidate ∧
    s.receiverOff.rx.lastEdge = s.rx.lastEdge ∧ s.receiverOff.tracker = s.tracker ∧
    s.receiverOff.learn = s.learn ∧ s.receiverOff.link = s.link ∧ s.receiverOff.store = s.store ∧
    s.receiverOff.supply = s.supply ∧ s.receiverOff.doze = s.doze ∧
    s.receiverOff.freeUses = s.freeUses ∧ s.receiverOff.pending = s.pending := by
  simp [State.heldInReset_eq, State.receiverOff]

@[simp] theorem State.receiverOn_frame (s : State) :
   s.receiverOn.now = s.now ∧ s.receiverOn.heldInReset = s.heldInReset ∧
    s.receiverOn.resetLow = s.resetLow ∧ s.receiverOn.settings = s.settings ∧
    s.receiverOn.lib = s.lib ∧ s.receiverOn.queue = s.queue ∧ s.receiverOn.engine = s.engine ∧
    s.receiverOn.carrier = s.carrier ∧ s.receiverOn.ind = s.ind ∧ s.receiverOn.keys = s.keys ∧
    s.receiverOn.kLines = s.kLines ∧ s.receiverOn.rx.lineHigh = s.rx.lineHigh ∧
    s.receiverOn.rx.blankTail = s.rx.blankTail ∧ s.receiverOn.rx.burstEnd = s.rx.burstEnd ∧
    s.receiverOn.rx.markLimit = s.rx.markLimit ∧ s.receiverOn.rx.slotA = s.rx.slotA ∧
    s.receiverOn.rx.slotB = s.rx.slotB ∧ s.receiverOn.rx.nextOrder = s.rx.nextOrder ∧
    s.receiverOn.rx.lastEdge = s.rx.lastEdge ∧ s.receiverOn.matcher = s.matcher ∧
    s.receiverOn.tracker = s.tracker ∧ s.receiverOn.learn = s.learn ∧ s.receiverOn.link = s.link ∧
    s.receiverOn.store = s.store ∧ s.receiverOn.supply = s.supply ∧ s.receiverOn.doze = s.doze ∧
    s.receiverOn.freeUses = s.freeUses ∧ s.receiverOn.pending = s.pending := by
  simp [State.heldInReset_eq, State.receiverOn]

@[simp] theorem State.discardAfresh_frame (s : State) :
   s.discardAfresh.now = s.now ∧ s.discardAfresh.heldInReset = s.heldInReset ∧
    s.discardAfresh.resetLow = s.resetLow ∧ s.discardAfresh.settings = s.settings ∧
    s.discardAfresh.lib = s.lib ∧ s.discardAfresh.queue = s.queue ∧
    s.discardAfresh.engine = s.engine ∧ s.discardAfresh.carrier = s.carrier ∧
    s.discardAfresh.ind = s.ind ∧ s.discardAfresh.keys = s.keys ∧
    s.discardAfresh.kLines = s.kLines ∧ s.discardAfresh.rx.lineHigh = s.rx.lineHigh ∧
    s.discardAfresh.rx.filtered = s.rx.filtered ∧ s.discardAfresh.rx.blankTail = s.rx.blankTail ∧
    s.discardAfresh.rx.nextOrder = s.rx.nextOrder ∧ s.discardAfresh.rx.candidate = s.rx.candidate ∧
    s.discardAfresh.matcher = s.matcher ∧ s.discardAfresh.tracker = s.tracker ∧
    s.discardAfresh.learn = s.learn ∧ s.discardAfresh.link = s.link ∧
    s.discardAfresh.store = s.store ∧ s.discardAfresh.supply = s.supply ∧
    s.discardAfresh.doze = s.doze ∧ s.discardAfresh.freeUses = s.freeUses ∧
    s.discardAfresh.pending = s.pending := by
  unfold State.discardAfresh; split <;> simp [State.heldInReset_eq]

@[simp] theorem State.polarityChanged_frame (s : State) :
   s.polarityChanged.now = s.now ∧ s.polarityChanged.heldInReset = s.heldInReset ∧
    s.polarityChanged.resetLow = s.resetLow ∧ s.polarityChanged.settings = s.settings ∧
    s.polarityChanged.lib = s.lib ∧ s.polarityChanged.queue = s.queue ∧
    s.polarityChanged.engine = s.engine ∧ s.polarityChanged.carrier = s.carrier ∧
    s.polarityChanged.ind = s.ind ∧ s.polarityChanged.keys = s.keys ∧
    s.polarityChanged.kLines = s.kLines ∧ s.polarityChanged.rx.lineHigh = s.rx.lineHigh ∧
    s.polarityChanged.rx.blankTail = s.rx.blankTail ∧
    s.polarityChanged.rx.nextOrder = s.rx.nextOrder ∧ s.polarityChanged.matcher = s.matcher ∧
    s.polarityChanged.tracker = s.tracker ∧ s.polarityChanged.learn = s.learn ∧
    s.polarityChanged.link = s.link ∧ s.polarityChanged.store = s.store ∧
    s.polarityChanged.supply = s.supply ∧ s.polarityChanged.doze = s.doze ∧
    s.polarityChanged.freeUses = s.freeUses ∧ s.polarityChanged.pending = s.pending := by
  simp [State.heldInReset_eq, State.polarityChanged]

@[simp] theorem State.blankChanged_frame (s : State) :
   s.blankChanged.now = s.now ∧ s.blankChanged.heldInReset = s.heldInReset ∧
    s.blankChanged.resetLow = s.resetLow ∧ s.blankChanged.settings = s.settings ∧
    s.blankChanged.lib = s.lib ∧ s.blankChanged.queue = s.queue ∧ s.blankChanged.engine = s.engine ∧
    s.blankChanged.carrier = s.carrier ∧ s.blankChanged.ind = s.ind ∧ s.blankChanged.keys = s.keys ∧
    s.blankChanged.kLines = s.kLines ∧ s.blankChanged.rx.lineHigh = s.rx.lineHigh ∧
    s.blankChanged.rx.filtered = s.rx.filtered ∧ s.blankChanged.rx.blankTail = s.rx.blankTail ∧
    s.blankChanged.rx.nextOrder = s.rx.nextOrder ∧ s.blankChanged.rx.candidate = s.rx.candidate ∧
    s.blankChanged.rx.lastEdge = s.rx.lastEdge ∧ s.blankChanged.matcher = s.matcher ∧
    s.blankChanged.tracker = s.tracker ∧ s.blankChanged.learn = s.learn ∧
    s.blankChanged.link = s.link ∧ s.blankChanged.store = s.store ∧
    s.blankChanged.supply = s.supply ∧ s.blankChanged.doze = s.doze ∧
    s.blankChanged.freeUses = s.freeUses ∧ s.blankChanged.pending = s.pending := by
  unfold State.blankChanged; (repeat' split) <;> simp [State.heldInReset_eq]

end Sys2Proof.Machine
end

