-- ==== Sys2Proof/Laws/Engine.lean ====
section
/-! SUPPORT. What the Emission Engine leaves unchanged: for each operation one lemma that lists every
field of the state, or of its part, that the operation does not touch. -/

namespace Sys2Proof.Machine

@[simp] theorem State.startTail_frame (s : State) :
   s.startTail.now = s.now ∧ s.startTail.heldInReset = s.heldInReset ∧
    s.startTail.resetLow = s.resetLow ∧ s.startTail.settings = s.settings ∧
    s.startTail.lib = s.lib ∧ s.startTail.queue = s.queue ∧ s.startTail.engine = s.engine ∧
    s.startTail.carrier = s.carrier ∧ s.startTail.keys = s.keys ∧ s.startTail.kLines = s.kLines ∧
    s.startTail.rx = s.rx ∧ s.startTail.matcher = s.matcher ∧ s.startTail.tracker = s.tracker ∧
    s.startTail.learn = s.learn ∧ s.startTail.link = s.link ∧ s.startTail.store = s.store ∧
    s.startTail.supply = s.supply ∧ s.startTail.doze = s.doze ∧ s.startTail.freeUses = s.freeUses ∧
    s.startTail.pending = s.pending := by
  simp [State.heldInReset_eq, State.startTail]

@[simp] theorem State.releaseInd_frame (s : State) :
   s.releaseInd.now = s.now ∧ s.releaseInd.heldInReset = s.heldInReset ∧
    s.releaseInd.resetLow = s.resetLow ∧ s.releaseInd.settings = s.settings ∧
    s.releaseInd.lib = s.lib ∧ s.releaseInd.queue = s.queue ∧ s.releaseInd.engine = s.engine ∧
    s.releaseInd.carrier = s.carrier ∧ s.releaseInd.keys = s.keys ∧ s.releaseInd.kLines = s.kLines ∧
    s.releaseInd.rx = s.rx ∧ s.releaseInd.matcher = s.matcher ∧ s.releaseInd.tracker = s.tracker ∧
    s.releaseInd.learn = s.learn ∧ s.releaseInd.link = s.link ∧ s.releaseInd.store = s.store ∧
    s.releaseInd.supply = s.supply ∧ s.releaseInd.doze = s.doze ∧
    s.releaseInd.freeUses = s.freeUses ∧ s.releaseInd.pending = s.pending := by
  simp [State.heldInReset_eq, State.releaseInd]

@[simp] theorem State.tailExpires_frame (s : State) :
   s.tailExpires.now = s.now ∧ s.tailExpires.heldInReset = s.heldInReset ∧
    s.tailExpires.resetLow = s.resetLow ∧ s.tailExpires.settings = s.settings ∧
    s.tailExpires.lib = s.lib ∧ s.tailExpires.queue = s.queue ∧ s.tailExpires.engine = s.engine ∧
    s.tailExpires.carrier = s.carrier ∧ s.tailExpires.keys = s.keys ∧
    s.tailExpires.kLines = s.kLines ∧ s.tailExpires.rx = s.rx ∧ s.tailExpires.matcher = s.matcher ∧
    s.tailExpires.tracker = s.tracker ∧ s.tailExpires.learn = s.learn ∧
    s.tailExpires.link = s.link ∧ s.tailExpires.store = s.store ∧ s.tailExpires.supply = s.supply ∧
    s.tailExpires.doze = s.doze ∧ s.tailExpires.freeUses = s.freeUses ∧
    s.tailExpires.pending = s.pending := by
  unfold State.tailExpires; split <;> simp [State.heldInReset_eq]

@[simp] theorem State.startFrame_frame (j : Job) (s : State) :
   (s.startFrame j).now = s.now ∧ (s.startFrame j).heldInReset = s.heldInReset ∧
    (s.startFrame j).resetLow = s.resetLow ∧ (s.startFrame j).settings = s.settings ∧
    (s.startFrame j).lib = s.lib ∧ (s.startFrame j).queue = s.queue ∧
    (s.startFrame j).engine.deadline = s.engine.deadline ∧ (s.startFrame j).keys = s.keys ∧
    (s.startFrame j).kLines = s.kLines ∧ (s.startFrame j).rx.lineHigh = s.rx.lineHigh ∧
    (s.startFrame j).rx.filtered = s.rx.filtered ∧ (s.startFrame j).rx.nextOrder = s.rx.nextOrder ∧
    (s.startFrame j).rx.candidate = s.rx.candidate ∧ (s.startFrame j).rx.lastEdge = s.rx.lastEdge ∧
    (s.startFrame j).matcher = s.matcher ∧ (s.startFrame j).tracker = s.tracker ∧
    (s.startFrame j).learn = s.learn ∧ (s.startFrame j).link = s.link ∧
    (s.startFrame j).store = s.store ∧ (s.startFrame j).supply = s.supply ∧
    (s.startFrame j).doze = s.doze ∧ (s.startFrame j).freeUses = s.freeUses ∧
    (s.startFrame j).pending = s.pending := by
  simp [State.heldInReset_eq, State.startFrame]

@[simp] theorem Library.flip_frame (t : Fin 16) (l : Library) :
   (l.flip t).draft = l.draft := by
  simp [Library.flip]

@[simp] theorem State.flipToggle_frame (j : Job) (s : State) :
   (s.flipToggle j).1.now = s.now ∧ (s.flipToggle j).1.heldInReset = s.heldInReset ∧
    (s.flipToggle j).1.resetLow = s.resetLow ∧ (s.flipToggle j).1.settings = s.settings ∧
    (s.flipToggle j).1.lib.draft = s.lib.draft ∧ (s.flipToggle j).1.queue = s.queue ∧
    (s.flipToggle j).1.engine = s.engine ∧ (s.flipToggle j).1.carrier = s.carrier ∧
    (s.flipToggle j).1.ind = s.ind ∧ (s.flipToggle j).1.keys = s.keys ∧
    (s.flipToggle j).1.kLines = s.kLines ∧ (s.flipToggle j).1.rx = s.rx ∧
    (s.flipToggle j).1.matcher = s.matcher ∧ (s.flipToggle j).1.tracker = s.tracker ∧
    (s.flipToggle j).1.learn = s.learn ∧ (s.flipToggle j).1.link = s.link ∧
    (s.flipToggle j).1.store = s.store ∧ (s.flipToggle j).1.supply = s.supply ∧
    (s.flipToggle j).1.doze = s.doze ∧ (s.flipToggle j).1.freeUses = s.freeUses ∧
    (s.flipToggle j).1.pending = s.pending := by
  unfold State.flipToggle; (repeat' split) <;> simp [State.heldInReset_eq]

@[simp] theorem State.postJobStart_frame (j : Job) (s : State) :
   (s.postJobStart j).now = s.now ∧ (s.postJobStart j).heldInReset = s.heldInReset ∧
    (s.postJobStart j).resetLow = s.resetLow ∧ (s.postJobStart j).settings = s.settings ∧
    (s.postJobStart j).lib = s.lib ∧ (s.postJobStart j).queue = s.queue ∧
    (s.postJobStart j).engine = s.engine ∧ (s.postJobStart j).carrier = s.carrier ∧
    (s.postJobStart j).ind = s.ind ∧ (s.postJobStart j).keys = s.keys ∧
    (s.postJobStart j).kLines = s.kLines ∧ (s.postJobStart j).rx = s.rx ∧
    (s.postJobStart j).matcher = s.matcher ∧ (s.postJobStart j).tracker = s.tracker ∧
    (s.postJobStart j).learn = s.learn ∧ (s.postJobStart j).link.replies = s.link.replies ∧
    (s.postJobStart j).link.intake = s.link.intake ∧
    (s.postJobStart j).link.handler = s.link.handler ∧
    (s.postJobStart j).link.cache = s.link.cache ∧
    (s.postJobStart j).link.receiver = s.link.receiver ∧
    (s.postJobStart j).link.interByte = s.link.interByte ∧
    (s.postJobStart j).link.listenFrom = s.link.listenFrom ∧
    (s.postJobStart j).link.seq = s.link.seq ∧ (s.postJobStart j).link.fast = s.link.fast ∧
    (s.postJobStart j).store = s.store ∧ (s.postJobStart j).supply = s.supply ∧
    (s.postJobStart j).doze = s.doze ∧ (s.postJobStart j).freeUses = s.freeUses ∧
    (s.postJobStart j).pending = s.pending := by
  unfold State.postJobStart; split <;> simp [State.heldInReset_eq]

@[simp] theorem State.startFirst_frame (j : Job) (s : State) :
   (s.startFirst j).now = s.now ∧ (s.startFirst j).heldInReset = s.heldInReset ∧
    (s.startFirst j).resetLow = s.resetLow ∧ (s.startFirst j).settings = s.settings ∧
    (s.startFirst j).lib = s.lib ∧ (s.startFirst j).queue = s.queue ∧
    (s.startFirst j).engine.deadline = s.engine.deadline ∧ (s.startFirst j).keys = s.keys ∧
    (s.startFirst j).kLines = s.kLines ∧ (s.startFirst j).rx.lineHigh = s.rx.lineHigh ∧
    (s.startFirst j).rx.filtered = s.rx.filtered ∧ (s.startFirst j).rx.nextOrder = s.rx.nextOrder ∧
    (s.startFirst j).rx.candidate = s.rx.candidate ∧ (s.startFirst j).rx.lastEdge = s.rx.lastEdge ∧
    (s.startFirst j).matcher = s.matcher ∧ (s.startFirst j).tracker = s.tracker ∧
    (s.startFirst j).learn = s.learn ∧ (s.startFirst j).link.replies = s.link.replies ∧
    (s.startFirst j).link.intake = s.link.intake ∧ (s.startFirst j).link.handler = s.link.handler ∧
    (s.startFirst j).link.cache = s.link.cache ∧ (s.startFirst j).link.receiver = s.link.receiver ∧
    (s.startFirst j).link.interByte = s.link.interByte ∧
    (s.startFirst j).link.listenFrom = s.link.listenFrom ∧ (s.startFirst j).link.seq = s.link.seq ∧
    (s.startFirst j).link.fast = s.link.fast ∧ (s.startFirst j).store = s.store ∧
    (s.startFirst j).supply = s.supply ∧ (s.startFirst j).doze = s.doze ∧
    (s.startFirst j).freeUses = s.freeUses ∧ (s.startFirst j).pending = s.pending := by
  simp [State.heldInReset_eq, State.startFirst]

@[simp] theorem State.beginJob_frame (j : Job) (s : State) :
   (s.beginJob j).now = s.now ∧ (s.beginJob j).heldInReset = s.heldInReset ∧
    (s.beginJob j).resetLow = s.resetLow ∧ (s.beginJob j).settings = s.settings ∧
    (s.beginJob j).lib.draft = s.lib.draft ∧ (s.beginJob j).queue = s.queue ∧
    (s.beginJob j).engine.deadline = s.engine.deadline ∧ (s.beginJob j).keys = s.keys ∧
    (s.beginJob j).kLines = s.kLines ∧ (s.beginJob j).rx.lineHigh = s.rx.lineHigh ∧
    (s.beginJob j).rx.filtered = s.rx.filtered ∧ (s.beginJob j).rx.nextOrder = s.rx.nextOrder ∧
    (s.beginJob j).rx.candidate = s.rx.candidate ∧ (s.beginJob j).rx.lastEdge = s.rx.lastEdge ∧
    (s.beginJob j).matcher = s.matcher ∧ (s.beginJob j).tracker = s.tracker ∧
    (s.beginJob j).learn = s.learn ∧ (s.beginJob j).link.replies = s.link.replies ∧
    (s.beginJob j).link.intake = s.link.intake ∧ (s.beginJob j).link.handler = s.link.handler ∧
    (s.beginJob j).link.cache = s.link.cache ∧ (s.beginJob j).link.receiver = s.link.receiver ∧
    (s.beginJob j).link.interByte = s.link.interByte ∧
    (s.beginJob j).link.listenFrom = s.link.listenFrom ∧ (s.beginJob j).link.seq = s.link.seq ∧
    (s.beginJob j).link.fast = s.link.fast ∧ (s.beginJob j).store = s.store ∧
    (s.beginJob j).supply = s.supply ∧ (s.beginJob j).doze = s.doze ∧
    (s.beginJob j).freeUses = s.freeUses ∧ (s.beginJob j).pending = s.pending := by
  simp [State.heldInReset_eq, State.beginJob]

@[simp] theorem State.resumeJob_frame (j : Job) (s : State) :
   (s.resumeJob j).now = s.now ∧ (s.resumeJob j).heldInReset = s.heldInReset ∧
    (s.resumeJob j).resetLow = s.resetLow ∧ (s.resumeJob j).settings = s.settings ∧
    (s.resumeJob j).lib = s.lib ∧ (s.resumeJob j).queue = s.queue ∧
    (s.resumeJob j).engine.deadline = s.engine.deadline ∧ (s.resumeJob j).keys = s.keys ∧
    (s.resumeJob j).kLines = s.kLines ∧ (s.resumeJob j).rx.lineHigh = s.rx.lineHigh ∧
    (s.resumeJob j).rx.filtered = s.rx.filtered ∧ (s.resumeJob j).rx.nextOrder = s.rx.nextOrder ∧
    (s.resumeJob j).rx.candidate = s.rx.candidate ∧ (s.resumeJob j).rx.lastEdge = s.rx.lastEdge ∧
    (s.resumeJob j).matcher = s.matcher ∧ (s.resumeJob j).tracker = s.tracker ∧
    (s.resumeJob j).learn = s.learn ∧ (s.resumeJob j).link = s.link ∧
    (s.resumeJob j).store = s.store ∧ (s.resumeJob j).supply = s.supply ∧
    (s.resumeJob j).doze = s.doze ∧ (s.resumeJob j).freeUses = s.freeUses ∧
    (s.resumeJob j).pending = s.pending := by
  simp [State.heldInReset_eq, State.resumeJob]

@[simp] theorem State.takeJob_frame (j : Job) (s : State) :
   (s.takeJob j).now = s.now ∧ (s.takeJob j).heldInReset = s.heldInReset ∧
    (s.takeJob j).resetLow = s.resetLow ∧ (s.takeJob j).settings = s.settings ∧
    (s.takeJob j).lib.draft = s.lib.draft ∧ (s.takeJob j).queue = s.queue ∧
    (s.takeJob j).engine.deadline = s.engine.deadline ∧ (s.takeJob j).keys = s.keys ∧
    (s.takeJob j).kLines = s.kLines ∧ (s.takeJob j).rx.lineHigh = s.rx.lineHigh ∧
    (s.takeJob j).rx.filtered = s.rx.filtered ∧ (s.takeJob j).rx.nextOrder = s.rx.nextOrder ∧
    (s.takeJob j).rx.candidate = s.rx.candidate ∧ (s.takeJob j).rx.lastEdge = s.rx.lastEdge ∧
    (s.takeJob j).matcher = s.matcher ∧ (s.takeJob j).tracker = s.tracker ∧
    (s.takeJob j).learn = s.learn ∧ (s.takeJob j).link.replies = s.link.replies ∧
    (s.takeJob j).link.intake = s.link.intake ∧ (s.takeJob j).link.handler = s.link.handler ∧
    (s.takeJob j).link.cache = s.link.cache ∧ (s.takeJob j).link.receiver = s.link.receiver ∧
    (s.takeJob j).link.interByte = s.link.interByte ∧
    (s.takeJob j).link.listenFrom = s.link.listenFrom ∧ (s.takeJob j).link.seq = s.link.seq ∧
    (s.takeJob j).link.fast = s.link.fast ∧ (s.takeJob j).store = s.store ∧
    (s.takeJob j).supply = s.supply ∧ (s.takeJob j).doze = s.doze ∧
    (s.takeJob j).freeUses = s.freeUses ∧ (s.takeJob j).pending = s.pending := by
  unfold State.takeJob; split <;> simp [State.heldInReset_eq]

@[simp] theorem State.takeHead_frame (s : State) :
   s.takeHead.now = s.now ∧ s.takeHead.heldInReset = s.heldInReset ∧
    s.takeHead.resetLow = s.resetLow ∧ s.takeHead.settings = s.settings ∧
    s.takeHead.lib.draft = s.lib.draft ∧ s.takeHead.queue.nextId = s.queue.nextId ∧
    s.takeHead.engine.deadline = s.engine.deadline ∧ s.takeHead.keys = s.keys ∧
    s.takeHead.kLines = s.kLines ∧ s.takeHead.rx.lineHigh = s.rx.lineHigh ∧
    s.takeHead.rx.filtered = s.rx.filtered ∧ s.takeHead.rx.nextOrder = s.rx.nextOrder ∧
    s.takeHead.rx.candidate = s.rx.candidate ∧ s.takeHead.rx.lastEdge = s.rx.lastEdge ∧
    s.takeHead.matcher = s.matcher ∧ s.takeHead.tracker = s.tracker ∧ s.takeHead.learn = s.learn ∧
    s.takeHead.link.replies = s.link.replies ∧ s.takeHead.link.intake = s.link.intake ∧
    s.takeHead.link.handler = s.link.handler ∧ s.takeHead.link.cache = s.link.cache ∧
    s.takeHead.link.receiver = s.link.receiver ∧ s.takeHead.link.interByte = s.link.interByte ∧
    s.takeHead.link.listenFrom = s.link.listenFrom ∧ s.takeHead.link.seq = s.link.seq ∧
    s.takeHead.link.fast = s.link.fast ∧ s.takeHead.store = s.store ∧ s.takeHead.supply = s.supply ∧
    s.takeHead.doze = s.doze ∧ s.takeHead.freeUses = s.freeUses ∧
    s.takeHead.pending = s.pending := by
  unfold State.takeHead; split <;> simp [State.heldInReset_eq]

@[simp] theorem State.takeOrIdle_frame (s : State) :
   s.takeOrIdle.now = s.now ∧ s.takeOrIdle.heldInReset = s.heldInReset ∧
    s.takeOrIdle.resetLow = s.resetLow ∧ s.takeOrIdle.settings = s.settings ∧
    s.takeOrIdle.lib.draft = s.lib.draft ∧ s.takeOrIdle.queue.nextId = s.queue.nextId ∧
    s.takeOrIdle.engine.deadline = s.engine.deadline ∧ s.takeOrIdle.keys = s.keys ∧
    s.takeOrIdle.kLines = s.kLines ∧ s.takeOrIdle.rx.lineHigh = s.rx.lineHigh ∧
    s.takeOrIdle.rx.filtered = s.rx.filtered ∧ s.takeOrIdle.rx.nextOrder = s.rx.nextOrder ∧
    s.takeOrIdle.rx.candidate = s.rx.candidate ∧ s.takeOrIdle.rx.lastEdge = s.rx.lastEdge ∧
    s.takeOrIdle.matcher = s.matcher ∧ s.takeOrIdle.tracker = s.tracker ∧
    s.takeOrIdle.learn = s.learn ∧ s.takeOrIdle.link.replies = s.link.replies ∧
    s.takeOrIdle.link.intake = s.link.intake ∧ s.takeOrIdle.link.handler = s.link.handler ∧
    s.takeOrIdle.link.cache = s.link.cache ∧ s.takeOrIdle.link.receiver = s.link.receiver ∧
    s.takeOrIdle.link.interByte = s.link.interByte ∧
    s.takeOrIdle.link.listenFrom = s.link.listenFrom ∧ s.takeOrIdle.link.seq = s.link.seq ∧
    s.takeOrIdle.link.fast = s.link.fast ∧ s.takeOrIdle.store = s.store ∧
    s.takeOrIdle.supply = s.supply ∧ s.takeOrIdle.doze = s.doze ∧
    s.takeOrIdle.freeUses = s.freeUses ∧ s.takeOrIdle.pending = s.pending := by
  unfold State.takeOrIdle; split <;> simp [State.heldInReset_eq]

@[simp] theorem State.admitted_frame (s : State) :
   s.admitted.now = s.now ∧ s.admitted.heldInReset = s.heldInReset ∧
    s.admitted.resetLow = s.resetLow ∧ s.admitted.settings = s.settings ∧
    s.admitted.lib.draft = s.lib.draft ∧ s.admitted.queue.nextId = s.queue.nextId ∧
    s.admitted.engine.deadline = s.engine.deadline ∧ s.admitted.keys = s.keys ∧
    s.admitted.kLines = s.kLines ∧ s.admitted.rx.lineHigh = s.rx.lineHigh ∧
    s.admitted.rx.filtered = s.rx.filtered ∧ s.admitted.rx.nextOrder = s.rx.nextOrder ∧
    s.admitted.rx.candidate = s.rx.candidate ∧ s.admitted.rx.lastEdge = s.rx.lastEdge ∧
    s.admitted.matcher = s.matcher ∧ s.admitted.tracker = s.tracker ∧ s.admitted.learn = s.learn ∧
    s.admitted.link.replies = s.link.replies ∧ s.admitted.link.intake = s.link.intake ∧
    s.admitted.link.handler = s.link.handler ∧ s.admitted.link.cache = s.link.cache ∧
    s.admitted.link.receiver = s.link.receiver ∧ s.admitted.link.interByte = s.link.interByte ∧
    s.admitted.link.listenFrom = s.link.listenFrom ∧ s.admitted.link.seq = s.link.seq ∧
    s.admitted.link.fast = s.link.fast ∧ s.admitted.store = s.store ∧ s.admitted.supply = s.supply ∧
    s.admitted.doze = s.doze ∧ s.admitted.freeUses = s.freeUses ∧
    s.admitted.pending = s.pending := by
  unfold State.admitted; split <;> simp [State.heldInReset_eq]

@[simp] theorem State.endCurrent_frame (j : Job) (reason : EndReason) (s : State) :
   (s.endCurrent j reason).now = s.now ∧ (s.endCurrent j reason).heldInReset = s.heldInReset ∧
    (s.endCurrent j reason).resetLow = s.resetLow ∧ (s.endCurrent j reason).settings = s.settings ∧
    (s.endCurrent j reason).lib.draft = s.lib.draft ∧ (s.endCurrent j reason).queue = s.queue ∧
    (s.endCurrent j reason).engine.state = s.engine.state ∧
    (s.endCurrent j reason).engine.emitting = s.engine.emitting ∧
    (s.endCurrent j reason).engine.deadline = s.engine.deadline ∧
    (s.endCurrent j reason).engine.buffer = s.engine.buffer ∧
    (s.endCurrent j reason).engine.position = s.engine.position ∧
    (s.endCurrent j reason).carrier = s.carrier ∧ (s.endCurrent j reason).ind = s.ind ∧
    (s.endCurrent j reason).kLines = s.kLines ∧ (s.endCurrent j reason).rx = s.rx ∧
    (s.endCurrent j reason).matcher = s.matcher ∧ (s.endCurrent j reason).tracker = s.tracker ∧
    (s.endCurrent j reason).learn = s.learn ∧
    (s.endCurrent j reason).link.replies = s.link.replies ∧
    (s.endCurrent j reason).link.intake = s.link.intake ∧
    (s.endCurrent j reason).link.handler = s.link.handler ∧
    (s.endCurrent j reason).link.cache = s.link.cache ∧
    (s.endCurrent j reason).link.receiver = s.link.receiver ∧
    (s.endCurrent j reason).link.interByte = s.link.interByte ∧
    (s.endCurrent j reason).link.listenFrom = s.link.listenFrom ∧
    (s.endCurrent j reason).link.seq = s.link.seq ∧
    (s.endCurrent j reason).link.fast = s.link.fast ∧ (s.endCurrent j reason).store = s.store ∧
    (s.endCurrent j reason).supply = s.supply ∧ (s.endCurrent j reason).doze = s.doze ∧
    (s.endCurrent j reason).freeUses = s.freeUses ∧
    (s.endCurrent j reason).pending = s.pending := by
  simp [State.heldInReset_eq, State.endCurrent]

@[simp] theorem State.stopPosition_frame (s : State) :
   s.stopPosition.now = s.now ∧ s.stopPosition.heldInReset = s.heldInReset ∧
    s.stopPosition.resetLow = s.resetLow ∧ s.stopPosition.settings = s.settings ∧
    s.stopPosition.lib = s.lib ∧ s.stopPosition.queue = s.queue ∧
    s.stopPosition.engine.state = s.engine.state ∧
    s.stopPosition.engine.current = s.engine.current ∧
    s.stopPosition.engine.emitting = s.engine.emitting ∧
    s.stopPosition.engine.deadline = s.engine.deadline ∧
    s.stopPosition.engine.buffer = s.engine.buffer ∧ s.stopPosition.carrier = s.carrier ∧
    s.stopPosition.ind = s.ind ∧ s.stopPosition.keys = s.keys ∧ s.stopPosition.kLines = s.kLines ∧
    s.stopPosition.rx = s.rx ∧ s.stopPosition.matcher = s.matcher ∧
    s.stopPosition.tracker = s.tracker ∧ s.stopPosition.learn = s.learn ∧
    s.stopPosition.link = s.link ∧ s.stopPosition.store = s.store ∧
    s.stopPosition.supply = s.supply ∧ s.stopPosition.doze = s.doze ∧
    s.stopPosition.freeUses = s.freeUses ∧ s.stopPosition.pending = s.pending := by
  simp [State.heldInReset_eq, State.stopPosition]

@[simp] theorem State.frameCounted_frame (j : Job) (p : Position) (s : State) :
   (s.frameCounted j p).now = s.now ∧ (s.frameCounted j p).heldInReset = s.heldInReset ∧
    (s.frameCounted j p).resetLow = s.resetLow ∧ (s.frameCounted j p).settings = s.settings ∧
    (s.frameCounted j p).lib = s.lib ∧ (s.frameCounted j p).queue = s.queue ∧
    (s.frameCounted j p).engine.buffer = s.engine.buffer ∧
    (s.frameCounted j p).carrier = s.carrier ∧ (s.frameCounted j p).ind = s.ind ∧
    (s.frameCounted j p).keys = s.keys ∧ (s.frameCounted j p).kLines = s.kLines ∧
    (s.frameCounted j p).rx.lineHigh = s.rx.lineHigh ∧
    (s.frameCounted j p).rx.filtered = s.rx.filtered ∧
    (s.frameCounted j p).rx.burstEnd = s.rx.burstEnd ∧
    (s.frameCounted j p).rx.markLimit = s.rx.markLimit ∧
    (s.frameCounted j p).rx.slotA = s.rx.slotA ∧ (s.frameCounted j p).rx.slotB = s.rx.slotB ∧
    (s.frameCounted j p).rx.nextOrder = s.rx.nextOrder ∧
    (s.frameCounted j p).rx.candidate = s.rx.candidate ∧
    (s.frameCounted j p).rx.lastEdge = s.rx.lastEdge ∧ (s.frameCounted j p).matcher = s.matcher ∧
    (s.frameCounted j p).tracker = s.tracker ∧ (s.frameCounted j p).learn = s.learn ∧
    (s.frameCounted j p).link = s.link ∧ (s.frameCounted j p).store = s.store ∧
    (s.frameCounted j p).supply = s.supply ∧ (s.frameCounted j p).doze = s.doze ∧
    (s.frameCounted j p).freeUses = s.freeUses ∧ (s.frameCounted j p).pending = s.pending := by
  simp [State.heldInReset_eq, State.frameCounted]

@[simp] theorem State.decideAtFrame_frame (j : Job) (s : State) :
   (s.decideAtFrame j).now = s.now ∧ (s.decideAtFrame j).heldInReset = s.heldInReset ∧
    (s.decideAtFrame j).resetLow = s.resetLow ∧ (s.decideAtFrame j).settings = s.settings ∧
    (s.decideAtFrame j).lib.draft = s.lib.draft ∧ (s.decideAtFrame j).queue = s.queue ∧
    (s.decideAtFrame j).engine.state = s.engine.state ∧
    (s.decideAtFrame j).engine.emitting = s.engine.emitting ∧
    (s.decideAtFrame j).engine.deadline = s.engine.deadline ∧
    (s.decideAtFrame j).engine.buffer = s.engine.buffer ∧
    (s.decideAtFrame j).engine.position = s.engine.position ∧
    (s.decideAtFrame j).carrier = s.carrier ∧ (s.decideAtFrame j).kLines = s.kLines ∧
    (s.decideAtFrame j).rx = s.rx ∧ (s.decideAtFrame j).matcher = s.matcher ∧
    (s.decideAtFrame j).tracker = s.tracker ∧ (s.decideAtFrame j).learn = s.learn ∧
    (s.decideAtFrame j).link.replies = s.link.replies ∧
    (s.decideAtFrame j).link.intake = s.link.intake ∧
    (s.decideAtFrame j).link.handler = s.link.handler ∧
    (s.decideAtFrame j).link.cache = s.link.cache ∧
    (s.decideAtFrame j).link.receiver = s.link.receiver ∧
    (s.decideAtFrame j).link.interByte = s.link.interByte ∧
    (s.decideAtFrame j).link.listenFrom = s.link.listenFrom ∧
    (s.decideAtFrame j).link.seq = s.link.seq ∧ (s.decideAtFrame j).link.fast = s.link.fast ∧
    (s.decideAtFrame j).store = s.store ∧ (s.decideAtFrame j).supply = s.supply ∧
    (s.decideAtFrame j).doze = s.doze ∧ (s.decideAtFrame j).freeUses = s.freeUses ∧
    (s.decideAtFrame j).pending = s.pending := by
  unfold State.decideAtFrame; split <;> simp [State.heldInReset_eq]

@[simp] theorem State.frameEnds_frame (j : Job) (p : Position) (s : State) :
   (s.frameEnds j p).now = s.now ∧ (s.frameEnds j p).heldInReset = s.heldInReset ∧
    (s.frameEnds j p).resetLow = s.resetLow ∧ (s.frameEnds j p).settings = s.settings ∧
    (s.frameEnds j p).lib.draft = s.lib.draft ∧ (s.frameEnds j p).queue = s.queue ∧
    (s.frameEnds j p).engine.buffer = s.engine.buffer ∧ (s.frameEnds j p).carrier = s.carrier ∧
    (s.frameEnds j p).kLines = s.kLines ∧ (s.frameEnds j p).rx.lineHigh = s.rx.lineHigh ∧
    (s.frameEnds j p).rx.filtered = s.rx.filtered ∧ (s.frameEnds j p).rx.burstEnd = s.rx.burstEnd ∧
    (s.frameEnds j p).rx.markLimit = s.rx.markLimit ∧ (s.frameEnds j p).rx.slotA = s.rx.slotA ∧
    (s.frameEnds j p).rx.slotB = s.rx.slotB ∧ (s.frameEnds j p).rx.nextOrder = s.rx.nextOrder ∧
    (s.frameEnds j p).rx.candidate = s.rx.candidate ∧
    (s.frameEnds j p).rx.lastEdge = s.rx.lastEdge ∧ (s.frameEnds j p).matcher = s.matcher ∧
    (s.frameEnds j p).tracker = s.tracker ∧ (s.frameEnds j p).learn = s.learn ∧
    (s.frameEnds j p).link.replies = s.link.replies ∧
    (s.frameEnds j p).link.intake = s.link.intake ∧
    (s.frameEnds j p).link.handler = s.link.handler ∧ (s.frameEnds j p).link.cache = s.link.cache ∧
    (s.frameEnds j p).link.receiver = s.link.receiver ∧
    (s.frameEnds j p).link.interByte = s.link.interByte ∧
    (s.frameEnds j p).link.listenFrom = s.link.listenFrom ∧
    (s.frameEnds j p).link.seq = s.link.seq ∧ (s.frameEnds j p).link.fast = s.link.fast ∧
    (s.frameEnds j p).store = s.store ∧ (s.frameEnds j p).supply = s.supply ∧
    (s.frameEnds j p).doze = s.doze ∧ (s.frameEnds j p).freeUses = s.freeUses ∧
    (s.frameEnds j p).pending = s.pending := by
  simp [State.heldInReset_eq, State.frameEnds]

@[simp] theorem State.intervalEnds_frame (s : State) :
   s.intervalEnds.now = s.now ∧ s.intervalEnds.heldInReset = s.heldInReset ∧
    s.intervalEnds.resetLow = s.resetLow ∧ s.intervalEnds.settings = s.settings ∧
    s.intervalEnds.lib.draft = s.lib.draft ∧ s.intervalEnds.queue = s.queue ∧
    s.intervalEnds.engine.buffer = s.engine.buffer ∧ s.intervalEnds.carrier = s.carrier ∧
    s.intervalEnds.kLines = s.kLines ∧ s.intervalEnds.rx.lineHigh = s.rx.lineHigh ∧
    s.intervalEnds.rx.filtered = s.rx.filtered ∧ s.intervalEnds.rx.burstEnd = s.rx.burstEnd ∧
    s.intervalEnds.rx.markLimit = s.rx.markLimit ∧ s.intervalEnds.rx.slotA = s.rx.slotA ∧
    s.intervalEnds.rx.slotB = s.rx.slotB ∧ s.intervalEnds.rx.nextOrder = s.rx.nextOrder ∧
    s.intervalEnds.rx.candidate = s.rx.candidate ∧ s.intervalEnds.rx.lastEdge = s.rx.lastEdge ∧
    s.intervalEnds.matcher = s.matcher ∧ s.intervalEnds.tracker = s.tracker ∧
    s.intervalEnds.learn = s.learn ∧ s.intervalEnds.link.replies = s.link.replies ∧
    s.intervalEnds.link.intake = s.link.intake ∧ s.intervalEnds.link.handler = s.link.handler ∧
    s.intervalEnds.link.cache = s.link.cache ∧ s.intervalEnds.link.receiver = s.link.receiver ∧
    s.intervalEnds.link.interByte = s.link.interByte ∧
    s.intervalEnds.link.listenFrom = s.link.listenFrom ∧ s.intervalEnds.link.seq = s.link.seq ∧
    s.intervalEnds.link.fast = s.link.fast ∧ s.intervalEnds.store = s.store ∧
    s.intervalEnds.supply = s.supply ∧ s.intervalEnds.doze = s.doze ∧
    s.intervalEnds.freeUses = s.freeUses ∧ s.intervalEnds.pending = s.pending := by
  unfold State.intervalEnds; (repeat' split) <;> simp [State.heldInReset_eq]

@[simp] theorem State.park_frame (j u : Job) (rest : List Job) (s : State) :
   (s.park j u rest).now = s.now ∧ (s.park j u rest).heldInReset = s.heldInReset ∧
    (s.park j u rest).resetLow = s.resetLow ∧ (s.park j u rest).settings = s.settings ∧
    (s.park j u rest).lib.draft = s.lib.draft ∧ (s.park j u rest).queue.nextId = s.queue.nextId ∧
    (s.park j u rest).engine.deadline = s.engine.deadline ∧ (s.park j u rest).keys = s.keys ∧
    (s.park j u rest).kLines = s.kLines ∧ (s.park j u rest).rx.lineHigh = s.rx.lineHigh ∧
    (s.park j u rest).rx.filtered = s.rx.filtered ∧
    (s.park j u rest).rx.nextOrder = s.rx.nextOrder ∧
    (s.park j u rest).rx.candidate = s.rx.candidate ∧
    (s.park j u rest).rx.lastEdge = s.rx.lastEdge ∧ (s.park j u rest).matcher = s.matcher ∧
    (s.park j u rest).tracker = s.tracker ∧ (s.park j u rest).learn = s.learn ∧
    (s.park j u rest).link.replies = s.link.replies ∧
    (s.park j u rest).link.intake = s.link.intake ∧
    (s.park j u rest).link.handler = s.link.handler ∧ (s.park j u rest).link.cache = s.link.cache ∧
    (s.park j u rest).link.receiver = s.link.receiver ∧
    (s.park j u rest).link.interByte = s.link.interByte ∧
    (s.park j u rest).link.listenFrom = s.link.listenFrom ∧
    (s.park j u rest).link.seq = s.link.seq ∧ (s.park j u rest).link.fast = s.link.fast ∧
    (s.park j u rest).store = s.store ∧ (s.park j u rest).supply = s.supply ∧
    (s.park j u rest).doze = s.doze ∧ (s.park j u rest).freeUses = s.freeUses ∧
    (s.park j u rest).pending = s.pending := by
  simp [State.heldInReset_eq, State.park]

@[simp] theorem State.parkOrGoOn_frame (j : Job) (s : State) :
   (s.parkOrGoOn j).now = s.now ∧ (s.parkOrGoOn j).heldInReset = s.heldInReset ∧
    (s.parkOrGoOn j).resetLow = s.resetLow ∧ (s.parkOrGoOn j).settings = s.settings ∧
    (s.parkOrGoOn j).lib.draft = s.lib.draft ∧ (s.parkOrGoOn j).queue.nextId = s.queue.nextId ∧
    (s.parkOrGoOn j).engine.deadline = s.engine.deadline ∧ (s.parkOrGoOn j).keys = s.keys ∧
    (s.parkOrGoOn j).kLines = s.kLines ∧ (s.parkOrGoOn j).rx.lineHigh = s.rx.lineHigh ∧
    (s.parkOrGoOn j).rx.filtered = s.rx.filtered ∧ (s.parkOrGoOn j).rx.nextOrder = s.rx.nextOrder ∧
    (s.parkOrGoOn j).rx.candidate = s.rx.candidate ∧ (s.parkOrGoOn j).rx.lastEdge = s.rx.lastEdge ∧
    (s.parkOrGoOn j).matcher = s.matcher ∧ (s.parkOrGoOn j).tracker = s.tracker ∧
    (s.parkOrGoOn j).learn = s.learn ∧ (s.parkOrGoOn j).link.replies = s.link.replies ∧
    (s.parkOrGoOn j).link.intake = s.link.intake ∧ (s.parkOrGoOn j).link.handler = s.link.handler ∧
    (s.parkOrGoOn j).link.cache = s.link.cache ∧ (s.parkOrGoOn j).link.receiver = s.link.receiver ∧
    (s.parkOrGoOn j).link.interByte = s.link.interByte ∧
    (s.parkOrGoOn j).link.listenFrom = s.link.listenFrom ∧ (s.parkOrGoOn j).link.seq = s.link.seq ∧
    (s.parkOrGoOn j).link.fast = s.link.fast ∧ (s.parkOrGoOn j).store = s.store ∧
    (s.parkOrGoOn j).supply = s.supply ∧ (s.parkOrGoOn j).doze = s.doze ∧
    (s.parkOrGoOn j).freeUses = s.freeUses ∧ (s.parkOrGoOn j).pending = s.pending := by
  unfold State.parkOrGoOn; (repeat' split) <;> simp [State.heldInReset_eq]

@[simp] theorem State.afterSpacingEnd_frame (s : State) :
   s.afterSpacingEnd.now = s.now ∧ s.afterSpacingEnd.heldInReset = s.heldInReset ∧
    s.afterSpacingEnd.resetLow = s.resetLow ∧ s.afterSpacingEnd.settings = s.settings ∧
    s.afterSpacingEnd.lib.draft = s.lib.draft ∧ s.afterSpacingEnd.queue.nextId = s.queue.nextId ∧
    s.afterSpacingEnd.engine.deadline = s.engine.deadline ∧ s.afterSpacingEnd.keys = s.keys ∧
    s.afterSpacingEnd.kLines = s.kLines ∧ s.afterSpacingEnd.rx.lineHigh = s.rx.lineHigh ∧
    s.afterSpacingEnd.rx.filtered = s.rx.filtered ∧
    s.afterSpacingEnd.rx.nextOrder = s.rx.nextOrder ∧
    s.afterSpacingEnd.rx.candidate = s.rx.candidate ∧
    s.afterSpacingEnd.rx.lastEdge = s.rx.lastEdge ∧ s.afterSpacingEnd.matcher = s.matcher ∧
    s.afterSpacingEnd.tracker = s.tracker ∧ s.afterSpacingEnd.learn = s.learn ∧
    s.afterSpacingEnd.link.replies = s.link.replies ∧
    s.afterSpacingEnd.link.intake = s.link.intake ∧
    s.afterSpacingEnd.link.handler = s.link.handler ∧ s.afterSpacingEnd.link.cache = s.link.cache ∧
    s.afterSpacingEnd.link.receiver = s.link.receiver ∧
    s.afterSpacingEnd.link.interByte = s.link.interByte ∧
    s.afterSpacingEnd.link.listenFrom = s.link.listenFrom ∧
    s.afterSpacingEnd.link.seq = s.link.seq ∧ s.afterSpacingEnd.link.fast = s.link.fast ∧
    s.afterSpacingEnd.store = s.store ∧ s.afterSpacingEnd.supply = s.supply ∧
    s.afterSpacingEnd.doze = s.doze ∧ s.afterSpacingEnd.freeUses = s.freeUses ∧
    s.afterSpacingEnd.pending = s.pending := by
  unfold State.afterSpacingEnd; split <;> simp [State.heldInReset_eq]

@[simp] theorem State.spacingEnds_frame (s : State) :
   s.spacingEnds.now = s.now ∧ s.spacingEnds.heldInReset = s.heldInReset ∧
    s.spacingEnds.resetLow = s.resetLow ∧ s.spacingEnds.settings = s.settings ∧
    s.spacingEnds.lib.draft = s.lib.draft ∧ s.spacingEnds.queue.nextId = s.queue.nextId ∧
    s.spacingEnds.engine.deadline = s.engine.deadline ∧ s.spacingEnds.kLines = s.kLines ∧
    s.spacingEnds.rx.lineHigh = s.rx.lineHigh ∧ s.spacingEnds.rx.filtered = s.rx.filtered ∧
    s.spacingEnds.rx.nextOrder = s.rx.nextOrder ∧ s.spacingEnds.rx.candidate = s.rx.candidate ∧
    s.spacingEnds.rx.lastEdge = s.rx.lastEdge ∧ s.spacingEnds.matcher = s.matcher ∧
    s.spacingEnds.tracker = s.tracker ∧ s.spacingEnds.learn = s.learn ∧
    s.spacingEnds.link.replies = s.link.replies ∧ s.spacingEnds.link.intake = s.link.intake ∧
    s.spacingEnds.link.handler = s.link.handler ∧ s.spacingEnds.link.cache = s.link.cache ∧
    s.spacingEnds.link.receiver = s.link.receiver ∧
    s.spacingEnds.link.interByte = s.link.interByte ∧
    s.spacingEnds.link.listenFrom = s.link.listenFrom ∧ s.spacingEnds.link.seq = s.link.seq ∧
    s.spacingEnds.link.fast = s.link.fast ∧ s.spacingEnds.store = s.store ∧
    s.spacingEnds.supply = s.supply ∧ s.spacingEnds.doze = s.doze ∧
    s.spacingEnds.freeUses = s.freeUses ∧ s.spacingEnds.pending = s.pending := by
  unfold State.spacingEnds; (repeat' split) <;> simp [State.heldInReset_eq]

@[simp] theorem State.cutFrame_frame (s : State) :
   s.cutFrame.now = s.now ∧ s.cutFrame.heldInReset = s.heldInReset ∧
    s.cutFrame.resetLow = s.resetLow ∧ s.cutFrame.settings = s.settings ∧ s.cutFrame.lib = s.lib ∧
    s.cutFrame.queue = s.queue ∧ s.cutFrame.engine.state = s.engine.state ∧
    s.cutFrame.engine.current = s.engine.current ∧ s.cutFrame.engine.buffer = s.engine.buffer ∧
    s.cutFrame.carrier = s.carrier ∧ s.cutFrame.ind = s.ind ∧ s.cutFrame.keys = s.keys ∧
    s.cutFrame.kLines = s.kLines ∧ s.cutFrame.rx.lineHigh = s.rx.lineHigh ∧
    s.cutFrame.rx.filtered = s.rx.filtered ∧ s.cutFrame.rx.burstEnd = s.rx.burstEnd ∧
    s.cutFrame.rx.markLimit = s.rx.markLimit ∧ s.cutFrame.rx.slotA = s.rx.slotA ∧
    s.cutFrame.rx.slotB = s.rx.slotB ∧ s.cutFrame.rx.nextOrder = s.rx.nextOrder ∧
    s.cutFrame.rx.candidate = s.rx.candidate ∧ s.cutFrame.rx.lastEdge = s.rx.lastEdge ∧
    s.cutFrame.matcher = s.matcher ∧ s.cutFrame.tracker = s.tracker ∧ s.cutFrame.learn = s.learn ∧
    s.cutFrame.link = s.link ∧ s.cutFrame.store = s.store ∧ s.cutFrame.supply = s.supply ∧
    s.cutFrame.doze = s.doze ∧ s.cutFrame.freeUses = s.freeUses ∧
    s.cutFrame.pending = s.pending := by
  simp [State.heldInReset_eq, State.cutFrame]

@[simp] theorem State.cutCurrent_frame (s : State) :
   s.cutCurrent.now = s.now ∧ s.cutCurrent.heldInReset = s.heldInReset ∧
    s.cutCurrent.resetLow = s.resetLow ∧ s.cutCurrent.settings = s.settings ∧
    s.cutCurrent.lib.draft = s.lib.draft ∧ s.cutCurrent.queue = s.queue ∧
    s.cutCurrent.engine.state = s.engine.state ∧ s.cutCurrent.engine.emitting = s.engine.emitting ∧
    s.cutCurrent.engine.deadline = s.engine.deadline ∧
    s.cutCurrent.engine.buffer = s.engine.buffer ∧
    s.cutCurrent.engine.position = s.engine.position ∧ s.cutCurrent.carrier = s.carrier ∧
    s.cutCurrent.ind = s.ind ∧ s.cutCurrent.kLines = s.kLines ∧ s.cutCurrent.rx = s.rx ∧
    s.cutCurrent.matcher = s.matcher ∧ s.cutCurrent.tracker = s.tracker ∧
    s.cutCurrent.learn = s.learn ∧ s.cutCurrent.link.replies = s.link.replies ∧
    s.cutCurrent.link.intake = s.link.intake ∧ s.cutCurrent.link.handler = s.link.handler ∧
    s.cutCurrent.link.cache = s.link.cache ∧ s.cutCurrent.link.receiver = s.link.receiver ∧
    s.cutCurrent.link.interByte = s.link.interByte ∧
    s.cutCurrent.link.listenFrom = s.link.listenFrom ∧ s.cutCurrent.link.seq = s.link.seq ∧
    s.cutCurrent.link.fast = s.link.fast ∧ s.cutCurrent.store = s.store ∧
    s.cutCurrent.supply = s.supply ∧ s.cutCurrent.doze = s.doze ∧
    s.cutCurrent.freeUses = s.freeUses ∧ s.cutCurrent.pending = s.pending := by
  unfold State.cutCurrent; split <;> simp [State.heldInReset_eq]

@[simp] theorem State.enterStopped_frame (s : State) :
   s.enterStopped.now = s.now ∧ s.enterStopped.heldInReset = s.heldInReset ∧
    s.enterStopped.resetLow = s.resetLow ∧ s.enterStopped.settings = s.settings ∧
    s.enterStopped.lib = s.lib ∧ s.enterStopped.queue = s.queue ∧
    s.enterStopped.engine.current = s.engine.current ∧
    s.enterStopped.engine.emitting = s.engine.emitting ∧
    s.enterStopped.engine.deadline = s.engine.deadline ∧
    s.enterStopped.engine.buffer = s.engine.buffer ∧
    s.enterStopped.engine.position = s.engine.position ∧ s.enterStopped.carrier = s.carrier ∧
    s.enterStopped.keys = s.keys ∧ s.enterStopped.kLines = s.kLines ∧ s.enterStopped.rx = s.rx ∧
    s.enterStopped.matcher = s.matcher ∧ s.enterStopped.tracker = s.tracker ∧
    s.enterStopped.learn = s.learn ∧ s.enterStopped.link = s.link ∧ s.enterStopped.store = s.store ∧
    s.enterStopped.supply = s.supply ∧ s.enterStopped.doze = s.doze ∧
    s.enterStopped.freeUses = s.freeUses ∧ s.enterStopped.pending = s.pending := by
  simp [State.heldInReset_eq, State.enterStopped]

@[simp] theorem State.stopEngine_frame (s : State) :
   s.stopEngine.now = s.now ∧ s.stopEngine.heldInReset = s.heldInReset ∧
    s.stopEngine.resetLow = s.resetLow ∧ s.stopEngine.settings = s.settings ∧
    s.stopEngine.lib.draft = s.lib.draft ∧ s.stopEngine.queue = s.queue ∧
    s.stopEngine.engine.buffer = s.engine.buffer ∧ s.stopEngine.carrier = s.carrier ∧
    s.stopEngine.kLines = s.kLines ∧ s.stopEngine.rx.lineHigh = s.rx.lineHigh ∧
    s.stopEngine.rx.filtered = s.rx.filtered ∧ s.stopEngine.rx.burstEnd = s.rx.burstEnd ∧
    s.stopEngine.rx.markLimit = s.rx.markLimit ∧ s.stopEngine.rx.slotA = s.rx.slotA ∧
    s.stopEngine.rx.slotB = s.rx.slotB ∧ s.stopEngine.rx.nextOrder = s.rx.nextOrder ∧
    s.stopEngine.rx.candidate = s.rx.candidate ∧ s.stopEngine.rx.lastEdge = s.rx.lastEdge ∧
    s.stopEngine.matcher = s.matcher ∧ s.stopEngine.tracker = s.tracker ∧
    s.stopEngine.learn = s.learn ∧ s.stopEngine.link.replies = s.link.replies ∧
    s.stopEngine.link.intake = s.link.intake ∧ s.stopEngine.link.handler = s.link.handler ∧
    s.stopEngine.link.cache = s.link.cache ∧ s.stopEngine.link.receiver = s.link.receiver ∧
    s.stopEngine.link.interByte = s.link.interByte ∧
    s.stopEngine.link.listenFrom = s.link.listenFrom ∧ s.stopEngine.link.seq = s.link.seq ∧
    s.stopEngine.link.fast = s.link.fast ∧ s.stopEngine.store = s.store ∧
    s.stopEngine.supply = s.supply ∧ s.stopEngine.doze = s.doze ∧
    s.stopEngine.freeUses = s.freeUses ∧ s.stopEngine.pending = s.pending := by
  unfold State.stopEngine; split <;> simp [State.heldInReset_eq]

@[simp] theorem State.resumeEngine_frame (s : State) :
   s.resumeEngine.now = s.now ∧ s.resumeEngine.heldInReset = s.heldInReset ∧
    s.resumeEngine.resetLow = s.resetLow ∧ s.resumeEngine.settings = s.settings ∧
    s.resumeEngine.lib.draft = s.lib.draft ∧ s.resumeEngine.queue.nextId = s.queue.nextId ∧
    s.resumeEngine.engine.deadline = s.engine.deadline ∧ s.resumeEngine.keys = s.keys ∧
    s.resumeEngine.kLines = s.kLines ∧ s.resumeEngine.rx.lineHigh = s.rx.lineHigh ∧
    s.resumeEngine.rx.filtered = s.rx.filtered ∧ s.resumeEngine.rx.nextOrder = s.rx.nextOrder ∧
    s.resumeEngine.rx.candidate = s.rx.candidate ∧ s.resumeEngine.rx.lastEdge = s.rx.lastEdge ∧
    s.resumeEngine.matcher = s.matcher ∧ s.resumeEngine.tracker = s.tracker ∧
    s.resumeEngine.learn = s.learn ∧ s.resumeEngine.link.replies = s.link.replies ∧
    s.resumeEngine.link.intake = s.link.intake ∧ s.resumeEngine.link.handler = s.link.handler ∧
    s.resumeEngine.link.cache = s.link.cache ∧ s.resumeEngine.link.receiver = s.link.receiver ∧
    s.resumeEngine.link.interByte = s.link.interByte ∧
    s.resumeEngine.link.listenFrom = s.link.listenFrom ∧ s.resumeEngine.link.seq = s.link.seq ∧
    s.resumeEngine.link.fast = s.link.fast ∧ s.resumeEngine.store = s.store ∧
    s.resumeEngine.supply = s.supply ∧ s.resumeEngine.doze = s.doze ∧
    s.resumeEngine.freeUses = s.freeUses ∧ s.resumeEngine.pending = s.pending := by
  unfold State.resumeEngine; split <;> simp [State.heldInReset_eq]

end Sys2Proof.Machine
end

