-- ==== Sys2Proof/Laws/Jobs.lean ====
section
/-! SUPPORT. What the Emission Queue and the Key Scanner leave unchanged: for each operation one lemma that lists every
field of the state, or of its part, that the operation does not touch. -/

namespace Sys2Proof.Machine

@[simp] theorem State.enrol_frame (source : Source) (spec : JobSpec) (s : State) :
   (s.enrol source spec).now = s.now ∧ (s.enrol source spec).heldInReset = s.heldInReset ∧
    (s.enrol source spec).resetLow = s.resetLow ∧ (s.enrol source spec).settings = s.settings ∧
    (s.enrol source spec).lib.draft = s.lib.draft ∧ (s.enrol source spec).engine = s.engine ∧
    (s.enrol source spec).carrier = s.carrier ∧ (s.enrol source spec).ind = s.ind ∧
    (s.enrol source spec).kLines = s.kLines ∧ (s.enrol source spec).rx = s.rx ∧
    (s.enrol source spec).matcher = s.matcher ∧ (s.enrol source spec).tracker = s.tracker ∧
    (s.enrol source spec).learn = s.learn ∧ (s.enrol source spec).link = s.link ∧
    (s.enrol source spec).store = s.store ∧ (s.enrol source spec).supply = s.supply ∧
    (s.enrol source spec).doze = s.doze ∧ (s.enrol source spec).freeUses = s.freeUses ∧
    (s.enrol source spec).pending = s.pending := by
  simp [State.heldInReset_eq, State.enrol]

@[simp] theorem State.send_frame (spec : JobSpec) (s : State) :
   (s.send spec).1.now = s.now ∧ (s.send spec).1.heldInReset = s.heldInReset ∧
    (s.send spec).1.resetLow = s.resetLow ∧ (s.send spec).1.settings = s.settings ∧
    (s.send spec).1.lib.draft = s.lib.draft ∧ (s.send spec).1.engine.deadline = s.engine.deadline ∧
    (s.send spec).1.kLines = s.kLines ∧ (s.send spec).1.rx.lineHigh = s.rx.lineHigh ∧
    (s.send spec).1.rx.filtered = s.rx.filtered ∧ (s.send spec).1.rx.nextOrder = s.rx.nextOrder ∧
    (s.send spec).1.rx.candidate = s.rx.candidate ∧ (s.send spec).1.rx.lastEdge = s.rx.lastEdge ∧
    (s.send spec).1.matcher = s.matcher ∧ (s.send spec).1.tracker = s.tracker ∧
    (s.send spec).1.learn = s.learn ∧ (s.send spec).1.link.replies = s.link.replies ∧
    (s.send spec).1.link.intake = s.link.intake ∧ (s.send spec).1.link.handler = s.link.handler ∧
    (s.send spec).1.link.cache = s.link.cache ∧ (s.send spec).1.link.receiver = s.link.receiver ∧
    (s.send spec).1.link.interByte = s.link.interByte ∧
    (s.send spec).1.link.listenFrom = s.link.listenFrom ∧ (s.send spec).1.link.seq = s.link.seq ∧
    (s.send spec).1.link.fast = s.link.fast ∧ (s.send spec).1.store = s.store ∧
    (s.send spec).1.supply = s.supply ∧ (s.send spec).1.doze = s.doze ∧
    (s.send spec).1.freeUses = s.freeUses ∧ (s.send spec).1.pending = s.pending := by
  unfold State.send; split <;> simp [State.heldInReset_eq]

@[simp] theorem State.markJob_frame (id : Nat) (reason : PendingEnd) (s : State) :
   (s.markJob id reason).now = s.now ∧ (s.markJob id reason).heldInReset = s.heldInReset ∧
    (s.markJob id reason).resetLow = s.resetLow ∧ (s.markJob id reason).settings = s.settings ∧
    (s.markJob id reason).lib = s.lib ∧ (s.markJob id reason).queue.nextId = s.queue.nextId ∧
    (s.markJob id reason).engine.state = s.engine.state ∧
    (s.markJob id reason).engine.emitting = s.engine.emitting ∧
    (s.markJob id reason).engine.deadline = s.engine.deadline ∧
    (s.markJob id reason).engine.buffer = s.engine.buffer ∧
    (s.markJob id reason).engine.position = s.engine.position ∧
    (s.markJob id reason).carrier = s.carrier ∧ (s.markJob id reason).ind = s.ind ∧
    (s.markJob id reason).keys = s.keys ∧ (s.markJob id reason).kLines = s.kLines ∧
    (s.markJob id reason).rx = s.rx ∧ (s.markJob id reason).matcher = s.matcher ∧
    (s.markJob id reason).tracker = s.tracker ∧ (s.markJob id reason).learn = s.learn ∧
    (s.markJob id reason).link = s.link ∧ (s.markJob id reason).store = s.store ∧
    (s.markJob id reason).supply = s.supply ∧ (s.markJob id reason).doze = s.doze ∧
    (s.markJob id reason).freeUses = s.freeUses ∧ (s.markJob id reason).pending = s.pending := by
  simp [State.heldInReset_eq, State.markJob]

@[simp] theorem State.removeJob_frame (j : Job) (reason : EndReason) (s : State) :
   (s.removeJob j reason).now = s.now ∧ (s.removeJob j reason).heldInReset = s.heldInReset ∧
    (s.removeJob j reason).resetLow = s.resetLow ∧ (s.removeJob j reason).settings = s.settings ∧
    (s.removeJob j reason).lib.draft = s.lib.draft ∧
    (s.removeJob j reason).queue.nextId = s.queue.nextId ∧
    (s.removeJob j reason).engine = s.engine ∧ (s.removeJob j reason).carrier = s.carrier ∧
    (s.removeJob j reason).ind = s.ind ∧ (s.removeJob j reason).kLines = s.kLines ∧
    (s.removeJob j reason).rx = s.rx ∧ (s.removeJob j reason).matcher = s.matcher ∧
    (s.removeJob j reason).tracker = s.tracker ∧ (s.removeJob j reason).learn = s.learn ∧
    (s.removeJob j reason).link.replies = s.link.replies ∧
    (s.removeJob j reason).link.intake = s.link.intake ∧
    (s.removeJob j reason).link.handler = s.link.handler ∧
    (s.removeJob j reason).link.cache = s.link.cache ∧
    (s.removeJob j reason).link.receiver = s.link.receiver ∧
    (s.removeJob j reason).link.interByte = s.link.interByte ∧
    (s.removeJob j reason).link.listenFrom = s.link.listenFrom ∧
    (s.removeJob j reason).link.seq = s.link.seq ∧ (s.removeJob j reason).link.fast = s.link.fast ∧
    (s.removeJob j reason).store = s.store ∧ (s.removeJob j reason).supply = s.supply ∧
    (s.removeJob j reason).doze = s.doze ∧ (s.removeJob j reason).freeUses = s.freeUses ∧
    (s.removeJob j reason).pending = s.pending := by
  simp [State.heldInReset_eq, State.removeJob]

@[simp] theorem State.endSoon_frame (j : Job) (reason : PendingEnd) (s : State) :
   (s.endSoon j reason).1.now = s.now ∧ (s.endSoon j reason).1.heldInReset = s.heldInReset ∧
    (s.endSoon j reason).1.resetLow = s.resetLow ∧ (s.endSoon j reason).1.settings = s.settings ∧
    (s.endSoon j reason).1.lib.draft = s.lib.draft ∧
    (s.endSoon j reason).1.queue.nextId = s.queue.nextId ∧
    (s.endSoon j reason).1.engine.state = s.engine.state ∧
    (s.endSoon j reason).1.engine.emitting = s.engine.emitting ∧
    (s.endSoon j reason).1.engine.deadline = s.engine.deadline ∧
    (s.endSoon j reason).1.engine.buffer = s.engine.buffer ∧
    (s.endSoon j reason).1.engine.position = s.engine.position ∧
    (s.endSoon j reason).1.carrier = s.carrier ∧ (s.endSoon j reason).1.ind = s.ind ∧
    (s.endSoon j reason).1.kLines = s.kLines ∧ (s.endSoon j reason).1.rx = s.rx ∧
    (s.endSoon j reason).1.matcher = s.matcher ∧ (s.endSoon j reason).1.tracker = s.tracker ∧
    (s.endSoon j reason).1.learn = s.learn ∧ (s.endSoon j reason).1.link.replies = s.link.replies ∧
    (s.endSoon j reason).1.link.intake = s.link.intake ∧
    (s.endSoon j reason).1.link.handler = s.link.handler ∧
    (s.endSoon j reason).1.link.cache = s.link.cache ∧
    (s.endSoon j reason).1.link.receiver = s.link.receiver ∧
    (s.endSoon j reason).1.link.interByte = s.link.interByte ∧
    (s.endSoon j reason).1.link.listenFrom = s.link.listenFrom ∧
    (s.endSoon j reason).1.link.seq = s.link.seq ∧ (s.endSoon j reason).1.link.fast = s.link.fast ∧
    (s.endSoon j reason).1.store = s.store ∧ (s.endSoon j reason).1.supply = s.supply ∧
    (s.endSoon j reason).1.doze = s.doze ∧ (s.endSoon j reason).1.freeUses = s.freeUses ∧
    (s.endSoon j reason).1.pending = s.pending := by
  unfold State.endSoon; split <;> simp [State.heldInReset_eq]

@[simp] theorem State.release_frame (id : Nat) (s : State) :
   (s.release id).1.now = s.now ∧ (s.release id).1.heldInReset = s.heldInReset ∧
    (s.release id).1.resetLow = s.resetLow ∧ (s.release id).1.settings = s.settings ∧
    (s.release id).1.lib.draft = s.lib.draft ∧ (s.release id).1.queue.nextId = s.queue.nextId ∧
    (s.release id).1.engine.state = s.engine.state ∧
    (s.release id).1.engine.emitting = s.engine.emitting ∧
    (s.release id).1.engine.deadline = s.engine.deadline ∧
    (s.release id).1.engine.buffer = s.engine.buffer ∧
    (s.release id).1.engine.position = s.engine.position ∧ (s.release id).1.carrier = s.carrier ∧
    (s.release id).1.ind = s.ind ∧ (s.release id).1.kLines = s.kLines ∧ (s.release id).1.rx = s.rx ∧
    (s.release id).1.matcher = s.matcher ∧ (s.release id).1.tracker = s.tracker ∧
    (s.release id).1.learn = s.learn ∧ (s.release id).1.link.replies = s.link.replies ∧
    (s.release id).1.link.intake = s.link.intake ∧ (s.release id).1.link.handler = s.link.handler ∧
    (s.release id).1.link.cache = s.link.cache ∧ (s.release id).1.link.receiver = s.link.receiver ∧
    (s.release id).1.link.interByte = s.link.interByte ∧
    (s.release id).1.link.listenFrom = s.link.listenFrom ∧ (s.release id).1.link.seq = s.link.seq ∧
    (s.release id).1.link.fast = s.link.fast ∧ (s.release id).1.store = s.store ∧
    (s.release id).1.supply = s.supply ∧ (s.release id).1.doze = s.doze ∧
    (s.release id).1.freeUses = s.freeUses ∧ (s.release id).1.pending = s.pending := by
  unfold State.release; (repeat' split) <;> simp [State.heldInReset_eq]

@[simp] theorem State.cancel_frame (id : Nat) (s : State) :
   (s.cancel id).1.now = s.now ∧ (s.cancel id).1.heldInReset = s.heldInReset ∧
    (s.cancel id).1.resetLow = s.resetLow ∧ (s.cancel id).1.settings = s.settings ∧
    (s.cancel id).1.lib.draft = s.lib.draft ∧ (s.cancel id).1.queue.nextId = s.queue.nextId ∧
    (s.cancel id).1.engine.state = s.engine.state ∧
    (s.cancel id).1.engine.emitting = s.engine.emitting ∧
    (s.cancel id).1.engine.deadline = s.engine.deadline ∧
    (s.cancel id).1.engine.buffer = s.engine.buffer ∧
    (s.cancel id).1.engine.position = s.engine.position ∧ (s.cancel id).1.carrier = s.carrier ∧
    (s.cancel id).1.ind = s.ind ∧ (s.cancel id).1.kLines = s.kLines ∧ (s.cancel id).1.rx = s.rx ∧
    (s.cancel id).1.matcher = s.matcher ∧ (s.cancel id).1.tracker = s.tracker ∧
    (s.cancel id).1.learn = s.learn ∧ (s.cancel id).1.link.replies = s.link.replies ∧
    (s.cancel id).1.link.intake = s.link.intake ∧ (s.cancel id).1.link.handler = s.link.handler ∧
    (s.cancel id).1.link.cache = s.link.cache ∧ (s.cancel id).1.link.receiver = s.link.receiver ∧
    (s.cancel id).1.link.interByte = s.link.interByte ∧
    (s.cancel id).1.link.listenFrom = s.link.listenFrom ∧ (s.cancel id).1.link.seq = s.link.seq ∧
    (s.cancel id).1.link.fast = s.link.fast ∧ (s.cancel id).1.store = s.store ∧
    (s.cancel id).1.supply = s.supply ∧ (s.cancel id).1.doze = s.doze ∧
    (s.cancel id).1.freeUses = s.freeUses ∧ (s.cancel id).1.pending = s.pending := by
  unfold State.cancel; (repeat' split) <;> simp [State.heldInReset_eq]

@[simp] theorem State.keyRelease_frame (k : Fin 8) (id : Nat) (s : State) :
   (s.keyRelease k id).now = s.now ∧ (s.keyRelease k id).heldInReset = s.heldInReset ∧
    (s.keyRelease k id).resetLow = s.resetLow ∧ (s.keyRelease k id).settings = s.settings ∧
    (s.keyRelease k id).lib.draft = s.lib.draft ∧
    (s.keyRelease k id).queue.nextId = s.queue.nextId ∧
    (s.keyRelease k id).engine.state = s.engine.state ∧
    (s.keyRelease k id).engine.emitting = s.engine.emitting ∧
    (s.keyRelease k id).engine.deadline = s.engine.deadline ∧
    (s.keyRelease k id).engine.buffer = s.engine.buffer ∧
    (s.keyRelease k id).engine.position = s.engine.position ∧
    (s.keyRelease k id).carrier = s.carrier ∧ (s.keyRelease k id).ind = s.ind ∧
    (s.keyRelease k id).kLines = s.kLines ∧ (s.keyRelease k id).rx = s.rx ∧
    (s.keyRelease k id).matcher = s.matcher ∧ (s.keyRelease k id).tracker = s.tracker ∧
    (s.keyRelease k id).learn = s.learn ∧ (s.keyRelease k id).link.replies = s.link.replies ∧
    (s.keyRelease k id).link.intake = s.link.intake ∧
    (s.keyRelease k id).link.handler = s.link.handler ∧
    (s.keyRelease k id).link.cache = s.link.cache ∧
    (s.keyRelease k id).link.receiver = s.link.receiver ∧
    (s.keyRelease k id).link.interByte = s.link.interByte ∧
    (s.keyRelease k id).link.listenFrom = s.link.listenFrom ∧
    (s.keyRelease k id).link.seq = s.link.seq ∧ (s.keyRelease k id).link.fast = s.link.fast ∧
    (s.keyRelease k id).store = s.store ∧ (s.keyRelease k id).supply = s.supply ∧
    (s.keyRelease k id).doze = s.doze ∧ (s.keyRelease k id).freeUses = s.freeUses ∧
    (s.keyRelease k id).pending = s.pending := by
  unfold State.keyRelease; (repeat' split) <;> simp [State.heldInReset_eq]

@[simp] theorem State.holdExpires_frame (id : Nat) (s : State) :
   (s.holdExpires id).now = s.now ∧ (s.holdExpires id).heldInReset = s.heldInReset ∧
    (s.holdExpires id).resetLow = s.resetLow ∧ (s.holdExpires id).settings = s.settings ∧
    (s.holdExpires id).lib.draft = s.lib.draft ∧ (s.holdExpires id).queue.nextId = s.queue.nextId ∧
    (s.holdExpires id).engine.state = s.engine.state ∧
    (s.holdExpires id).engine.emitting = s.engine.emitting ∧
    (s.holdExpires id).engine.deadline = s.engine.deadline ∧
    (s.holdExpires id).engine.buffer = s.engine.buffer ∧
    (s.holdExpires id).engine.position = s.engine.position ∧
    (s.holdExpires id).carrier = s.carrier ∧ (s.holdExpires id).ind = s.ind ∧
    (s.holdExpires id).kLines = s.kLines ∧ (s.holdExpires id).rx = s.rx ∧
    (s.holdExpires id).matcher = s.matcher ∧ (s.holdExpires id).tracker = s.tracker ∧
    (s.holdExpires id).learn = s.learn ∧ (s.holdExpires id).link.replies = s.link.replies ∧
    (s.holdExpires id).link.intake = s.link.intake ∧
    (s.holdExpires id).link.handler = s.link.handler ∧
    (s.holdExpires id).link.cache = s.link.cache ∧
    (s.holdExpires id).link.receiver = s.link.receiver ∧
    (s.holdExpires id).link.interByte = s.link.interByte ∧
    (s.holdExpires id).link.listenFrom = s.link.listenFrom ∧
    (s.holdExpires id).link.seq = s.link.seq ∧ (s.holdExpires id).link.fast = s.link.fast ∧
    (s.holdExpires id).store = s.store ∧ (s.holdExpires id).supply = s.supply ∧
    (s.holdExpires id).doze = s.doze ∧ (s.holdExpires id).freeUses = s.freeUses ∧
    (s.holdExpires id).pending = s.pending := by
  unfold State.holdExpires; (repeat' split) <;> simp [State.heldInReset_eq]

@[simp] theorem flushJobs_frame (js : List Job) (s : State) :
   (flushJobs js s).now = s.now ∧ (flushJobs js s).heldInReset = s.heldInReset ∧
    (flushJobs js s).resetLow = s.resetLow ∧ (flushJobs js s).settings = s.settings ∧
    (flushJobs js s).lib.draft = s.lib.draft ∧ (flushJobs js s).queue = s.queue ∧
    (flushJobs js s).engine = s.engine ∧ (flushJobs js s).carrier = s.carrier ∧
    (flushJobs js s).ind = s.ind ∧ (flushJobs js s).kLines = s.kLines ∧ (flushJobs js s).rx = s.rx ∧
    (flushJobs js s).matcher = s.matcher ∧ (flushJobs js s).tracker = s.tracker ∧
    (flushJobs js s).learn = s.learn ∧ (flushJobs js s).link.replies = s.link.replies ∧
    (flushJobs js s).link.intake = s.link.intake ∧ (flushJobs js s).link.handler = s.link.handler ∧
    (flushJobs js s).link.cache = s.link.cache ∧ (flushJobs js s).link.receiver = s.link.receiver ∧
    (flushJobs js s).link.interByte = s.link.interByte ∧
    (flushJobs js s).link.listenFrom = s.link.listenFrom ∧ (flushJobs js s).link.seq = s.link.seq ∧
    (flushJobs js s).link.fast = s.link.fast ∧ (flushJobs js s).store = s.store ∧
    (flushJobs js s).supply = s.supply ∧ (flushJobs js s).doze = s.doze ∧
    (flushJobs js s).freeUses = s.freeUses ∧ (flushJobs js s).pending = s.pending := by
  induction js generalizing s with
  | nil => simp [State.heldInReset_eq, flushJobs]
  | cons j js ih => simp [State.heldInReset_eq, flushJobs, ih]

@[simp] theorem State.flush_frame (s : State) :
   s.flush.1.now = s.now ∧ s.flush.1.heldInReset = s.heldInReset ∧ s.flush.1.resetLow = s.resetLow ∧
    s.flush.1.settings = s.settings ∧ s.flush.1.lib.draft = s.lib.draft ∧
    s.flush.1.queue.nextId = s.queue.nextId ∧ s.flush.1.engine = s.engine ∧
    s.flush.1.carrier = s.carrier ∧ s.flush.1.ind = s.ind ∧ s.flush.1.kLines = s.kLines ∧
    s.flush.1.rx = s.rx ∧ s.flush.1.matcher = s.matcher ∧ s.flush.1.tracker = s.tracker ∧
    s.flush.1.learn = s.learn ∧ s.flush.1.link.replies = s.link.replies ∧
    s.flush.1.link.intake = s.link.intake ∧ s.flush.1.link.handler = s.link.handler ∧
    s.flush.1.link.cache = s.link.cache ∧ s.flush.1.link.receiver = s.link.receiver ∧
    s.flush.1.link.interByte = s.link.interByte ∧ s.flush.1.link.listenFrom = s.link.listenFrom ∧
    s.flush.1.link.seq = s.link.seq ∧ s.flush.1.link.fast = s.link.fast ∧
    s.flush.1.store = s.store ∧ s.flush.1.supply = s.supply ∧ s.flush.1.doze = s.doze ∧
    s.flush.1.freeUses = s.freeUses ∧ s.flush.1.pending = s.pending := by
  simp [State.heldInReset_eq, State.flush]

@[simp] theorem State.setKey_frame (k : Fin 8) (r : KeyRec) (s : State) :
   (s.setKey k r).now = s.now ∧ (s.setKey k r).heldInReset = s.heldInReset ∧
    (s.setKey k r).resetLow = s.resetLow ∧ (s.setKey k r).settings = s.settings ∧
    (s.setKey k r).lib = s.lib ∧ (s.setKey k r).queue = s.queue ∧ (s.setKey k r).engine = s.engine ∧
    (s.setKey k r).carrier = s.carrier ∧ (s.setKey k r).ind = s.ind ∧
    (s.setKey k r).kLines = s.kLines ∧ (s.setKey k r).rx = s.rx ∧
    (s.setKey k r).matcher = s.matcher ∧ (s.setKey k r).tracker = s.tracker ∧
    (s.setKey k r).learn = s.learn ∧ (s.setKey k r).link = s.link ∧ (s.setKey k r).store = s.store ∧
    (s.setKey k r).supply = s.supply ∧ (s.setKey k r).doze = s.doze ∧
    (s.setKey k r).freeUses = s.freeUses ∧ (s.setKey k r).pending = s.pending := by
  simp [State.heldInReset_eq, State.setKey]

@[simp] theorem State.setKeyLine_frame (k : Fin 8) (high : Bool) (s : State) :
   (s.setKeyLine k high).now = s.now ∧ (s.setKeyLine k high).heldInReset = s.heldInReset ∧
    (s.setKeyLine k high).resetLow = s.resetLow ∧ (s.setKeyLine k high).settings = s.settings ∧
    (s.setKeyLine k high).lib = s.lib ∧ (s.setKeyLine k high).queue = s.queue ∧
    (s.setKeyLine k high).engine = s.engine ∧ (s.setKeyLine k high).carrier = s.carrier ∧
    (s.setKeyLine k high).ind = s.ind ∧ (s.setKeyLine k high).keys = s.keys ∧
    (s.setKeyLine k high).rx = s.rx ∧ (s.setKeyLine k high).matcher = s.matcher ∧
    (s.setKeyLine k high).tracker = s.tracker ∧ (s.setKeyLine k high).learn = s.learn ∧
    (s.setKeyLine k high).link = s.link ∧ (s.setKeyLine k high).store = s.store ∧
    (s.setKeyLine k high).supply = s.supply ∧ (s.setKeyLine k high).doze = s.doze ∧
    (s.setKeyLine k high).freeUses = s.freeUses ∧ (s.setKeyLine k high).pending = s.pending := by
  simp [State.heldInReset_eq, State.setKeyLine]

@[simp] theorem State.keyEdge_frame (k : Fin 8) (high : Bool) (s : State) :
   (s.keyEdge k high).now = s.now ∧ (s.keyEdge k high).heldInReset = s.heldInReset ∧
    (s.keyEdge k high).resetLow = s.resetLow ∧ (s.keyEdge k high).settings = s.settings ∧
    (s.keyEdge k high).lib = s.lib ∧ (s.keyEdge k high).queue = s.queue ∧
    (s.keyEdge k high).engine = s.engine ∧ (s.keyEdge k high).carrier = s.carrier ∧
    (s.keyEdge k high).ind = s.ind ∧ (s.keyEdge k high).rx = s.rx ∧
    (s.keyEdge k high).matcher = s.matcher ∧ (s.keyEdge k high).tracker = s.tracker ∧
    (s.keyEdge k high).learn = s.learn ∧ (s.keyEdge k high).link = s.link ∧
    (s.keyEdge k high).store = s.store ∧ (s.keyEdge k high).supply = s.supply ∧
    (s.keyEdge k high).doze = s.doze ∧ (s.keyEdge k high).freeUses = s.freeUses ∧
    (s.keyEdge k high).pending = s.pending := by
  unfold State.keyEdge; split <;> simp [State.heldInReset_eq]

@[simp] theorem State.reportKey_frame (k : Fin 8) (down : Bool) (s : State) :
   (s.reportKey k down).now = s.now ∧ (s.reportKey k down).heldInReset = s.heldInReset ∧
    (s.reportKey k down).resetLow = s.resetLow ∧ (s.reportKey k down).settings = s.settings ∧
    (s.reportKey k down).lib = s.lib ∧ (s.reportKey k down).queue = s.queue ∧
    (s.reportKey k down).engine = s.engine ∧ (s.reportKey k down).carrier = s.carrier ∧
    (s.reportKey k down).ind = s.ind ∧ (s.reportKey k down).keys = s.keys ∧
    (s.reportKey k down).kLines = s.kLines ∧ (s.reportKey k down).rx = s.rx ∧
    (s.reportKey k down).matcher = s.matcher ∧ (s.reportKey k down).tracker = s.tracker ∧
    (s.reportKey k down).learn = s.learn ∧ (s.reportKey k down).link.replies = s.link.replies ∧
    (s.reportKey k down).link.intake = s.link.intake ∧
    (s.reportKey k down).link.handler = s.link.handler ∧
    (s.reportKey k down).link.cache = s.link.cache ∧
    (s.reportKey k down).link.receiver = s.link.receiver ∧
    (s.reportKey k down).link.interByte = s.link.interByte ∧
    (s.reportKey k down).link.listenFrom = s.link.listenFrom ∧
    (s.reportKey k down).link.seq = s.link.seq ∧ (s.reportKey k down).link.fast = s.link.fast ∧
    (s.reportKey k down).store = s.store ∧ (s.reportKey k down).supply = s.supply ∧
    (s.reportKey k down).doze = s.doze ∧ (s.reportKey k down).freeUses = s.freeUses ∧
    (s.reportKey k down).pending = s.pending := by
  unfold State.reportKey; split <;> simp [State.heldInReset_eq]

@[simp] theorem State.submitPress_frame (k : Fin 8) (s : State) :
   (s.submitPress k).now = s.now ∧ (s.submitPress k).heldInReset = s.heldInReset ∧
    (s.submitPress k).resetLow = s.resetLow ∧ (s.submitPress k).settings = s.settings ∧
    (s.submitPress k).lib.draft = s.lib.draft ∧
    (s.submitPress k).engine.deadline = s.engine.deadline ∧ (s.submitPress k).kLines = s.kLines ∧
    (s.submitPress k).rx.lineHigh = s.rx.lineHigh ∧ (s.submitPress k).rx.filtered = s.rx.filtered ∧
    (s.submitPress k).rx.nextOrder = s.rx.nextOrder ∧
    (s.submitPress k).rx.candidate = s.rx.candidate ∧
    (s.submitPress k).rx.lastEdge = s.rx.lastEdge ∧ (s.submitPress k).matcher = s.matcher ∧
    (s.submitPress k).tracker = s.tracker ∧ (s.submitPress k).learn = s.learn ∧
    (s.submitPress k).link.replies = s.link.replies ∧
    (s.submitPress k).link.intake = s.link.intake ∧
    (s.submitPress k).link.handler = s.link.handler ∧ (s.submitPress k).link.cache = s.link.cache ∧
    (s.submitPress k).link.receiver = s.link.receiver ∧
    (s.submitPress k).link.interByte = s.link.interByte ∧
    (s.submitPress k).link.listenFrom = s.link.listenFrom ∧
    (s.submitPress k).link.seq = s.link.seq ∧ (s.submitPress k).link.fast = s.link.fast ∧
    (s.submitPress k).store = s.store ∧ (s.submitPress k).supply = s.supply ∧
    (s.submitPress k).doze = s.doze ∧ (s.submitPress k).freeUses = s.freeUses ∧
    (s.submitPress k).pending = s.pending := by
  unfold State.submitPress; (repeat' split) <;> simp [State.heldInReset_eq]

@[simp] theorem State.keyPress_frame (k : Fin 8) (s : State) :
   (s.keyPress k).now = s.now ∧ (s.keyPress k).heldInReset = s.heldInReset ∧
    (s.keyPress k).resetLow = s.resetLow ∧ (s.keyPress k).settings = s.settings ∧
    (s.keyPress k).lib.draft = s.lib.draft ∧ (s.keyPress k).engine.deadline = s.engine.deadline ∧
    (s.keyPress k).kLines = s.kLines ∧ (s.keyPress k).rx.lineHigh = s.rx.lineHigh ∧
    (s.keyPress k).rx.filtered = s.rx.filtered ∧ (s.keyPress k).rx.nextOrder = s.rx.nextOrder ∧
    (s.keyPress k).rx.candidate = s.rx.candidate ∧ (s.keyPress k).rx.lastEdge = s.rx.lastEdge ∧
    (s.keyPress k).matcher = s.matcher ∧ (s.keyPress k).tracker = s.tracker ∧
    (s.keyPress k).learn = s.learn ∧ (s.keyPress k).link.replies = s.link.replies ∧
    (s.keyPress k).link.intake = s.link.intake ∧ (s.keyPress k).link.handler = s.link.handler ∧
    (s.keyPress k).link.cache = s.link.cache ∧ (s.keyPress k).link.receiver = s.link.receiver ∧
    (s.keyPress k).link.interByte = s.link.interByte ∧
    (s.keyPress k).link.listenFrom = s.link.listenFrom ∧ (s.keyPress k).link.seq = s.link.seq ∧
    (s.keyPress k).link.fast = s.link.fast ∧ (s.keyPress k).store = s.store ∧
    (s.keyPress k).supply = s.supply ∧ (s.keyPress k).doze = s.doze ∧
    (s.keyPress k).freeUses = s.freeUses ∧ (s.keyPress k).pending = s.pending := by
  simp [State.heldInReset_eq, State.keyPress]

@[simp] theorem State.handRelease_frame (k : Fin 8) (s : State) :
   (s.handRelease k).now = s.now ∧ (s.handRelease k).heldInReset = s.heldInReset ∧
    (s.handRelease k).resetLow = s.resetLow ∧ (s.handRelease k).settings = s.settings ∧
    (s.handRelease k).lib.draft = s.lib.draft ∧ (s.handRelease k).queue.nextId = s.queue.nextId ∧
    (s.handRelease k).engine.state = s.engine.state ∧
    (s.handRelease k).engine.emitting = s.engine.emitting ∧
    (s.handRelease k).engine.deadline = s.engine.deadline ∧
    (s.handRelease k).engine.buffer = s.engine.buffer ∧
    (s.handRelease k).engine.position = s.engine.position ∧ (s.handRelease k).carrier = s.carrier ∧
    (s.handRelease k).ind = s.ind ∧ (s.handRelease k).kLines = s.kLines ∧
    (s.handRelease k).rx = s.rx ∧ (s.handRelease k).matcher = s.matcher ∧
    (s.handRelease k).tracker = s.tracker ∧ (s.handRelease k).learn = s.learn ∧
    (s.handRelease k).link.replies = s.link.replies ∧
    (s.handRelease k).link.intake = s.link.intake ∧
    (s.handRelease k).link.handler = s.link.handler ∧ (s.handRelease k).link.cache = s.link.cache ∧
    (s.handRelease k).link.receiver = s.link.receiver ∧
    (s.handRelease k).link.interByte = s.link.interByte ∧
    (s.handRelease k).link.listenFrom = s.link.listenFrom ∧
    (s.handRelease k).link.seq = s.link.seq ∧ (s.handRelease k).link.fast = s.link.fast ∧
    (s.handRelease k).store = s.store ∧ (s.handRelease k).supply = s.supply ∧
    (s.handRelease k).doze = s.doze ∧ (s.handRelease k).freeUses = s.freeUses ∧
    (s.handRelease k).pending = s.pending := by
  unfold State.handRelease; split <;> simp [State.heldInReset_eq]

@[simp] theorem State.keyReleased_frame (k : Fin 8) (s : State) :
   (s.keyReleased k).now = s.now ∧ (s.keyReleased k).heldInReset = s.heldInReset ∧
    (s.keyReleased k).resetLow = s.resetLow ∧ (s.keyReleased k).settings = s.settings ∧
    (s.keyReleased k).lib.draft = s.lib.draft ∧ (s.keyReleased k).queue.nextId = s.queue.nextId ∧
    (s.keyReleased k).engine.state = s.engine.state ∧
    (s.keyReleased k).engine.emitting = s.engine.emitting ∧
    (s.keyReleased k).engine.deadline = s.engine.deadline ∧
    (s.keyReleased k).engine.buffer = s.engine.buffer ∧
    (s.keyReleased k).engine.position = s.engine.position ∧ (s.keyReleased k).carrier = s.carrier ∧
    (s.keyReleased k).ind = s.ind ∧ (s.keyReleased k).kLines = s.kLines ∧
    (s.keyReleased k).rx = s.rx ∧ (s.keyReleased k).matcher = s.matcher ∧
    (s.keyReleased k).tracker = s.tracker ∧ (s.keyReleased k).learn = s.learn ∧
    (s.keyReleased k).link.replies = s.link.replies ∧
    (s.keyReleased k).link.intake = s.link.intake ∧
    (s.keyReleased k).link.handler = s.link.handler ∧ (s.keyReleased k).link.cache = s.link.cache ∧
    (s.keyReleased k).link.receiver = s.link.receiver ∧
    (s.keyReleased k).link.interByte = s.link.interByte ∧
    (s.keyReleased k).link.listenFrom = s.link.listenFrom ∧
    (s.keyReleased k).link.seq = s.link.seq ∧ (s.keyReleased k).link.fast = s.link.fast ∧
    (s.keyReleased k).store = s.store ∧ (s.keyReleased k).supply = s.supply ∧
    (s.keyReleased k).doze = s.doze ∧ (s.keyReleased k).freeUses = s.freeUses ∧
    (s.keyReleased k).pending = s.pending := by
  simp [State.heldInReset_eq, State.keyReleased]

@[simp] theorem State.debounceExpires_frame (k : Fin 8) (s : State) :
   (s.debounceExpires k).now = s.now ∧ (s.debounceExpires k).heldInReset = s.heldInReset ∧
    (s.debounceExpires k).resetLow = s.resetLow ∧ (s.debounceExpires k).settings = s.settings ∧
    (s.debounceExpires k).lib.draft = s.lib.draft ∧
    (s.debounceExpires k).engine.deadline = s.engine.deadline ∧
    (s.debounceExpires k).kLines = s.kLines ∧ (s.debounceExpires k).rx.lineHigh = s.rx.lineHigh ∧
    (s.debounceExpires k).rx.filtered = s.rx.filtered ∧
    (s.debounceExpires k).rx.nextOrder = s.rx.nextOrder ∧
    (s.debounceExpires k).rx.candidate = s.rx.candidate ∧
    (s.debounceExpires k).rx.lastEdge = s.rx.lastEdge ∧ (s.debounceExpires k).matcher = s.matcher ∧
    (s.debounceExpires k).tracker = s.tracker ∧ (s.debounceExpires k).learn = s.learn ∧
    (s.debounceExpires k).link.replies = s.link.replies ∧
    (s.debounceExpires k).link.intake = s.link.intake ∧
    (s.debounceExpires k).link.handler = s.link.handler ∧
    (s.debounceExpires k).link.cache = s.link.cache ∧
    (s.debounceExpires k).link.receiver = s.link.receiver ∧
    (s.debounceExpires k).link.interByte = s.link.interByte ∧
    (s.debounceExpires k).link.listenFrom = s.link.listenFrom ∧
    (s.debounceExpires k).link.seq = s.link.seq ∧ (s.debounceExpires k).link.fast = s.link.fast ∧
    (s.debounceExpires k).store = s.store ∧ (s.debounceExpires k).supply = s.supply ∧
    (s.debounceExpires k).doze = s.doze ∧ (s.debounceExpires k).freeUses = s.freeUses ∧
    (s.debounceExpires k).pending = s.pending := by
  unfold State.debounceExpires; (repeat' split) <;> simp [State.heldInReset_eq]

@[simp] theorem Library.claimBinding_frame (spec : JobSpec) (l : Library) :
   (l.claimBinding spec).draft = l.draft := by
  simp [Library.claimBinding]

@[simp] theorem Library.unclaimBinding_frame (old : Option JobSpec) (l : Library) :
   (l.unclaimBinding old).draft = l.draft := by
  unfold Library.unclaimBinding; split <;> simp

@[simp] theorem State.bindKey_frame (k : Fin 8) (spec : JobSpec) (s : State) :
   (s.bindKey k spec).1.now = s.now ∧ (s.bindKey k spec).1.heldInReset = s.heldInReset ∧
    (s.bindKey k spec).1.resetLow = s.resetLow ∧ (s.bindKey k spec).1.settings = s.settings ∧
    (s.bindKey k spec).1.lib.draft = s.lib.draft ∧ (s.bindKey k spec).1.queue = s.queue ∧
    (s.bindKey k spec).1.engine = s.engine ∧ (s.bindKey k spec).1.carrier = s.carrier ∧
    (s.bindKey k spec).1.ind = s.ind ∧ (s.bindKey k spec).1.kLines = s.kLines ∧
    (s.bindKey k spec).1.rx = s.rx ∧ (s.bindKey k spec).1.matcher = s.matcher ∧
    (s.bindKey k spec).1.tracker = s.tracker ∧ (s.bindKey k spec).1.learn = s.learn ∧
    (s.bindKey k spec).1.link = s.link ∧ (s.bindKey k spec).1.store = s.store ∧
    (s.bindKey k spec).1.supply = s.supply ∧ (s.bindKey k spec).1.doze = s.doze ∧
    (s.bindKey k spec).1.freeUses = s.freeUses ∧ (s.bindKey k spec).1.pending = s.pending := by
  unfold State.bindKey; (repeat' split) <;> simp [State.heldInReset_eq]

@[simp] theorem State.unbindKey_frame (k : Fin 8) (s : State) :
   (s.unbindKey k).1.now = s.now ∧ (s.unbindKey k).1.heldInReset = s.heldInReset ∧
    (s.unbindKey k).1.resetLow = s.resetLow ∧ (s.unbindKey k).1.settings = s.settings ∧
    (s.unbindKey k).1.lib.draft = s.lib.draft ∧ (s.unbindKey k).1.queue = s.queue ∧
    (s.unbindKey k).1.engine = s.engine ∧ (s.unbindKey k).1.carrier = s.carrier ∧
    (s.unbindKey k).1.ind = s.ind ∧ (s.unbindKey k).1.kLines = s.kLines ∧
    (s.unbindKey k).1.rx = s.rx ∧ (s.unbindKey k).1.matcher = s.matcher ∧
    (s.unbindKey k).1.tracker = s.tracker ∧ (s.unbindKey k).1.learn = s.learn ∧
    (s.unbindKey k).1.link = s.link ∧ (s.unbindKey k).1.store = s.store ∧
    (s.unbindKey k).1.supply = s.supply ∧ (s.unbindKey k).1.doze = s.doze ∧
    (s.unbindKey k).1.freeUses = s.freeUses ∧ (s.unbindKey k).1.pending = s.pending := by
  unfold State.unbindKey; split <;> simp [State.heldInReset_eq]

@[simp] theorem State.enableChanged_frame (old : BitVec 8) (s : State) :
   (s.enableChanged old).now = s.now ∧ (s.enableChanged old).heldInReset = s.heldInReset ∧
    (s.enableChanged old).resetLow = s.resetLow ∧ (s.enableChanged old).settings = s.settings ∧
    (s.enableChanged old).lib = s.lib ∧ (s.enableChanged old).queue = s.queue ∧
    (s.enableChanged old).engine = s.engine ∧ (s.enableChanged old).carrier = s.carrier ∧
    (s.enableChanged old).ind = s.ind ∧ (s.enableChanged old).kLines = s.kLines ∧
    (s.enableChanged old).rx = s.rx ∧ (s.enableChanged old).matcher = s.matcher ∧
    (s.enableChanged old).tracker = s.tracker ∧ (s.enableChanged old).learn = s.learn ∧
    (s.enableChanged old).link = s.link ∧ (s.enableChanged old).store = s.store ∧
    (s.enableChanged old).supply = s.supply ∧ (s.enableChanged old).doze = s.doze ∧
    (s.enableChanged old).freeUses = s.freeUses ∧ (s.enableChanged old).pending = s.pending := by
  simp [State.heldInReset_eq, State.enableChanged]

end Sys2Proof.Machine
end

