-- ==== Sys2Proof/Laws/Library.lean ====
section
/-! SUPPORT. What the Code Library, the Image Store, the Supply Watch and the settings leave unchanged: for each operation one lemma that lists every
field of the state, or of its part, that the operation does not touch. -/

namespace Sys2Proof.Machine

/-- 11 section 11.5: a bit of the sections put set is set when its section stands in it. -/
theorem putMask_testBit (put : List Part) (i : Nat) :
    (putMask put).testBit i = put.any fun p => decide (p.bit = i) := by
  suffices ∀ acc, (put.foldl (fun acc (p : Part) => acc ||| 2 ^ p.bit) acc).testBit i
      = (acc.testBit i || put.any fun p => decide (p.bit = i)) by simpa [putMask] using this 0
  induction put with
  | nil => simp
  | cons p rest ih => intro acc; simp [ih, Nat.testBit_two_pow, Bool.or_assoc]

@[simp] theorem Library.setState_frame (t : Fin 16) (st : SlotState) (l : Library) :
   (l.setState t st).draft = l.draft := by
  simp [Library.setState]

@[simp] theorem Library.setFresh_frame (t : Fin 16) (st : SlotState) (l : Library) :
   (l.setFresh t st).draft = l.draft := by
  simp [Library.setFresh]

@[simp] theorem State.openDraft_frame (t : Fin 16) (mode : DraftMode) (work : Template)
    (st : SlotState) (s : State) :
   (s.openDraft t mode work st).now = s.now ∧
    (s.openDraft t mode work st).heldInReset = s.heldInReset ∧
    (s.openDraft t mode work st).resetLow = s.resetLow ∧
    (s.openDraft t mode work st).settings = s.settings ∧
    (s.openDraft t mode work st).queue = s.queue ∧ (s.openDraft t mode work st).engine = s.engine ∧
    (s.openDraft t mode work st).carrier = s.carrier ∧ (s.openDraft t mode work st).ind = s.ind ∧
    (s.openDraft t mode work st).keys = s.keys ∧ (s.openDraft t mode work st).kLines = s.kLines ∧
    (s.openDraft t mode work st).rx = s.rx ∧ (s.openDraft t mode work st).matcher = s.matcher ∧
    (s.openDraft t mode work st).tracker = s.tracker ∧
    (s.openDraft t mode work st).learn = s.learn ∧ (s.openDraft t mode work st).link = s.link ∧
    (s.openDraft t mode work st).store = s.store ∧ (s.openDraft t mode work st).supply = s.supply ∧
    (s.openDraft t mode work st).doze = s.doze ∧
    (s.openDraft t mode work st).freeUses = s.freeUses ∧
    (s.openDraft t mode work st).pending = s.pending := by
  simp [State.heldInReset_eq, State.openDraft]

@[simp] theorem State.tplOpen_frame (t : Fin 16) (mode : DraftMode) (s : State) :
   (s.tplOpen t mode).1.now = s.now ∧ (s.tplOpen t mode).1.heldInReset = s.heldInReset ∧
    (s.tplOpen t mode).1.resetLow = s.resetLow ∧ (s.tplOpen t mode).1.settings = s.settings ∧
    (s.tplOpen t mode).1.queue = s.queue ∧ (s.tplOpen t mode).1.engine = s.engine ∧
    (s.tplOpen t mode).1.carrier = s.carrier ∧ (s.tplOpen t mode).1.ind = s.ind ∧
    (s.tplOpen t mode).1.keys = s.keys ∧ (s.tplOpen t mode).1.kLines = s.kLines ∧
    (s.tplOpen t mode).1.rx = s.rx ∧ (s.tplOpen t mode).1.learn = s.learn ∧
    (s.tplOpen t mode).1.link.replies = s.link.replies ∧
    (s.tplOpen t mode).1.link.intake = s.link.intake ∧
    (s.tplOpen t mode).1.link.handler = s.link.handler ∧
    (s.tplOpen t mode).1.link.cache = s.link.cache ∧
    (s.tplOpen t mode).1.link.receiver = s.link.receiver ∧
    (s.tplOpen t mode).1.link.interByte = s.link.interByte ∧
    (s.tplOpen t mode).1.link.listenFrom = s.link.listenFrom ∧
    (s.tplOpen t mode).1.link.seq = s.link.seq ∧ (s.tplOpen t mode).1.link.fast = s.link.fast ∧
    (s.tplOpen t mode).1.store = s.store ∧ (s.tplOpen t mode).1.supply = s.supply ∧
    (s.tplOpen t mode).1.doze = s.doze ∧ (s.tplOpen t mode).1.pending = s.pending := by
  unfold State.tplOpen; (repeat' split) <;> simp [State.heldInReset_eq]

@[simp] theorem State.setDraft_frame (d : Option Draft) (s : State) :
   (s.setDraft d).now = s.now ∧ (s.setDraft d).heldInReset = s.heldInReset ∧
    (s.setDraft d).resetLow = s.resetLow ∧ (s.setDraft d).settings = s.settings ∧
    (s.setDraft d).lib.slots = s.lib.slots ∧ (s.setDraft d).queue = s.queue ∧
    (s.setDraft d).engine = s.engine ∧ (s.setDraft d).carrier = s.carrier ∧
    (s.setDraft d).ind = s.ind ∧ (s.setDraft d).keys = s.keys ∧ (s.setDraft d).kLines = s.kLines ∧
    (s.setDraft d).rx = s.rx ∧ (s.setDraft d).matcher = s.matcher ∧
    (s.setDraft d).tracker = s.tracker ∧ (s.setDraft d).learn = s.learn ∧
    (s.setDraft d).link = s.link ∧ (s.setDraft d).store = s.store ∧
    (s.setDraft d).supply = s.supply ∧ (s.setDraft d).doze = s.doze ∧
    (s.setDraft d).freeUses = s.freeUses ∧ (s.setDraft d).pending = s.pending := by
  simp [State.heldInReset_eq, State.setDraft]

@[simp] theorem State.tplPut_frame (data : Option PartData) (s : State) :
   (s.tplPut data).1.now = s.now ∧ (s.tplPut data).1.heldInReset = s.heldInReset ∧
    (s.tplPut data).1.resetLow = s.resetLow ∧ (s.tplPut data).1.settings = s.settings ∧
    (s.tplPut data).1.lib.slots = s.lib.slots ∧ (s.tplPut data).1.queue = s.queue ∧
    (s.tplPut data).1.engine = s.engine ∧ (s.tplPut data).1.carrier = s.carrier ∧
    (s.tplPut data).1.ind = s.ind ∧ (s.tplPut data).1.keys = s.keys ∧
    (s.tplPut data).1.kLines = s.kLines ∧ (s.tplPut data).1.rx = s.rx ∧
    (s.tplPut data).1.matcher = s.matcher ∧ (s.tplPut data).1.tracker = s.tracker ∧
    (s.tplPut data).1.learn = s.learn ∧ (s.tplPut data).1.link = s.link ∧
    (s.tplPut data).1.store = s.store ∧ (s.tplPut data).1.supply = s.supply ∧
    (s.tplPut data).1.doze = s.doze ∧ (s.tplPut data).1.freeUses = s.freeUses ∧
    (s.tplPut data).1.pending = s.pending := by
  unfold State.tplPut; (repeat' split) <;> simp [State.heldInReset_eq]

@[simp] theorem State.install_frame (d : Draft) (s : State) :
   (s.install d).now = s.now ∧ (s.install d).heldInReset = s.heldInReset ∧
    (s.install d).resetLow = s.resetLow ∧ (s.install d).settings = s.settings ∧
    (s.install d).queue = s.queue ∧ (s.install d).engine = s.engine ∧
    (s.install d).carrier = s.carrier ∧ (s.install d).ind = s.ind ∧ (s.install d).keys = s.keys ∧
    (s.install d).kLines = s.kLines ∧ (s.install d).rx = s.rx ∧ (s.install d).matcher = s.matcher ∧
    (s.install d).tracker = s.tracker ∧ (s.install d).learn = s.learn ∧
    (s.install d).link = s.link ∧ (s.install d).store = s.store ∧ (s.install d).supply = s.supply ∧
    (s.install d).doze = s.doze ∧ (s.install d).freeUses = s.freeUses ∧
    (s.install d).pending = s.pending := by
  simp [State.heldInReset_eq, State.install]

@[simp] theorem State.tplCommit_frame (s : State) :
   s.tplCommit.1.now = s.now ∧ s.tplCommit.1.heldInReset = s.heldInReset ∧
    s.tplCommit.1.resetLow = s.resetLow ∧ s.tplCommit.1.settings = s.settings ∧
    s.tplCommit.1.queue = s.queue ∧ s.tplCommit.1.engine = s.engine ∧
    s.tplCommit.1.carrier = s.carrier ∧ s.tplCommit.1.ind = s.ind ∧ s.tplCommit.1.keys = s.keys ∧
    s.tplCommit.1.kLines = s.kLines ∧ s.tplCommit.1.rx = s.rx ∧ s.tplCommit.1.matcher = s.matcher ∧
    s.tplCommit.1.tracker = s.tracker ∧ s.tplCommit.1.learn = s.learn ∧
    s.tplCommit.1.link = s.link ∧ s.tplCommit.1.store = s.store ∧ s.tplCommit.1.supply = s.supply ∧
    s.tplCommit.1.doze = s.doze ∧ s.tplCommit.1.freeUses = s.freeUses ∧
    s.tplCommit.1.pending = s.pending := by
  unfold State.tplCommit; (repeat' split) <;> simp [State.heldInReset_eq]

@[simp] theorem State.tplAbort_frame (s : State) :
   s.tplAbort.1.now = s.now ∧ s.tplAbort.1.heldInReset = s.heldInReset ∧
    s.tplAbort.1.resetLow = s.resetLow ∧ s.tplAbort.1.settings = s.settings ∧
    s.tplAbort.1.queue = s.queue ∧ s.tplAbort.1.engine = s.engine ∧
    s.tplAbort.1.carrier = s.carrier ∧ s.tplAbort.1.ind = s.ind ∧ s.tplAbort.1.keys = s.keys ∧
    s.tplAbort.1.kLines = s.kLines ∧ s.tplAbort.1.rx = s.rx ∧ s.tplAbort.1.matcher = s.matcher ∧
    s.tplAbort.1.tracker = s.tracker ∧ s.tplAbort.1.learn = s.learn ∧ s.tplAbort.1.link = s.link ∧
    s.tplAbort.1.store = s.store ∧ s.tplAbort.1.supply = s.supply ∧ s.tplAbort.1.doze = s.doze ∧
    s.tplAbort.1.freeUses = s.freeUses ∧ s.tplAbort.1.pending = s.pending := by
  unfold State.tplAbort; split <;> simp [State.heldInReset_eq]

@[simp] theorem State.draftExpires_frame (s : State) :
   s.draftExpires.now = s.now ∧ s.draftExpires.heldInReset = s.heldInReset ∧
    s.draftExpires.resetLow = s.resetLow ∧ s.draftExpires.settings = s.settings ∧
    s.draftExpires.queue = s.queue ∧ s.draftExpires.engine = s.engine ∧
    s.draftExpires.carrier = s.carrier ∧ s.draftExpires.ind = s.ind ∧ s.draftExpires.keys = s.keys ∧
    s.draftExpires.kLines = s.kLines ∧ s.draftExpires.rx = s.rx ∧
    s.draftExpires.matcher = s.matcher ∧ s.draftExpires.tracker = s.tracker ∧
    s.draftExpires.learn = s.learn ∧ s.draftExpires.link.replies = s.link.replies ∧
    s.draftExpires.link.intake = s.link.intake ∧ s.draftExpires.link.handler = s.link.handler ∧
    s.draftExpires.link.cache = s.link.cache ∧ s.draftExpires.link.receiver = s.link.receiver ∧
    s.draftExpires.link.interByte = s.link.interByte ∧
    s.draftExpires.link.listenFrom = s.link.listenFrom ∧ s.draftExpires.link.seq = s.link.seq ∧
    s.draftExpires.link.fast = s.link.fast ∧ s.draftExpires.store = s.store ∧
    s.draftExpires.supply = s.supply ∧ s.draftExpires.doze = s.doze ∧
    s.draftExpires.freeUses = s.freeUses ∧ s.draftExpires.pending = s.pending := by
  unfold State.draftExpires; (repeat' split) <;> simp [State.heldInReset_eq]

@[simp] theorem State.tplErase_frame (t : Fin 16) (s : State) :
   (s.tplErase t).1.now = s.now ∧ (s.tplErase t).1.heldInReset = s.heldInReset ∧
    (s.tplErase t).1.resetLow = s.resetLow ∧ (s.tplErase t).1.settings = s.settings ∧
    (s.tplErase t).1.lib.draft = s.lib.draft ∧ (s.tplErase t).1.queue = s.queue ∧
    (s.tplErase t).1.engine = s.engine ∧ (s.tplErase t).1.carrier = s.carrier ∧
    (s.tplErase t).1.ind = s.ind ∧ (s.tplErase t).1.keys = s.keys ∧
    (s.tplErase t).1.kLines = s.kLines ∧ (s.tplErase t).1.rx = s.rx ∧
    (s.tplErase t).1.learn = s.learn ∧ (s.tplErase t).1.link.replies = s.link.replies ∧
    (s.tplErase t).1.link.intake = s.link.intake ∧ (s.tplErase t).1.link.handler = s.link.handler ∧
    (s.tplErase t).1.link.cache = s.link.cache ∧ (s.tplErase t).1.link.receiver = s.link.receiver ∧
    (s.tplErase t).1.link.interByte = s.link.interByte ∧
    (s.tplErase t).1.link.listenFrom = s.link.listenFrom ∧ (s.tplErase t).1.link.seq = s.link.seq ∧
    (s.tplErase t).1.link.fast = s.link.fast ∧ (s.tplErase t).1.store = s.store ∧
    (s.tplErase t).1.supply = s.supply ∧ (s.tplErase t).1.doze = s.doze ∧
    (s.tplErase t).1.pending = s.pending := by
  unfold State.tplErase; (repeat' split) <;> simp [State.heldInReset_eq]

@[simp] theorem State.readStored_frame (t : Fin 16) (p : Part) (s : State) :
   (s.readStored t p).1.now = s.now ∧ (s.readStored t p).1.heldInReset = s.heldInReset ∧
    (s.readStored t p).1.resetLow = s.resetLow ∧ (s.readStored t p).1.settings = s.settings ∧
    (s.readStored t p).1.lib = s.lib ∧ (s.readStored t p).1.queue = s.queue ∧
    (s.readStored t p).1.engine = s.engine ∧ (s.readStored t p).1.carrier = s.carrier ∧
    (s.readStored t p).1.ind = s.ind ∧ (s.readStored t p).1.keys = s.keys ∧
    (s.readStored t p).1.kLines = s.kLines ∧ (s.readStored t p).1.rx = s.rx ∧
    (s.readStored t p).1.matcher = s.matcher ∧ (s.readStored t p).1.tracker = s.tracker ∧
    (s.readStored t p).1.learn = s.learn ∧ (s.readStored t p).1.link = s.link ∧
    (s.readStored t p).1.store = s.store ∧ (s.readStored t p).1.supply = s.supply ∧
    (s.readStored t p).1.doze = s.doze ∧ (s.readStored t p).1.freeUses = s.freeUses ∧
    (s.readStored t p).1.pending = s.pending := by
  unfold State.readStored; split <;> simp [State.heldInReset_eq]

@[simp] theorem State.readDraft_frame (t : Fin 16) (p : Part) (s : State) :
   (s.readDraft t p).1.now = s.now ∧ (s.readDraft t p).1.heldInReset = s.heldInReset ∧
    (s.readDraft t p).1.resetLow = s.resetLow ∧ (s.readDraft t p).1.settings = s.settings ∧
    (s.readDraft t p).1.lib.slots = s.lib.slots ∧ (s.readDraft t p).1.queue = s.queue ∧
    (s.readDraft t p).1.engine = s.engine ∧ (s.readDraft t p).1.carrier = s.carrier ∧
    (s.readDraft t p).1.ind = s.ind ∧ (s.readDraft t p).1.keys = s.keys ∧
    (s.readDraft t p).1.kLines = s.kLines ∧ (s.readDraft t p).1.rx = s.rx ∧
    (s.readDraft t p).1.matcher = s.matcher ∧ (s.readDraft t p).1.tracker = s.tracker ∧
    (s.readDraft t p).1.learn = s.learn ∧ (s.readDraft t p).1.link = s.link ∧
    (s.readDraft t p).1.store = s.store ∧ (s.readDraft t p).1.supply = s.supply ∧
    (s.readDraft t p).1.doze = s.doze ∧ (s.readDraft t p).1.freeUses = s.freeUses ∧
    (s.readDraft t p).1.pending = s.pending := by
  unfold State.readDraft; (repeat' split) <;> simp [State.heldInReset_eq]

@[simp] theorem State.beginSave_frame (s : State) :
   s.beginSave.now = s.now ∧ s.beginSave.heldInReset = s.heldInReset ∧
    s.beginSave.resetLow = s.resetLow ∧ s.beginSave.settings = s.settings ∧
    s.beginSave.lib = s.lib ∧ s.beginSave.queue = s.queue ∧ s.beginSave.engine = s.engine ∧
    s.beginSave.carrier = s.carrier ∧ s.beginSave.ind = s.ind ∧ s.beginSave.keys = s.keys ∧
    s.beginSave.kLines = s.kLines ∧ s.beginSave.rx = s.rx ∧ s.beginSave.matcher = s.matcher ∧
    s.beginSave.tracker = s.tracker ∧ s.beginSave.learn = s.learn ∧ s.beginSave.link = s.link ∧
    s.beginSave.supply = s.supply ∧ s.beginSave.doze = s.doze ∧ s.beginSave.freeUses = s.freeUses ∧
    s.beginSave.pending = s.pending := by
  simp [State.heldInReset_eq, State.beginSave]

@[simp] theorem State.save_frame (s : State) :
   s.save.1.now = s.now ∧ s.save.1.heldInReset = s.heldInReset ∧ s.save.1.resetLow = s.resetLow ∧
    s.save.1.settings = s.settings ∧ s.save.1.lib = s.lib ∧ s.save.1.queue = s.queue ∧
    s.save.1.engine = s.engine ∧ s.save.1.carrier = s.carrier ∧ s.save.1.ind = s.ind ∧
    s.save.1.keys = s.keys ∧ s.save.1.kLines = s.kLines ∧ s.save.1.rx = s.rx ∧
    s.save.1.matcher = s.matcher ∧ s.save.1.tracker = s.tracker ∧ s.save.1.learn = s.learn ∧
    s.save.1.link = s.link ∧ s.save.1.supply = s.supply ∧ s.save.1.doze = s.doze ∧
    s.save.1.freeUses = s.freeUses ∧ s.save.1.pending = s.pending := by
  unfold State.save; (repeat' split) <;> simp [State.heldInReset_eq]

@[simp] theorem State.writeCompletes_frame (s : State) :
   s.writeCompletes.now = s.now ∧ s.writeCompletes.heldInReset = s.heldInReset ∧
    s.writeCompletes.resetLow = s.resetLow ∧ s.writeCompletes.settings = s.settings ∧
    s.writeCompletes.lib = s.lib ∧ s.writeCompletes.queue = s.queue ∧
    s.writeCompletes.engine = s.engine ∧ s.writeCompletes.carrier = s.carrier ∧
    s.writeCompletes.ind = s.ind ∧ s.writeCompletes.keys = s.keys ∧
    s.writeCompletes.kLines = s.kLines ∧ s.writeCompletes.rx = s.rx ∧
    s.writeCompletes.matcher = s.matcher ∧ s.writeCompletes.tracker = s.tracker ∧
    s.writeCompletes.learn = s.learn ∧ s.writeCompletes.link.replies = s.link.replies ∧
    s.writeCompletes.link.intake = s.link.intake ∧ s.writeCompletes.link.handler = s.link.handler ∧
    s.writeCompletes.link.cache = s.link.cache ∧ s.writeCompletes.link.receiver = s.link.receiver ∧
    s.writeCompletes.link.interByte = s.link.interByte ∧
    s.writeCompletes.link.listenFrom = s.link.listenFrom ∧ s.writeCompletes.link.seq = s.link.seq ∧
    s.writeCompletes.link.fast = s.link.fast ∧ s.writeCompletes.supply = s.supply ∧
    s.writeCompletes.doze = s.doze ∧ s.writeCompletes.freeUses = s.freeUses ∧
    s.writeCompletes.pending = s.pending := by
  unfold State.writeCompletes; (repeat' split) <;> simp [State.heldInReset_eq]

@[simp] theorem State.wipe_frame (s : State) :
   s.wipe.1.now = s.now ∧ s.wipe.1.heldInReset = s.heldInReset ∧ s.wipe.1.resetLow = s.resetLow ∧
    s.wipe.1.settings = s.settings ∧ s.wipe.1.lib = s.lib ∧ s.wipe.1.queue = s.queue ∧
    s.wipe.1.engine = s.engine ∧ s.wipe.1.carrier = s.carrier ∧ s.wipe.1.ind = s.ind ∧
    s.wipe.1.keys = s.keys ∧ s.wipe.1.kLines = s.kLines ∧ s.wipe.1.rx = s.rx ∧
    s.wipe.1.matcher = s.matcher ∧ s.wipe.1.tracker = s.tracker ∧ s.wipe.1.learn = s.learn ∧
    s.wipe.1.link = s.link ∧ s.wipe.1.supply = s.supply ∧ s.wipe.1.doze = s.doze ∧
    s.wipe.1.freeUses = s.freeUses ∧ s.wipe.1.pending = s.pending := by
  unfold State.wipe; split <;> simp [State.heldInReset_eq]

@[simp] theorem State.eraseEnds_frame (s : State) :
   s.eraseEnds.now = s.now ∧ s.eraseEnds.heldInReset = s.heldInReset ∧
    s.eraseEnds.resetLow = s.resetLow ∧ s.eraseEnds.settings = s.settings ∧
    s.eraseEnds.lib = s.lib ∧ s.eraseEnds.queue = s.queue ∧ s.eraseEnds.engine = s.engine ∧
    s.eraseEnds.carrier = s.carrier ∧ s.eraseEnds.ind = s.ind ∧ s.eraseEnds.keys = s.keys ∧
    s.eraseEnds.kLines = s.kLines ∧ s.eraseEnds.rx = s.rx ∧ s.eraseEnds.matcher = s.matcher ∧
    s.eraseEnds.tracker = s.tracker ∧ s.eraseEnds.learn = s.learn ∧
    s.eraseEnds.link.replies = s.link.replies ∧ s.eraseEnds.link.intake = s.link.intake ∧
    s.eraseEnds.link.handler = s.link.handler ∧ s.eraseEnds.link.cache = s.link.cache ∧
    s.eraseEnds.link.receiver = s.link.receiver ∧ s.eraseEnds.link.interByte = s.link.interByte ∧
    s.eraseEnds.link.listenFrom = s.link.listenFrom ∧ s.eraseEnds.link.seq = s.link.seq ∧
    s.eraseEnds.link.fast = s.link.fast ∧ s.eraseEnds.supply = s.supply ∧
    s.eraseEnds.doze = s.doze ∧ s.eraseEnds.freeUses = s.freeUses ∧
    s.eraseEnds.pending = s.pending := by
  unfold State.eraseEnds; (repeat' split) <;> simp [State.heldInReset_eq]

@[simp] theorem State.abandonSave_frame (s : State) :
   s.abandonSave.now = s.now ∧ s.abandonSave.heldInReset = s.heldInReset ∧
    s.abandonSave.resetLow = s.resetLow ∧ s.abandonSave.settings = s.settings ∧
    s.abandonSave.lib = s.lib ∧ s.abandonSave.queue = s.queue ∧ s.abandonSave.engine = s.engine ∧
    s.abandonSave.carrier = s.carrier ∧ s.abandonSave.ind = s.ind ∧ s.abandonSave.keys = s.keys ∧
    s.abandonSave.kLines = s.kLines ∧ s.abandonSave.rx = s.rx ∧ s.abandonSave.matcher = s.matcher ∧
    s.abandonSave.tracker = s.tracker ∧ s.abandonSave.learn = s.learn ∧
    s.abandonSave.link.replies = s.link.replies ∧ s.abandonSave.link.intake = s.link.intake ∧
    s.abandonSave.link.handler = s.link.handler ∧ s.abandonSave.link.cache = s.link.cache ∧
    s.abandonSave.link.receiver = s.link.receiver ∧
    s.abandonSave.link.interByte = s.link.interByte ∧
    s.abandonSave.link.listenFrom = s.link.listenFrom ∧ s.abandonSave.link.seq = s.link.seq ∧
    s.abandonSave.link.fast = s.link.fast ∧ s.abandonSave.store.bankA = s.store.bankA ∧
    s.abandonSave.store.bankB = s.store.bankB ∧ s.abandonSave.supply = s.supply ∧
    s.abandonSave.doze = s.doze ∧ s.abandonSave.freeUses = s.freeUses ∧
    s.abandonSave.pending = s.pending := by
  unfold State.abandonSave; split <;> simp [State.heldInReset_eq]

@[simp] theorem State.supplyBecomes_frame (low : Bool) (s : State) :
   (s.supplyBecomes low).now = s.now ∧ (s.supplyBecomes low).heldInReset = s.heldInReset ∧
    (s.supplyBecomes low).resetLow = s.resetLow ∧ (s.supplyBecomes low).settings = s.settings ∧
    (s.supplyBecomes low).lib = s.lib ∧ (s.supplyBecomes low).queue = s.queue ∧
    (s.supplyBecomes low).engine = s.engine ∧ (s.supplyBecomes low).carrier = s.carrier ∧
    (s.supplyBecomes low).ind = s.ind ∧ (s.supplyBecomes low).keys = s.keys ∧
    (s.supplyBecomes low).kLines = s.kLines ∧ (s.supplyBecomes low).rx = s.rx ∧
    (s.supplyBecomes low).matcher = s.matcher ∧ (s.supplyBecomes low).tracker = s.tracker ∧
    (s.supplyBecomes low).learn = s.learn ∧ (s.supplyBecomes low).link.replies = s.link.replies ∧
    (s.supplyBecomes low).link.intake = s.link.intake ∧
    (s.supplyBecomes low).link.handler = s.link.handler ∧
    (s.supplyBecomes low).link.cache = s.link.cache ∧
    (s.supplyBecomes low).link.receiver = s.link.receiver ∧
    (s.supplyBecomes low).link.interByte = s.link.interByte ∧
    (s.supplyBecomes low).link.listenFrom = s.link.listenFrom ∧
    (s.supplyBecomes low).link.seq = s.link.seq ∧ (s.supplyBecomes low).link.fast = s.link.fast ∧
    (s.supplyBecomes low).store = s.store ∧ (s.supplyBecomes low).supply.vdd = s.supply.vdd ∧
    (s.supplyBecomes low).doze = s.doze ∧ (s.supplyBecomes low).freeUses = s.freeUses ∧
    (s.supplyBecomes low).pending = s.pending := by
  simp [State.heldInReset_eq, State.supplyBecomes]

@[simp] theorem State.compareSupply_frame (s : State) :
   s.compareSupply.now = s.now ∧ s.compareSupply.heldInReset = s.heldInReset ∧
    s.compareSupply.resetLow = s.resetLow ∧ s.compareSupply.settings = s.settings ∧
    s.compareSupply.lib = s.lib ∧ s.compareSupply.queue = s.queue ∧
    s.compareSupply.engine = s.engine ∧ s.compareSupply.carrier = s.carrier ∧
    s.compareSupply.ind = s.ind ∧ s.compareSupply.keys = s.keys ∧
    s.compareSupply.kLines = s.kLines ∧ s.compareSupply.rx = s.rx ∧
    s.compareSupply.matcher = s.matcher ∧ s.compareSupply.tracker = s.tracker ∧
    s.compareSupply.learn = s.learn ∧ s.compareSupply.link.replies = s.link.replies ∧
    s.compareSupply.link.intake = s.link.intake ∧ s.compareSupply.link.handler = s.link.handler ∧
    s.compareSupply.link.cache = s.link.cache ∧ s.compareSupply.link.receiver = s.link.receiver ∧
    s.compareSupply.link.interByte = s.link.interByte ∧
    s.compareSupply.link.listenFrom = s.link.listenFrom ∧ s.compareSupply.link.seq = s.link.seq ∧
    s.compareSupply.link.fast = s.link.fast ∧ s.compareSupply.store.bankA = s.store.bankA ∧
    s.compareSupply.store.bankB = s.store.bankB ∧ s.compareSupply.supply.vdd = s.supply.vdd ∧
    s.compareSupply.doze = s.doze ∧ s.compareSupply.freeUses = s.freeUses ∧
    s.compareSupply.pending = s.pending := by
  unfold State.compareSupply; (repeat' split) <;> simp [State.heldInReset_eq]

@[simp] theorem State.settingActs_frame (i : SettingId) (old : BitVec 8) (s : State) :
   (s.settingActs i old).now = s.now ∧ (s.settingActs i old).heldInReset = s.heldInReset ∧
    (s.settingActs i old).resetLow = s.resetLow ∧ (s.settingActs i old).settings = s.settings ∧
    (s.settingActs i old).lib = s.lib ∧ (s.settingActs i old).queue = s.queue ∧
    (s.settingActs i old).engine = s.engine ∧ (s.settingActs i old).carrier = s.carrier ∧
    (s.settingActs i old).ind = s.ind ∧ (s.settingActs i old).kLines = s.kLines ∧
    (s.settingActs i old).rx.lineHigh = s.rx.lineHigh ∧
    (s.settingActs i old).rx.blankTail = s.rx.blankTail ∧
    (s.settingActs i old).rx.nextOrder = s.rx.nextOrder ∧
    (s.settingActs i old).tracker = s.tracker ∧ (s.settingActs i old).learn = s.learn ∧
    (s.settingActs i old).link.replies = s.link.replies ∧
    (s.settingActs i old).link.intake = s.link.intake ∧
    (s.settingActs i old).link.handler = s.link.handler ∧
    (s.settingActs i old).link.cache = s.link.cache ∧
    (s.settingActs i old).link.receiver = s.link.receiver ∧
    (s.settingActs i old).link.interByte = s.link.interByte ∧
    (s.settingActs i old).link.listenFrom = s.link.listenFrom ∧
    (s.settingActs i old).link.seq = s.link.seq ∧ (s.settingActs i old).link.fast = s.link.fast ∧
    (s.settingActs i old).store.bankA = s.store.bankA ∧
    (s.settingActs i old).store.bankB = s.store.bankB ∧
    (s.settingActs i old).supply.vdd = s.supply.vdd ∧ (s.settingActs i old).doze = s.doze ∧
    (s.settingActs i old).freeUses = s.freeUses ∧ (s.settingActs i old).pending = s.pending := by
  unfold State.settingActs; (repeat' split) <;> simp [State.heldInReset_eq]

@[simp] theorem State.putSetting_frame (i : SettingId) (v : Nat) (s : State) :
   (s.putSetting i v).now = s.now ∧ (s.putSetting i v).heldInReset = s.heldInReset ∧
    (s.putSetting i v).resetLow = s.resetLow ∧ (s.putSetting i v).lib = s.lib ∧
    (s.putSetting i v).queue = s.queue ∧ (s.putSetting i v).engine = s.engine ∧
    (s.putSetting i v).carrier = s.carrier ∧ (s.putSetting i v).ind = s.ind ∧
    (s.putSetting i v).kLines = s.kLines ∧ (s.putSetting i v).rx.lineHigh = s.rx.lineHigh ∧
    (s.putSetting i v).rx.blankTail = s.rx.blankTail ∧
    (s.putSetting i v).rx.nextOrder = s.rx.nextOrder ∧ (s.putSetting i v).tracker = s.tracker ∧
    (s.putSetting i v).learn = s.learn ∧ (s.putSetting i v).link.replies = s.link.replies ∧
    (s.putSetting i v).link.intake = s.link.intake ∧
    (s.putSetting i v).link.handler = s.link.handler ∧
    (s.putSetting i v).link.cache = s.link.cache ∧
    (s.putSetting i v).link.receiver = s.link.receiver ∧
    (s.putSetting i v).link.interByte = s.link.interByte ∧
    (s.putSetting i v).link.listenFrom = s.link.listenFrom ∧
    (s.putSetting i v).link.seq = s.link.seq ∧ (s.putSetting i v).link.fast = s.link.fast ∧
    (s.putSetting i v).store.bankA = s.store.bankA ∧
    (s.putSetting i v).store.bankB = s.store.bankB ∧ (s.putSetting i v).supply.vdd = s.supply.vdd ∧
    (s.putSetting i v).doze = s.doze ∧ (s.putSetting i v).freeUses = s.freeUses ∧
    (s.putSetting i v).pending = s.pending := by
  unfold State.putSetting; split <;> simp [State.heldInReset_eq]

@[simp] theorem State.setSetting_frame (id : Byte) (v : Nat) (s : State) :
   (s.setSetting id v).1.now = s.now ∧ (s.setSetting id v).1.heldInReset = s.heldInReset ∧
    (s.setSetting id v).1.resetLow = s.resetLow ∧ (s.setSetting id v).1.lib = s.lib ∧
    (s.setSetting id v).1.queue = s.queue ∧ (s.setSetting id v).1.engine = s.engine ∧
    (s.setSetting id v).1.carrier = s.carrier ∧ (s.setSetting id v).1.ind = s.ind ∧
    (s.setSetting id v).1.kLines = s.kLines ∧ (s.setSetting id v).1.rx.lineHigh = s.rx.lineHigh ∧
    (s.setSetting id v).1.rx.blankTail = s.rx.blankTail ∧
    (s.setSetting id v).1.rx.nextOrder = s.rx.nextOrder ∧
    (s.setSetting id v).1.tracker = s.tracker ∧ (s.setSetting id v).1.learn = s.learn ∧
    (s.setSetting id v).1.link.replies = s.link.replies ∧
    (s.setSetting id v).1.link.intake = s.link.intake ∧
    (s.setSetting id v).1.link.handler = s.link.handler ∧
    (s.setSetting id v).1.link.cache = s.link.cache ∧
    (s.setSetting id v).1.link.receiver = s.link.receiver ∧
    (s.setSetting id v).1.link.interByte = s.link.interByte ∧
    (s.setSetting id v).1.link.listenFrom = s.link.listenFrom ∧
    (s.setSetting id v).1.link.seq = s.link.seq ∧ (s.setSetting id v).1.link.fast = s.link.fast ∧
    (s.setSetting id v).1.store.bankA = s.store.bankA ∧
    (s.setSetting id v).1.store.bankB = s.store.bankB ∧
    (s.setSetting id v).1.supply.vdd = s.supply.vdd ∧ (s.setSetting id v).1.doze = s.doze ∧
    (s.setSetting id v).1.freeUses = s.freeUses ∧ (s.setSetting id v).1.pending = s.pending := by
  unfold State.setSetting; (repeat' split) <;> simp [State.heldInReset_eq]

@[simp] theorem State.getSetting_frame (id : Byte) (s : State) :
   (s.getSetting id).1.now = s.now ∧ (s.getSetting id).1.heldInReset = s.heldInReset ∧
    (s.getSetting id).1.resetLow = s.resetLow ∧ (s.getSetting id).1.settings = s.settings ∧
    (s.getSetting id).1.lib = s.lib ∧ (s.getSetting id).1.queue = s.queue ∧
    (s.getSetting id).1.engine = s.engine ∧ (s.getSetting id).1.carrier = s.carrier ∧
    (s.getSetting id).1.ind = s.ind ∧ (s.getSetting id).1.keys = s.keys ∧
    (s.getSetting id).1.kLines = s.kLines ∧ (s.getSetting id).1.rx = s.rx ∧
    (s.getSetting id).1.matcher = s.matcher ∧ (s.getSetting id).1.tracker = s.tracker ∧
    (s.getSetting id).1.learn = s.learn ∧ (s.getSetting id).1.link = s.link ∧
    (s.getSetting id).1.store = s.store ∧ (s.getSetting id).1.supply = s.supply ∧
    (s.getSetting id).1.doze = s.doze ∧ (s.getSetting id).1.freeUses = s.freeUses ∧
    (s.getSetting id).1.pending = s.pending := by
  unfold State.getSetting; split <;> simp [State.heldInReset_eq]

end Sys2Proof.Machine
end

