-- ==== Sys2Proof/Laws/Doze.lean ====
section
/-! SUPPORT. What Doze Control, the learn requests and the resets leave unchanged: for each operation one
lemma that lists every field of the state, or of its part, that the operation does not touch; and what
a power-on reset, a pin reset and a move of VDD can do. -/

namespace Sys2Proof.Machine

@[simp] theorem State.settle_frame (s : State) :
   s.settle.now = s.now ∧ s.settle.heldInReset = s.heldInReset ∧ s.settle.resetLow = s.resetLow ∧
    s.settle.settings = s.settings ∧ s.settle.lib = s.lib ∧ s.settle.queue = s.queue ∧
    s.settle.engine = s.engine ∧ s.settle.carrier = s.carrier ∧ s.settle.ind = s.ind ∧
    s.settle.keys = s.keys ∧ s.settle.kLines = s.kLines ∧ s.settle.rx = s.rx ∧
    s.settle.matcher = s.matcher ∧ s.settle.tracker = s.tracker ∧ s.settle.learn = s.learn ∧
    s.settle.link = s.link ∧ s.settle.store = s.store ∧ s.settle.supply = s.supply ∧
    s.settle.doze.state = s.doze.state ∧ s.settle.freeUses = s.freeUses ∧
    s.settle.pending = s.pending := by
  simp [State.heldInReset_eq, State.settle]

@[simp] theorem Library.mapExpiry_frame (f : Timer → Timer) (l : Library) :
   (l.mapExpiry f).slots = l.slots := by
  simp [Library.mapExpiry]

@[simp] theorem Link.mapWindow_frame (f : Timer → Timer) (l : Link) :
   (l.mapWindow f).receiver = l.receiver ∧ (l.mapWindow f).interByte = l.interByte ∧
    (l.mapWindow f).listenFrom = l.listenFrom ∧ (l.mapWindow f).intake = l.intake ∧
    (l.mapWindow f).handler = l.handler ∧ (l.mapWindow f).replies = l.replies ∧
    (l.mapWindow f).notices = l.notices ∧ (l.mapWindow f).lost = l.lost ∧
    (l.mapWindow f).seq = l.seq ∧ (l.mapWindow f).sending = l.sending ∧
    (l.mapWindow f).fast = l.fast := by
  simp [Link.mapWindow]

@[simp] theorem State.mapTimers_frame (f : Timer → Timer) (s : State) :
   (s.mapTimers f).now = s.now ∧ (s.mapTimers f).heldInReset = s.heldInReset ∧
    (s.mapTimers f).resetLow = s.resetLow ∧ (s.mapTimers f).settings = s.settings ∧
    (s.mapTimers f).lib.slots = s.lib.slots ∧ (s.mapTimers f).queue = s.queue ∧
    (s.mapTimers f).engine.state = s.engine.state ∧
    (s.mapTimers f).engine.current = s.engine.current ∧
    (s.mapTimers f).engine.emitting = s.engine.emitting ∧
    (s.mapTimers f).engine.buffer = s.engine.buffer ∧
    (s.mapTimers f).engine.position = s.engine.position ∧ (s.mapTimers f).carrier = s.carrier ∧
    (s.mapTimers f).ind = s.ind ∧ (s.mapTimers f).kLines = s.kLines ∧ (s.mapTimers f).rx = s.rx ∧
    (s.mapTimers f).matcher = s.matcher ∧ (s.mapTimers f).tracker = s.tracker ∧
    (s.mapTimers f).learn = s.learn ∧ (s.mapTimers f).link.replies = s.link.replies ∧
    (s.mapTimers f).link.intake = s.link.intake ∧ (s.mapTimers f).link.handler = s.link.handler ∧
    (s.mapTimers f).link.receiver = s.link.receiver ∧
    (s.mapTimers f).link.interByte = s.link.interByte ∧
    (s.mapTimers f).link.listenFrom = s.link.listenFrom ∧ (s.mapTimers f).link.seq = s.link.seq ∧
    (s.mapTimers f).link.fast = s.link.fast ∧ (s.mapTimers f).link.notices = s.link.notices ∧
    (s.mapTimers f).link.sending = s.link.sending ∧ (s.mapTimers f).store = s.store ∧
    (s.mapTimers f).supply = s.supply ∧ (s.mapTimers f).doze = s.doze ∧
    (s.mapTimers f).freeUses = s.freeUses ∧ (s.mapTimers f).pending = s.pending := by
  simp [State.heldInReset_eq, State.mapTimers]

@[simp] theorem State.enterDoze_frame (s : State) :
   s.enterDoze.now = s.now ∧ s.enterDoze.heldInReset = s.heldInReset ∧
    s.enterDoze.resetLow = s.resetLow ∧ s.enterDoze.settings = s.settings ∧
    s.enterDoze.lib.slots = s.lib.slots ∧ s.enterDoze.queue = s.queue ∧
    s.enterDoze.engine.state = s.engine.state ∧ s.enterDoze.engine.current = s.engine.current ∧
    s.enterDoze.engine.emitting = s.engine.emitting ∧ s.enterDoze.engine.buffer = s.engine.buffer ∧
    s.enterDoze.engine.position = s.engine.position ∧ s.enterDoze.carrier = s.carrier ∧
    s.enterDoze.kLines = s.kLines ∧ s.enterDoze.rx.state = s.rx.state ∧
    s.enterDoze.rx.lineHigh = s.rx.lineHigh ∧ s.enterDoze.rx.filtered = s.rx.filtered ∧
    s.enterDoze.rx.blankTail = s.rx.blankTail ∧ s.enterDoze.rx.burstEnd = s.rx.burstEnd ∧
    s.enterDoze.rx.markLimit = s.rx.markLimit ∧ s.enterDoze.rx.slotA = s.rx.slotA ∧
    s.enterDoze.rx.slotB = s.rx.slotB ∧ s.enterDoze.rx.nextOrder = s.rx.nextOrder ∧
    s.enterDoze.rx.lastEdge = s.rx.lastEdge ∧ s.enterDoze.matcher = s.matcher ∧
    s.enterDoze.tracker = s.tracker ∧ s.enterDoze.learn = s.learn ∧
    s.enterDoze.link.replies = s.link.replies ∧ s.enterDoze.link.intake = s.link.intake ∧
    s.enterDoze.link.handler = s.link.handler ∧ s.enterDoze.link.receiver = s.link.receiver ∧
    s.enterDoze.link.interByte = s.link.interByte ∧
    s.enterDoze.link.listenFrom = s.link.listenFrom ∧ s.enterDoze.link.seq = s.link.seq ∧
    s.enterDoze.link.fast = s.link.fast ∧ s.enterDoze.link.notices = s.link.notices ∧
    s.enterDoze.link.sending = s.link.sending ∧ s.enterDoze.store = s.store ∧
    s.enterDoze.supply = s.supply ∧ s.enterDoze.freeUses = s.freeUses ∧
    s.enterDoze.pending = s.pending := by
  simp [State.heldInReset_eq, State.enterDoze]

@[simp] theorem State.delayExpires_frame (s : State) :
   s.delayExpires.now = s.now ∧ s.delayExpires.heldInReset = s.heldInReset ∧
    s.delayExpires.resetLow = s.resetLow ∧ s.delayExpires.settings = s.settings ∧
    s.delayExpires.lib.slots = s.lib.slots ∧ s.delayExpires.queue = s.queue ∧
    s.delayExpires.engine.state = s.engine.state ∧
    s.delayExpires.engine.current = s.engine.current ∧
    s.delayExpires.engine.emitting = s.engine.emitting ∧
    s.delayExpires.engine.buffer = s.engine.buffer ∧
    s.delayExpires.engine.position = s.engine.position ∧ s.delayExpires.carrier = s.carrier ∧
    s.delayExpires.kLines = s.kLines ∧ s.delayExpires.rx.state = s.rx.state ∧
    s.delayExpires.rx.lineHigh = s.rx.lineHigh ∧ s.delayExpires.rx.filtered = s.rx.filtered ∧
    s.delayExpires.rx.blankTail = s.rx.blankTail ∧ s.delayExpires.rx.burstEnd = s.rx.burstEnd ∧
    s.delayExpires.rx.markLimit = s.rx.markLimit ∧ s.delayExpires.rx.slotA = s.rx.slotA ∧
    s.delayExpires.rx.slotB = s.rx.slotB ∧ s.delayExpires.rx.nextOrder = s.rx.nextOrder ∧
    s.delayExpires.rx.lastEdge = s.rx.lastEdge ∧ s.delayExpires.matcher = s.matcher ∧
    s.delayExpires.tracker = s.tracker ∧ s.delayExpires.learn = s.learn ∧
    s.delayExpires.link.replies = s.link.replies ∧ s.delayExpires.link.intake = s.link.intake ∧
    s.delayExpires.link.handler = s.link.handler ∧ s.delayExpires.link.receiver = s.link.receiver ∧
    s.delayExpires.link.interByte = s.link.interByte ∧
    s.delayExpires.link.listenFrom = s.link.listenFrom ∧ s.delayExpires.link.seq = s.link.seq ∧
    s.delayExpires.link.fast = s.link.fast ∧ s.delayExpires.link.notices = s.link.notices ∧
    s.delayExpires.link.sending = s.link.sending ∧ s.delayExpires.store = s.store ∧
    s.delayExpires.supply = s.supply ∧ s.delayExpires.freeUses = s.freeUses ∧
    s.delayExpires.pending = s.pending := by
  unfold State.delayExpires; split <;> simp [State.heldInReset_eq]

@[simp] theorem State.wake_frame (byRxin : Bool) (s : State) :
   (s.wake byRxin).now = s.now ∧ (s.wake byRxin).heldInReset = s.heldInReset ∧
    (s.wake byRxin).resetLow = s.resetLow ∧ (s.wake byRxin).settings = s.settings ∧
    (s.wake byRxin).lib = s.lib ∧ (s.wake byRxin).queue = s.queue ∧
    (s.wake byRxin).engine = s.engine ∧ (s.wake byRxin).carrier = s.carrier ∧
    (s.wake byRxin).ind = s.ind ∧ (s.wake byRxin).keys = s.keys ∧
    (s.wake byRxin).kLines = s.kLines ∧ (s.wake byRxin).rx = s.rx ∧
    (s.wake byRxin).matcher = s.matcher ∧ (s.wake byRxin).tracker = s.tracker ∧
    (s.wake byRxin).learn = s.learn ∧ (s.wake byRxin).link = s.link ∧
    (s.wake byRxin).store = s.store ∧ (s.wake byRxin).supply = s.supply ∧
    (s.wake byRxin).freeUses = s.freeUses ∧ (s.wake byRxin).pending = s.pending := by
  unfold State.wake; split <;> simp [State.heldInReset_eq]

@[simp] theorem State.keyLineChanges_frame (k : Fin 8) (high : Bool) (s : State) :
   (s.keyLineChanges k high).now = s.now ∧ (s.keyLineChanges k high).heldInReset = s.heldInReset ∧
    (s.keyLineChanges k high).resetLow = s.resetLow ∧
    (s.keyLineChanges k high).settings = s.settings ∧ (s.keyLineChanges k high).lib = s.lib ∧
    (s.keyLineChanges k high).queue = s.queue ∧ (s.keyLineChanges k high).engine = s.engine ∧
    (s.keyLineChanges k high).carrier = s.carrier ∧ (s.keyLineChanges k high).ind = s.ind ∧
    (s.keyLineChanges k high).rx = s.rx ∧ (s.keyLineChanges k high).matcher = s.matcher ∧
    (s.keyLineChanges k high).tracker = s.tracker ∧ (s.keyLineChanges k high).learn = s.learn ∧
    (s.keyLineChanges k high).link = s.link ∧ (s.keyLineChanges k high).store = s.store ∧
    (s.keyLineChanges k high).supply = s.supply ∧ (s.keyLineChanges k high).freeUses = s.freeUses ∧
    (s.keyLineChanges k high).pending = s.pending := by
  unfold State.keyLineChanges; (repeat' split) <;> simp [State.heldInReset_eq]

@[simp] theorem State.wakeOnMark_frame (s : State) :
   s.wakeOnMark.now = s.now ∧ s.wakeOnMark.heldInReset = s.heldInReset ∧
    s.wakeOnMark.resetLow = s.resetLow ∧ s.wakeOnMark.settings = s.settings ∧
    s.wakeOnMark.lib = s.lib ∧ s.wakeOnMark.queue = s.queue ∧ s.wakeOnMark.engine = s.engine ∧
    s.wakeOnMark.carrier = s.carrier ∧ s.wakeOnMark.ind = s.ind ∧ s.wakeOnMark.keys = s.keys ∧
    s.wakeOnMark.kLines = s.kLines ∧ s.wakeOnMark.rx = s.rx ∧ s.wakeOnMark.matcher = s.matcher ∧
    s.wakeOnMark.tracker = s.tracker ∧ s.wakeOnMark.learn = s.learn ∧ s.wakeOnMark.link = s.link ∧
    s.wakeOnMark.store = s.store ∧ s.wakeOnMark.supply = s.supply ∧
    s.wakeOnMark.freeUses = s.freeUses ∧ s.wakeOnMark.pending = s.pending := by
  unfold State.wakeOnMark; split <;> simp [State.heldInReset_eq]

@[simp] theorem State.rxinChanges_frame (high : Bool) (s : State) :
   (s.rxinChanges high).now = s.now ∧ (s.rxinChanges high).heldInReset = s.heldInReset ∧
    (s.rxinChanges high).resetLow = s.resetLow ∧ (s.rxinChanges high).settings = s.settings ∧
    (s.rxinChanges high).lib = s.lib ∧ (s.rxinChanges high).queue = s.queue ∧
    (s.rxinChanges high).engine = s.engine ∧ (s.rxinChanges high).carrier = s.carrier ∧
    (s.rxinChanges high).ind = s.ind ∧ (s.rxinChanges high).keys = s.keys ∧
    (s.rxinChanges high).kLines = s.kLines ∧ (s.rxinChanges high).rx.blankTail = s.rx.blankTail ∧
    (s.rxinChanges high).rx.nextOrder = s.rx.nextOrder ∧ (s.rxinChanges high).matcher = s.matcher ∧
    (s.rxinChanges high).tracker = s.tracker ∧ (s.rxinChanges high).learn = s.learn ∧
    (s.rxinChanges high).link.replies = s.link.replies ∧
    (s.rxinChanges high).link.intake = s.link.intake ∧
    (s.rxinChanges high).link.handler = s.link.handler ∧
    (s.rxinChanges high).link.cache = s.link.cache ∧
    (s.rxinChanges high).link.receiver = s.link.receiver ∧
    (s.rxinChanges high).link.interByte = s.link.interByte ∧
    (s.rxinChanges high).link.listenFrom = s.link.listenFrom ∧
    (s.rxinChanges high).link.seq = s.link.seq ∧ (s.rxinChanges high).link.fast = s.link.fast ∧
    (s.rxinChanges high).store = s.store ∧ (s.rxinChanges high).supply = s.supply ∧
    (s.rxinChanges high).freeUses = s.freeUses ∧ (s.rxinChanges high).pending = s.pending := by
  unfold State.rxinChanges; (repeat' split) <;> simp [State.heldInReset_eq]

@[simp] theorem State.discardAtWake_frame (s : State) :
   s.discardAtWake.now = s.now ∧ s.discardAtWake.heldInReset = s.heldInReset ∧
    s.discardAtWake.resetLow = s.resetLow ∧ s.discardAtWake.settings = s.settings ∧
    s.discardAtWake.lib = s.lib ∧ s.discardAtWake.queue = s.queue ∧
    s.discardAtWake.engine = s.engine ∧ s.discardAtWake.carrier = s.carrier ∧
    s.discardAtWake.ind = s.ind ∧ s.discardAtWake.keys = s.keys ∧
    s.discardAtWake.kLines = s.kLines ∧ s.discardAtWake.rx.lineHigh = s.rx.lineHigh ∧
    s.discardAtWake.rx.filtered = s.rx.filtered ∧ s.discardAtWake.rx.blankTail = s.rx.blankTail ∧
    s.discardAtWake.rx.markLimit = s.rx.markLimit ∧ s.discardAtWake.rx.slotA = s.rx.slotA ∧
    s.discardAtWake.rx.slotB = s.rx.slotB ∧ s.discardAtWake.rx.nextOrder = s.rx.nextOrder ∧
    s.discardAtWake.rx.candidate = s.rx.candidate ∧ s.discardAtWake.matcher = s.matcher ∧
    s.discardAtWake.tracker = s.tracker ∧ s.discardAtWake.learn = s.learn ∧
    s.discardAtWake.link = s.link ∧ s.discardAtWake.store = s.store ∧
    s.discardAtWake.supply = s.supply ∧ s.discardAtWake.doze = s.doze ∧
    s.discardAtWake.freeUses = s.freeUses ∧ s.discardAtWake.pending = s.pending := by
  simp [State.heldInReset_eq, State.discardAtWake]

@[simp] theorem State.resumeTimers_frame (s : State) :
   s.resumeTimers.now = s.now ∧ s.resumeTimers.heldInReset = s.heldInReset ∧
    s.resumeTimers.resetLow = s.resetLow ∧ s.resumeTimers.settings = s.settings ∧
    s.resumeTimers.lib.slots = s.lib.slots ∧ s.resumeTimers.queue = s.queue ∧
    s.resumeTimers.engine.state = s.engine.state ∧
    s.resumeTimers.engine.current = s.engine.current ∧
    s.resumeTimers.engine.emitting = s.engine.emitting ∧
    s.resumeTimers.engine.buffer = s.engine.buffer ∧
    s.resumeTimers.engine.position = s.engine.position ∧ s.resumeTimers.carrier = s.carrier ∧
    s.resumeTimers.ind = s.ind ∧ s.resumeTimers.kLines = s.kLines ∧ s.resumeTimers.rx = s.rx ∧
    s.resumeTimers.matcher = s.matcher ∧ s.resumeTimers.tracker = s.tracker ∧
    s.resumeTimers.learn = s.learn ∧ s.resumeTimers.link.replies = s.link.replies ∧
    s.resumeTimers.link.intake = s.link.intake ∧ s.resumeTimers.link.handler = s.link.handler ∧
    s.resumeTimers.link.receiver = s.link.receiver ∧
    s.resumeTimers.link.interByte = s.link.interByte ∧ s.resumeTimers.link.seq = s.link.seq ∧
    s.resumeTimers.link.fast = s.link.fast ∧ s.resumeTimers.link.notices = s.link.notices ∧
    s.resumeTimers.link.sending = s.link.sending ∧ s.resumeTimers.store = s.store ∧
    s.resumeTimers.supply = s.supply ∧ s.resumeTimers.freeUses = s.freeUses ∧
    s.resumeTimers.pending = s.pending := by
  simp [State.heldInReset_eq, State.resumeTimers]

@[simp] theorem State.receiverWakes_frame (byRxin : Bool) (s : State) :
   (s.receiverWakes byRxin).now = s.now ∧ (s.receiverWakes byRxin).heldInReset = s.heldInReset ∧
    (s.receiverWakes byRxin).resetLow = s.resetLow ∧
    (s.receiverWakes byRxin).settings = s.settings ∧ (s.receiverWakes byRxin).lib = s.lib ∧
    (s.receiverWakes byRxin).queue = s.queue ∧ (s.receiverWakes byRxin).engine = s.engine ∧
    (s.receiverWakes byRxin).carrier = s.carrier ∧ (s.receiverWakes byRxin).ind = s.ind ∧
    (s.receiverWakes byRxin).keys = s.keys ∧ (s.receiverWakes byRxin).kLines = s.kLines ∧
    (s.receiverWakes byRxin).rx.lineHigh = s.rx.lineHigh ∧
    (s.receiverWakes byRxin).rx.blankTail = s.rx.blankTail ∧
    (s.receiverWakes byRxin).rx.markLimit = s.rx.markLimit ∧
    (s.receiverWakes byRxin).rx.slotA = s.rx.slotA ∧
    (s.receiverWakes byRxin).rx.slotB = s.rx.slotB ∧
    (s.receiverWakes byRxin).rx.nextOrder = s.rx.nextOrder ∧
    (s.receiverWakes byRxin).matcher = s.matcher ∧ (s.receiverWakes byRxin).tracker = s.tracker ∧
    (s.receiverWakes byRxin).learn = s.learn ∧ (s.receiverWakes byRxin).link = s.link ∧
    (s.receiverWakes byRxin).store = s.store ∧ (s.receiverWakes byRxin).supply = s.supply ∧
    (s.receiverWakes byRxin).doze = s.doze ∧ (s.receiverWakes byRxin).freeUses = s.freeUses ∧
    (s.receiverWakes byRxin).pending = s.pending := by
  unfold State.receiverWakes; split <;> simp [State.heldInReset_eq]

@[simp] theorem State.becomeAwake_frame (byRxin : Bool) (s : State) :
   (s.becomeAwake byRxin).now = s.now ∧ (s.becomeAwake byRxin).heldInReset = s.heldInReset ∧
    (s.becomeAwake byRxin).resetLow = s.resetLow ∧ (s.becomeAwake byRxin).settings = s.settings ∧
    (s.becomeAwake byRxin).lib.slots = s.lib.slots ∧ (s.becomeAwake byRxin).queue = s.queue ∧
    (s.becomeAwake byRxin).engine.state = s.engine.state ∧
    (s.becomeAwake byRxin).engine.current = s.engine.current ∧
    (s.becomeAwake byRxin).engine.emitting = s.engine.emitting ∧
    (s.becomeAwake byRxin).engine.buffer = s.engine.buffer ∧
    (s.becomeAwake byRxin).engine.position = s.engine.position ∧
    (s.becomeAwake byRxin).carrier = s.carrier ∧ (s.becomeAwake byRxin).ind = s.ind ∧
    (s.becomeAwake byRxin).kLines = s.kLines ∧ (s.becomeAwake byRxin).rx.lineHigh = s.rx.lineHigh ∧
    (s.becomeAwake byRxin).rx.blankTail = s.rx.blankTail ∧
    (s.becomeAwake byRxin).rx.markLimit = s.rx.markLimit ∧
    (s.becomeAwake byRxin).rx.slotA = s.rx.slotA ∧ (s.becomeAwake byRxin).rx.slotB = s.rx.slotB ∧
    (s.becomeAwake byRxin).rx.nextOrder = s.rx.nextOrder ∧
    (s.becomeAwake byRxin).matcher = s.matcher ∧ (s.becomeAwake byRxin).tracker = s.tracker ∧
    (s.becomeAwake byRxin).learn = s.learn ∧ (s.becomeAwake byRxin).link.replies = s.link.replies ∧
    (s.becomeAwake byRxin).link.intake = s.link.intake ∧
    (s.becomeAwake byRxin).link.handler = s.link.handler ∧
    (s.becomeAwake byRxin).link.receiver = s.link.receiver ∧
    (s.becomeAwake byRxin).link.interByte = s.link.interByte ∧
    (s.becomeAwake byRxin).link.seq = s.link.seq ∧ (s.becomeAwake byRxin).link.fast = s.link.fast ∧
    (s.becomeAwake byRxin).store.bankA = s.store.bankA ∧
    (s.becomeAwake byRxin).store.bankB = s.store.bankB ∧
    (s.becomeAwake byRxin).supply.vdd = s.supply.vdd ∧
    (s.becomeAwake byRxin).freeUses = s.freeUses ∧ (s.becomeAwake byRxin).pending = s.pending := by
  simp [State.heldInReset_eq, State.becomeAwake]

@[simp] theorem State.latencyEnds_frame (s : State) :
   s.latencyEnds.now = s.now ∧ s.latencyEnds.heldInReset = s.heldInReset ∧
    s.latencyEnds.resetLow = s.resetLow ∧ s.latencyEnds.settings = s.settings ∧
    s.latencyEnds.lib.slots = s.lib.slots ∧ s.latencyEnds.queue = s.queue ∧
    s.latencyEnds.engine.state = s.engine.state ∧ s.latencyEnds.engine.current = s.engine.current ∧
    s.latencyEnds.engine.emitting = s.engine.emitting ∧
    s.latencyEnds.engine.buffer = s.engine.buffer ∧
    s.latencyEnds.engine.position = s.engine.position ∧ s.latencyEnds.carrier = s.carrier ∧
    s.latencyEnds.ind = s.ind ∧ s.latencyEnds.kLines = s.kLines ∧
    s.latencyEnds.rx.lineHigh = s.rx.lineHigh ∧ s.latencyEnds.rx.blankTail = s.rx.blankTail ∧
    s.latencyEnds.rx.markLimit = s.rx.markLimit ∧ s.latencyEnds.rx.slotA = s.rx.slotA ∧
    s.latencyEnds.rx.slotB = s.rx.slotB ∧ s.latencyEnds.rx.nextOrder = s.rx.nextOrder ∧
    s.latencyEnds.matcher = s.matcher ∧ s.latencyEnds.tracker = s.tracker ∧
    s.latencyEnds.learn = s.learn ∧ s.latencyEnds.link.replies = s.link.replies ∧
    s.latencyEnds.link.intake = s.link.intake ∧ s.latencyEnds.link.handler = s.link.handler ∧
    s.latencyEnds.link.receiver = s.link.receiver ∧
    s.latencyEnds.link.interByte = s.link.interByte ∧ s.latencyEnds.link.seq = s.link.seq ∧
    s.latencyEnds.link.fast = s.link.fast ∧ s.latencyEnds.store.bankA = s.store.bankA ∧
    s.latencyEnds.store.bankB = s.store.bankB ∧ s.latencyEnds.supply.vdd = s.supply.vdd ∧
    s.latencyEnds.freeUses = s.freeUses ∧ s.latencyEnds.pending = s.pending := by
  unfold State.latencyEnds; split <;> simp [State.heldInReset_eq]

@[simp] theorem State.learnArm_frame (timeout : Nat) (s : State) :
   (s.learnArm timeout).1.now = s.now ∧ (s.learnArm timeout).1.heldInReset = s.heldInReset ∧
    (s.learnArm timeout).1.resetLow = s.resetLow ∧ (s.learnArm timeout).1.settings = s.settings ∧
    (s.learnArm timeout).1.lib = s.lib ∧ (s.learnArm timeout).1.queue = s.queue ∧
    (s.learnArm timeout).1.engine = s.engine ∧ (s.learnArm timeout).1.carrier = s.carrier ∧
    (s.learnArm timeout).1.ind = s.ind ∧ (s.learnArm timeout).1.keys = s.keys ∧
    (s.learnArm timeout).1.kLines = s.kLines ∧ (s.learnArm timeout).1.rx = s.rx ∧
    (s.learnArm timeout).1.matcher = s.matcher ∧ (s.learnArm timeout).1.tracker = s.tracker ∧
    (s.learnArm timeout).1.link = s.link ∧ (s.learnArm timeout).1.store = s.store ∧
    (s.learnArm timeout).1.supply = s.supply ∧ (s.learnArm timeout).1.doze = s.doze ∧
    (s.learnArm timeout).1.freeUses = s.freeUses ∧ (s.learnArm timeout).1.pending = s.pending := by
  unfold State.learnArm; (repeat' split) <;> simp [State.heldInReset_eq]

@[simp] theorem State.learnCancel_frame (s : State) :
   s.learnCancel.1.now = s.now ∧ s.learnCancel.1.heldInReset = s.heldInReset ∧
    s.learnCancel.1.resetLow = s.resetLow ∧ s.learnCancel.1.settings = s.settings ∧
    s.learnCancel.1.lib = s.lib ∧ s.learnCancel.1.queue = s.queue ∧
    s.learnCancel.1.engine = s.engine ∧ s.learnCancel.1.carrier = s.carrier ∧
    s.learnCancel.1.ind = s.ind ∧ s.learnCancel.1.keys = s.keys ∧
    s.learnCancel.1.kLines = s.kLines ∧ s.learnCancel.1.rx = s.rx ∧
    s.learnCancel.1.matcher = s.matcher ∧ s.learnCancel.1.tracker = s.tracker ∧
    s.learnCancel.1.link = s.link ∧ s.learnCancel.1.store = s.store ∧
    s.learnCancel.1.supply = s.supply ∧ s.learnCancel.1.doze = s.doze ∧
    s.learnCancel.1.freeUses = s.freeUses ∧ s.learnCancel.1.pending = s.pending := by
  simp [State.heldInReset_eq, State.learnCancel]

@[simp] theorem State.learnRead_frame (offset : Nat) (s : State) :
   (s.learnRead offset).1.now = s.now ∧ (s.learnRead offset).1.heldInReset = s.heldInReset ∧
    (s.learnRead offset).1.resetLow = s.resetLow ∧ (s.learnRead offset).1.settings = s.settings ∧
    (s.learnRead offset).1.lib = s.lib ∧ (s.learnRead offset).1.queue = s.queue ∧
    (s.learnRead offset).1.engine = s.engine ∧ (s.learnRead offset).1.carrier = s.carrier ∧
    (s.learnRead offset).1.ind = s.ind ∧ (s.learnRead offset).1.keys = s.keys ∧
    (s.learnRead offset).1.kLines = s.kLines ∧ (s.learnRead offset).1.rx = s.rx ∧
    (s.learnRead offset).1.matcher = s.matcher ∧ (s.learnRead offset).1.tracker = s.tracker ∧
    (s.learnRead offset).1.learn = s.learn ∧ (s.learnRead offset).1.link = s.link ∧
    (s.learnRead offset).1.store = s.store ∧ (s.learnRead offset).1.supply = s.supply ∧
    (s.learnRead offset).1.doze = s.doze ∧ (s.learnRead offset).1.freeUses = s.freeUses ∧
    (s.learnRead offset).1.pending = s.pending := by
  unfold State.learnRead; (repeat' split) <;> simp [State.heldInReset_eq]

@[simp] theorem State.blocksReset_frame (slots : Vector SlotState 16)
    (bindings : Vector (Option JobSpec) 8) (c : Settings) (link : Link) (s : State) :
   (s.blocksReset slots bindings c link).now = s.now ∧
    (s.blocksReset slots bindings c link).heldInReset = s.heldInReset ∧
    (s.blocksReset slots bindings c link).resetLow = s.resetLow ∧
    (s.blocksReset slots bindings c link).kLines = s.kLines ∧
    (s.blocksReset slots bindings c link).rx.lineHigh = s.rx.lineHigh ∧
    (s.blocksReset slots bindings c link).store = s.store ∧
    (s.blocksReset slots bindings c link).supply.vdd = s.supply.vdd ∧
    (s.blocksReset slots bindings c link).freeUses = s.freeUses ∧
    (s.blocksReset slots bindings c link).pending = s.pending := by
  repeat' constructor

@[simp] theorem State.announce_frame (reason : ResetReason) (status : ImageStatus) (s : State) :
   (s.announce reason status).now = s.now ∧ (s.announce reason status).heldInReset = s.heldInReset ∧
    (s.announce reason status).resetLow = s.resetLow ∧
    (s.announce reason status).settings = s.settings ∧ (s.announce reason status).lib = s.lib ∧
    (s.announce reason status).queue = s.queue ∧ (s.announce reason status).engine = s.engine ∧
    (s.announce reason status).carrier = s.carrier ∧ (s.announce reason status).ind = s.ind ∧
    (s.announce reason status).keys = s.keys ∧ (s.announce reason status).kLines = s.kLines ∧
    (s.announce reason status).rx = s.rx ∧ (s.announce reason status).matcher = s.matcher ∧
    (s.announce reason status).tracker = s.tracker ∧ (s.announce reason status).learn = s.learn ∧
    (s.announce reason status).link.replies = s.link.replies ∧
    (s.announce reason status).link.intake = s.link.intake ∧
    (s.announce reason status).link.handler = s.link.handler ∧
    (s.announce reason status).link.cache = s.link.cache ∧
    (s.announce reason status).link.receiver = s.link.receiver ∧
    (s.announce reason status).link.interByte = s.link.interByte ∧
    (s.announce reason status).link.listenFrom = s.link.listenFrom ∧
    (s.announce reason status).link.seq = s.link.seq ∧
    (s.announce reason status).link.fast = s.link.fast ∧
    (s.announce reason status).store = s.store ∧ (s.announce reason status).supply = s.supply ∧
    (s.announce reason status).doze = s.doze ∧ (s.announce reason status).freeUses = s.freeUses ∧
    (s.announce reason status).pending = s.pending := by
  unfold State.announce; split <;> simp [State.heldInReset_eq]

@[simp] theorem State.endStoreOp_frame (s : State) :
   s.endStoreOp.now = s.now ∧ s.endStoreOp.heldInReset = s.heldInReset ∧
    s.endStoreOp.resetLow = s.resetLow ∧ s.endStoreOp.settings = s.settings ∧
    s.endStoreOp.lib = s.lib ∧ s.endStoreOp.queue = s.queue ∧ s.endStoreOp.engine = s.engine ∧
    s.endStoreOp.carrier = s.carrier ∧ s.endStoreOp.ind = s.ind ∧ s.endStoreOp.keys = s.keys ∧
    s.endStoreOp.kLines = s.kLines ∧ s.endStoreOp.rx = s.rx ∧ s.endStoreOp.matcher = s.matcher ∧
    s.endStoreOp.tracker = s.tracker ∧ s.endStoreOp.learn = s.learn ∧ s.endStoreOp.link = s.link ∧
    s.endStoreOp.store.bankA = s.store.bankA ∧ s.endStoreOp.store.bankB = s.store.bankB ∧
    s.endStoreOp.supply = s.supply ∧ s.endStoreOp.doze = s.doze ∧
    s.endStoreOp.freeUses = s.freeUses ∧ s.endStoreOp.pending = s.pending := by
  simp [State.heldInReset_eq, State.endStoreOp]

@[simp] theorem State.load_frame (img : Image) (strap : Bool) (s : State) :
   (s.load img strap).now = s.now ∧ (s.load img strap).heldInReset = s.heldInReset ∧
    (s.load img strap).resetLow = s.resetLow ∧ (s.load img strap).kLines = s.kLines ∧
    (s.load img strap).rx.lineHigh = s.rx.lineHigh ∧ (s.load img strap).store = s.store ∧
    (s.load img strap).supply.vdd = s.supply.vdd ∧ (s.load img strap).freeUses = s.freeUses ∧
    (s.load img strap).pending = s.pending := by
  simp [State.heldInReset_eq, State.load]

@[simp] theorem State.hardReset_frame (reason : ResetReason) (strap : Bool) (s : State) :
   (s.hardReset reason strap).now = s.now ∧ (s.hardReset reason strap).heldInReset = s.heldInReset ∧
    (s.hardReset reason strap).resetLow = s.resetLow ∧
    (s.hardReset reason strap).kLines = s.kLines ∧
    (s.hardReset reason strap).rx.lineHigh = s.rx.lineHigh ∧
    (s.hardReset reason strap).store.bankA = s.store.bankA ∧
    (s.hardReset reason strap).store.bankB = s.store.bankB ∧
    (s.hardReset reason strap).supply.vdd = s.supply.vdd ∧
    (s.hardReset reason strap).freeUses = s.freeUses ∧
    (s.hardReset reason strap).pending = s.pending := by
  simp [State.heldInReset_eq, State.hardReset]

@[simp] theorem State.softReset_frame (strap : Bool) (s : State) :
   (s.softReset strap).now = s.now ∧ (s.softReset strap).heldInReset = s.heldInReset ∧
    (s.softReset strap).resetLow = s.resetLow ∧ (s.softReset strap).kLines = s.kLines ∧
    (s.softReset strap).rx.lineHigh = s.rx.lineHigh ∧ (s.softReset strap).store = s.store ∧
    (s.softReset strap).supply.vdd = s.supply.vdd ∧ (s.softReset strap).freeUses = s.freeUses ∧
    (s.softReset strap).pending = s.pending := by
  simp [State.heldInReset_eq, State.softReset]

@[simp] theorem State.setVdd_frame (vdd : Nat) (s : State) :
   (s.setVdd vdd).now = s.now ∧ (s.setVdd vdd).resetLow = s.resetLow ∧
    (s.setVdd vdd).settings = s.settings ∧ (s.setVdd vdd).lib = s.lib ∧
    (s.setVdd vdd).queue = s.queue ∧ (s.setVdd vdd).engine = s.engine ∧
    (s.setVdd vdd).carrier = s.carrier ∧ (s.setVdd vdd).ind = s.ind ∧ (s.setVdd vdd).keys = s.keys ∧
    (s.setVdd vdd).kLines = s.kLines ∧ (s.setVdd vdd).rx = s.rx ∧
    (s.setVdd vdd).matcher = s.matcher ∧ (s.setVdd vdd).tracker = s.tracker ∧
    (s.setVdd vdd).learn = s.learn ∧ (s.setVdd vdd).link = s.link ∧ (s.setVdd vdd).store = s.store ∧
    (s.setVdd vdd).supply.low = s.supply.low ∧ (s.setVdd vdd).doze = s.doze ∧
    (s.setVdd vdd).freeUses = s.freeUses ∧ (s.setVdd vdd).pending = s.pending := by
  simp [State.setVdd]

/-- Whether VDD at `vdd` mV leaves the part held in reset (10 R186, 03 R52). -/
theorem State.setVdd_heldInReset (vdd : Nat) (s : State) :
    (s.setVdd vdd).heldInReset = (s.resetLow || decide (vdd < 1800)) := rfl

/-- Whether a level of RESETn leaves the part held in reset (03 R52, 10 R186). -/
theorem State.setReset_heldInReset (low : Bool) (s : State) :
    (s.setReset low).heldInReset = (low || decide (s.supply.vdd < 1800)) := rfl

@[simp] theorem State.setReset_frame (low : Bool) (s : State) :
   (s.setReset low).now = s.now ∧ (s.setReset low).settings = s.settings ∧
    (s.setReset low).lib = s.lib ∧ (s.setReset low).queue = s.queue ∧
    (s.setReset low).engine = s.engine ∧ (s.setReset low).carrier = s.carrier ∧
    (s.setReset low).ind = s.ind ∧ (s.setReset low).keys = s.keys ∧
    (s.setReset low).kLines = s.kLines ∧ (s.setReset low).rx = s.rx ∧
    (s.setReset low).matcher = s.matcher ∧ (s.setReset low).tracker = s.tracker ∧
    (s.setReset low).learn = s.learn ∧ (s.setReset low).link = s.link ∧
    (s.setReset low).store = s.store ∧ (s.setReset low).supply = s.supply ∧
    (s.setReset low).doze = s.doze ∧ (s.setReset low).freeUses = s.freeUses ∧
    (s.setReset low).pending = s.pending := by
  simp [State.setReset]

/-- What a power-on reset can do: hold the part, or load and announce (10 R179, R186). -/
theorem State.powerOn_cases (vdd : Nat) (strap : Bool) (s : State) :
    ((s.setVdd vdd).heldInReset = true ∧ s.powerOn vdd strap = s.setVdd vdd)
      ∨ ((s.setVdd vdd).heldInReset = false
          ∧ s.powerOn vdd strap = (s.setVdd vdd).hardReset .power strap) := by
  unfold State.powerOn State.unlessHeld
  split <;> simp_all

/-- What a pin reset can do: hold the part, release RESETn with VDD still holding it, or load and announce
(10 R179, 03 R52). -/
theorem State.pinReset_cases (release : Option Bool) (s : State) :
    (release = none ∧ s.pinReset release = s.setReset true)
      ∨ ((s.setReset false).heldInReset = true ∧ s.pinReset release = s.setReset false)
      ∨ ∃ strap, release = some strap ∧ (s.setReset false).heldInReset = false
          ∧ s.pinReset release = (s.setReset false).hardReset .pin strap := by
  unfold State.pinReset State.unlessHeld
  split
  · simp
  · split <;> simp_all

/-- What a move of VDD can do: nothing but the new value in reset or outside AWAKE, or a comparison by the
Supply Watch (10 R186, R190). -/
theorem State.supplyMoves_cases (vdd : Nat) (s : State) :
    s.supplyMoves vdd = s.setVdd vdd
      ∨ ((s.setVdd vdd).heldInReset = false ∧ s.doze.state = .awake
          ∧ s.supplyMoves vdd = (s.setVdd vdd).compareSupply) := by
  unfold State.supplyMoves State.unlessHeld State.whenAwake State.isAwake
  split
  · simp
  · split <;> simp_all

@[simp] theorem State.powerOn_frame (vdd : Nat) (strap : Bool) (s : State) :
   (s.powerOn vdd strap).now = s.now ∧ (s.powerOn vdd strap).resetLow = s.resetLow ∧
    (s.powerOn vdd strap).kLines = s.kLines ∧ (s.powerOn vdd strap).rx.lineHigh = s.rx.lineHigh ∧
    (s.powerOn vdd strap).store.bankA = s.store.bankA ∧
    (s.powerOn vdd strap).store.bankB = s.store.bankB ∧ (s.powerOn vdd strap).supply.vdd = vdd ∧
    (s.powerOn vdd strap).freeUses = s.freeUses ∧ (s.powerOn vdd strap).pending = s.pending := by
  rcases s.powerOn_cases vdd strap with ⟨-, h⟩ | ⟨-, h⟩ <;> rw [h] <;> simp [State.setVdd]

@[simp] theorem State.pinReset_frame (release : Option Bool) (s : State) :
   (s.pinReset release).now = s.now ∧ (s.pinReset release).resetLow = release.isNone ∧
    (s.pinReset release).kLines = s.kLines ∧ (s.pinReset release).rx.lineHigh = s.rx.lineHigh ∧
    (s.pinReset release).store.bankA = s.store.bankA ∧
    (s.pinReset release).store.bankB = s.store.bankB ∧
    (s.pinReset release).supply.vdd = s.supply.vdd ∧ (s.pinReset release).freeUses = s.freeUses ∧
    (s.pinReset release).pending = s.pending := by
  unfold State.pinReset State.unlessHeld
  (repeat' split) <;> simp [State.setReset]

end Sys2Proof.Machine
end

