-- ==== Sys2Proof/Laws/Handler.lean ====
section
/-! SUPPORT. What the Link Port and the Command Handler leave unchanged: for each operation one lemma that
lists every field of the state, or of its part, that the operation does not touch. -/

namespace Sys2Proof.Machine

@[simp] theorem State.badValue_frame (s : State) :
   s.badValue.1.now = s.now ∧ s.badValue.1.heldInReset = s.heldInReset ∧
    s.badValue.1.resetLow = s.resetLow ∧ s.badValue.1.settings = s.settings ∧
    s.badValue.1.lib = s.lib ∧ s.badValue.1.queue = s.queue ∧ s.badValue.1.engine = s.engine ∧
    s.badValue.1.carrier = s.carrier ∧ s.badValue.1.ind = s.ind ∧ s.badValue.1.keys = s.keys ∧
    s.badValue.1.kLines = s.kLines ∧ s.badValue.1.rx = s.rx ∧ s.badValue.1.matcher = s.matcher ∧
    s.badValue.1.tracker = s.tracker ∧ s.badValue.1.learn = s.learn ∧ s.badValue.1.link = s.link ∧
    s.badValue.1.store = s.store ∧ s.badValue.1.supply = s.supply ∧ s.badValue.1.doze = s.doze ∧
    s.badValue.1.freeUses = s.freeUses ∧ s.badValue.1.pending = s.pending := by
  simp [State.heldInReset_eq, State.badValue]

@[simp] theorem State.handlePing_frame (data : List Byte) (s : State) :
   (s.handlePing data).1.now = s.now ∧ (s.handlePing data).1.heldInReset = s.heldInReset ∧
    (s.handlePing data).1.resetLow = s.resetLow ∧ (s.handlePing data).1.settings = s.settings ∧
    (s.handlePing data).1.lib = s.lib ∧ (s.handlePing data).1.queue = s.queue ∧
    (s.handlePing data).1.engine = s.engine ∧ (s.handlePing data).1.carrier = s.carrier ∧
    (s.handlePing data).1.ind = s.ind ∧ (s.handlePing data).1.keys = s.keys ∧
    (s.handlePing data).1.kLines = s.kLines ∧ (s.handlePing data).1.rx = s.rx ∧
    (s.handlePing data).1.matcher = s.matcher ∧ (s.handlePing data).1.tracker = s.tracker ∧
    (s.handlePing data).1.learn = s.learn ∧ (s.handlePing data).1.link = s.link ∧
    (s.handlePing data).1.store = s.store ∧ (s.handlePing data).1.supply = s.supply ∧
    (s.handlePing data).1.doze = s.doze ∧ (s.handlePing data).1.freeUses = s.freeUses ∧
    (s.handlePing data).1.pending = s.pending := by
  simp [State.heldInReset_eq, State.handlePing]

@[simp] theorem State.handleRestart_frame (s : State) :
   s.handleRestart.1.now = s.now ∧ s.handleRestart.1.heldInReset = s.heldInReset ∧
    s.handleRestart.1.resetLow = s.resetLow ∧ s.handleRestart.1.settings = s.settings ∧
    s.handleRestart.1.lib = s.lib ∧ s.handleRestart.1.queue = s.queue ∧
    s.handleRestart.1.engine = s.engine ∧ s.handleRestart.1.carrier = s.carrier ∧
    s.handleRestart.1.ind = s.ind ∧ s.handleRestart.1.keys = s.keys ∧
    s.handleRestart.1.kLines = s.kLines ∧ s.handleRestart.1.rx = s.rx ∧
    s.handleRestart.1.matcher = s.matcher ∧ s.handleRestart.1.tracker = s.tracker ∧
    s.handleRestart.1.learn = s.learn ∧ s.handleRestart.1.link.replies = s.link.replies ∧
    s.handleRestart.1.link.intake = s.link.intake ∧ s.handleRestart.1.link.cache = s.link.cache ∧
    s.handleRestart.1.link.receiver = s.link.receiver ∧
    s.handleRestart.1.link.interByte = s.link.interByte ∧
    s.handleRestart.1.link.listenFrom = s.link.listenFrom ∧
    s.handleRestart.1.link.seq = s.link.seq ∧ s.handleRestart.1.link.fast = s.link.fast ∧
    s.handleRestart.1.link.notices = s.link.notices ∧
    s.handleRestart.1.link.sending = s.link.sending ∧ s.handleRestart.1.store = s.store ∧
    s.handleRestart.1.supply = s.supply ∧ s.handleRestart.1.doze = s.doze ∧
    s.handleRestart.1.freeUses = s.freeUses ∧ s.handleRestart.1.pending = s.pending := by
  unfold State.handleRestart; split <;> simp [State.heldInReset_eq]

@[simp] theorem State.handleSet_frame (payload : List Byte) (s : State) :
   (s.handleSet payload).1.now = s.now ∧ (s.handleSet payload).1.heldInReset = s.heldInReset ∧
    (s.handleSet payload).1.resetLow = s.resetLow ∧ (s.handleSet payload).1.lib = s.lib ∧
    (s.handleSet payload).1.queue = s.queue ∧ (s.handleSet payload).1.engine = s.engine ∧
    (s.handleSet payload).1.carrier = s.carrier ∧ (s.handleSet payload).1.ind = s.ind ∧
    (s.handleSet payload).1.kLines = s.kLines ∧
    (s.handleSet payload).1.rx.lineHigh = s.rx.lineHigh ∧
    (s.handleSet payload).1.rx.blankTail = s.rx.blankTail ∧
    (s.handleSet payload).1.rx.nextOrder = s.rx.nextOrder ∧
    (s.handleSet payload).1.tracker = s.tracker ∧ (s.handleSet payload).1.learn = s.learn ∧
    (s.handleSet payload).1.link.replies = s.link.replies ∧
    (s.handleSet payload).1.link.intake = s.link.intake ∧
    (s.handleSet payload).1.link.handler = s.link.handler ∧
    (s.handleSet payload).1.link.cache = s.link.cache ∧
    (s.handleSet payload).1.link.receiver = s.link.receiver ∧
    (s.handleSet payload).1.link.interByte = s.link.interByte ∧
    (s.handleSet payload).1.link.listenFrom = s.link.listenFrom ∧
    (s.handleSet payload).1.link.seq = s.link.seq ∧
    (s.handleSet payload).1.link.fast = s.link.fast ∧
    (s.handleSet payload).1.store.bankA = s.store.bankA ∧
    (s.handleSet payload).1.store.bankB = s.store.bankB ∧
    (s.handleSet payload).1.supply.vdd = s.supply.vdd ∧ (s.handleSet payload).1.doze = s.doze ∧
    (s.handleSet payload).1.freeUses = s.freeUses ∧
    (s.handleSet payload).1.pending = s.pending := by
  unfold State.handleSet; split <;> simp [State.heldInReset_eq]

@[simp] theorem State.handleGet_frame (payload : List Byte) (s : State) :
   (s.handleGet payload).1.now = s.now ∧ (s.handleGet payload).1.heldInReset = s.heldInReset ∧
    (s.handleGet payload).1.resetLow = s.resetLow ∧ (s.handleGet payload).1.settings = s.settings ∧
    (s.handleGet payload).1.lib = s.lib ∧ (s.handleGet payload).1.queue = s.queue ∧
    (s.handleGet payload).1.engine = s.engine ∧ (s.handleGet payload).1.carrier = s.carrier ∧
    (s.handleGet payload).1.ind = s.ind ∧ (s.handleGet payload).1.keys = s.keys ∧
    (s.handleGet payload).1.kLines = s.kLines ∧ (s.handleGet payload).1.rx = s.rx ∧
    (s.handleGet payload).1.matcher = s.matcher ∧ (s.handleGet payload).1.tracker = s.tracker ∧
    (s.handleGet payload).1.learn = s.learn ∧ (s.handleGet payload).1.link = s.link ∧
    (s.handleGet payload).1.store = s.store ∧ (s.handleGet payload).1.supply = s.supply ∧
    (s.handleGet payload).1.doze = s.doze ∧ (s.handleGet payload).1.freeUses = s.freeUses ∧
    (s.handleGet payload).1.pending = s.pending := by
  unfold State.handleGet; split <;> simp [State.heldInReset_eq]

@[simp] theorem State.handleOpen_frame (payload : List Byte) (s : State) :
   (s.handleOpen payload).1.now = s.now ∧ (s.handleOpen payload).1.heldInReset = s.heldInReset ∧
    (s.handleOpen payload).1.resetLow = s.resetLow ∧
    (s.handleOpen payload).1.settings = s.settings ∧ (s.handleOpen payload).1.queue = s.queue ∧
    (s.handleOpen payload).1.engine = s.engine ∧ (s.handleOpen payload).1.carrier = s.carrier ∧
    (s.handleOpen payload).1.ind = s.ind ∧ (s.handleOpen payload).1.keys = s.keys ∧
    (s.handleOpen payload).1.kLines = s.kLines ∧ (s.handleOpen payload).1.rx = s.rx ∧
    (s.handleOpen payload).1.learn = s.learn ∧
    (s.handleOpen payload).1.link.replies = s.link.replies ∧
    (s.handleOpen payload).1.link.intake = s.link.intake ∧
    (s.handleOpen payload).1.link.handler = s.link.handler ∧
    (s.handleOpen payload).1.link.cache = s.link.cache ∧
    (s.handleOpen payload).1.link.receiver = s.link.receiver ∧
    (s.handleOpen payload).1.link.interByte = s.link.interByte ∧
    (s.handleOpen payload).1.link.listenFrom = s.link.listenFrom ∧
    (s.handleOpen payload).1.link.seq = s.link.seq ∧
    (s.handleOpen payload).1.link.fast = s.link.fast ∧ (s.handleOpen payload).1.store = s.store ∧
    (s.handleOpen payload).1.supply = s.supply ∧ (s.handleOpen payload).1.doze = s.doze ∧
    (s.handleOpen payload).1.pending = s.pending := by
  unfold State.handleOpen; (repeat' split) <;> simp [State.heldInReset_eq]

@[simp] theorem State.handlePut_frame (payload : List Byte) (s : State) :
   (s.handlePut payload).1.now = s.now ∧ (s.handlePut payload).1.heldInReset = s.heldInReset ∧
    (s.handlePut payload).1.resetLow = s.resetLow ∧ (s.handlePut payload).1.settings = s.settings ∧
    (s.handlePut payload).1.lib.slots = s.lib.slots ∧ (s.handlePut payload).1.queue = s.queue ∧
    (s.handlePut payload).1.engine = s.engine ∧ (s.handlePut payload).1.carrier = s.carrier ∧
    (s.handlePut payload).1.ind = s.ind ∧ (s.handlePut payload).1.keys = s.keys ∧
    (s.handlePut payload).1.kLines = s.kLines ∧ (s.handlePut payload).1.rx = s.rx ∧
    (s.handlePut payload).1.matcher = s.matcher ∧ (s.handlePut payload).1.tracker = s.tracker ∧
    (s.handlePut payload).1.learn = s.learn ∧ (s.handlePut payload).1.link = s.link ∧
    (s.handlePut payload).1.store = s.store ∧ (s.handlePut payload).1.supply = s.supply ∧
    (s.handlePut payload).1.doze = s.doze ∧ (s.handlePut payload).1.freeUses = s.freeUses ∧
    (s.handlePut payload).1.pending = s.pending := by
  unfold State.handlePut; split <;> simp [State.heldInReset_eq]

@[simp] theorem State.handleErase_frame (payload : List Byte) (s : State) :
   (s.handleErase payload).1.now = s.now ∧ (s.handleErase payload).1.heldInReset = s.heldInReset ∧
    (s.handleErase payload).1.resetLow = s.resetLow ∧
    (s.handleErase payload).1.settings = s.settings ∧
    (s.handleErase payload).1.lib.draft = s.lib.draft ∧ (s.handleErase payload).1.queue = s.queue ∧
    (s.handleErase payload).1.engine = s.engine ∧ (s.handleErase payload).1.carrier = s.carrier ∧
    (s.handleErase payload).1.ind = s.ind ∧ (s.handleErase payload).1.keys = s.keys ∧
    (s.handleErase payload).1.kLines = s.kLines ∧ (s.handleErase payload).1.rx = s.rx ∧
    (s.handleErase payload).1.learn = s.learn ∧
    (s.handleErase payload).1.link.replies = s.link.replies ∧
    (s.handleErase payload).1.link.intake = s.link.intake ∧
    (s.handleErase payload).1.link.handler = s.link.handler ∧
    (s.handleErase payload).1.link.cache = s.link.cache ∧
    (s.handleErase payload).1.link.receiver = s.link.receiver ∧
    (s.handleErase payload).1.link.interByte = s.link.interByte ∧
    (s.handleErase payload).1.link.listenFrom = s.link.listenFrom ∧
    (s.handleErase payload).1.link.seq = s.link.seq ∧
    (s.handleErase payload).1.link.fast = s.link.fast ∧ (s.handleErase payload).1.store = s.store ∧
    (s.handleErase payload).1.supply = s.supply ∧ (s.handleErase payload).1.doze = s.doze ∧
    (s.handleErase payload).1.pending = s.pending := by
  unfold State.handleErase; (repeat' split) <;> simp [State.heldInReset_eq]

@[simp] theorem State.handleRead_frame (payload : List Byte) (s : State) :
   (s.handleRead payload).1.now = s.now ∧ (s.handleRead payload).1.heldInReset = s.heldInReset ∧
    (s.handleRead payload).1.resetLow = s.resetLow ∧
    (s.handleRead payload).1.settings = s.settings ∧
    (s.handleRead payload).1.lib.slots = s.lib.slots ∧ (s.handleRead payload).1.queue = s.queue ∧
    (s.handleRead payload).1.engine = s.engine ∧ (s.handleRead payload).1.carrier = s.carrier ∧
    (s.handleRead payload).1.ind = s.ind ∧ (s.handleRead payload).1.keys = s.keys ∧
    (s.handleRead payload).1.kLines = s.kLines ∧ (s.handleRead payload).1.rx = s.rx ∧
    (s.handleRead payload).1.matcher = s.matcher ∧ (s.handleRead payload).1.tracker = s.tracker ∧
    (s.handleRead payload).1.learn = s.learn ∧ (s.handleRead payload).1.link = s.link ∧
    (s.handleRead payload).1.store = s.store ∧ (s.handleRead payload).1.supply = s.supply ∧
    (s.handleRead payload).1.doze = s.doze ∧ (s.handleRead payload).1.freeUses = s.freeUses ∧
    (s.handleRead payload).1.pending = s.pending := by
  unfold State.handleRead; (repeat' split) <;> simp [State.heldInReset_eq]

@[simp] theorem State.handleSend_frame (payload : List Byte) (s : State) :
   (s.handleSend payload).1.now = s.now ∧ (s.handleSend payload).1.heldInReset = s.heldInReset ∧
    (s.handleSend payload).1.resetLow = s.resetLow ∧
    (s.handleSend payload).1.settings = s.settings ∧
    (s.handleSend payload).1.lib.draft = s.lib.draft ∧
    (s.handleSend payload).1.engine.deadline = s.engine.deadline ∧
    (s.handleSend payload).1.kLines = s.kLines ∧
    (s.handleSend payload).1.rx.lineHigh = s.rx.lineHigh ∧
    (s.handleSend payload).1.rx.filtered = s.rx.filtered ∧
    (s.handleSend payload).1.rx.nextOrder = s.rx.nextOrder ∧
    (s.handleSend payload).1.rx.candidate = s.rx.candidate ∧
    (s.handleSend payload).1.rx.lastEdge = s.rx.lastEdge ∧
    (s.handleSend payload).1.matcher = s.matcher ∧ (s.handleSend payload).1.tracker = s.tracker ∧
    (s.handleSend payload).1.learn = s.learn ∧
    (s.handleSend payload).1.link.replies = s.link.replies ∧
    (s.handleSend payload).1.link.intake = s.link.intake ∧
    (s.handleSend payload).1.link.handler = s.link.handler ∧
    (s.handleSend payload).1.link.cache = s.link.cache ∧
    (s.handleSend payload).1.link.receiver = s.link.receiver ∧
    (s.handleSend payload).1.link.interByte = s.link.interByte ∧
    (s.handleSend payload).1.link.listenFrom = s.link.listenFrom ∧
    (s.handleSend payload).1.link.seq = s.link.seq ∧
    (s.handleSend payload).1.link.fast = s.link.fast ∧ (s.handleSend payload).1.store = s.store ∧
    (s.handleSend payload).1.supply = s.supply ∧ (s.handleSend payload).1.doze = s.doze ∧
    (s.handleSend payload).1.freeUses = s.freeUses ∧
    (s.handleSend payload).1.pending = s.pending := by
  unfold State.handleSend; (repeat' split) <;> simp [State.heldInReset_eq]

@[simp] theorem State.handleRelease_frame (payload : List Byte) (s : State) :
   (s.handleRelease payload).1.now = s.now ∧
    (s.handleRelease payload).1.heldInReset = s.heldInReset ∧
    (s.handleRelease payload).1.resetLow = s.resetLow ∧
    (s.handleRelease payload).1.settings = s.settings ∧
    (s.handleRelease payload).1.lib.draft = s.lib.draft ∧
    (s.handleRelease payload).1.queue.nextId = s.queue.nextId ∧
    (s.handleRelease payload).1.engine.state = s.engine.state ∧
    (s.handleRelease payload).1.engine.emitting = s.engine.emitting ∧
    (s.handleRelease payload).1.engine.deadline = s.engine.deadline ∧
    (s.handleRelease payload).1.engine.buffer = s.engine.buffer ∧
    (s.handleRelease payload).1.engine.position = s.engine.position ∧
    (s.handleRelease payload).1.carrier = s.carrier ∧ (s.handleRelease payload).1.ind = s.ind ∧
    (s.handleRelease payload).1.kLines = s.kLines ∧ (s.handleRelease payload).1.rx = s.rx ∧
    (s.handleRelease payload).1.matcher = s.matcher ∧
    (s.handleRelease payload).1.tracker = s.tracker ∧ (s.handleRelease payload).1.learn = s.learn ∧
    (s.handleRelease payload).1.link.replies = s.link.replies ∧
    (s.handleRelease payload).1.link.intake = s.link.intake ∧
    (s.handleRelease payload).1.link.handler = s.link.handler ∧
    (s.handleRelease payload).1.link.cache = s.link.cache ∧
    (s.handleRelease payload).1.link.receiver = s.link.receiver ∧
    (s.handleRelease payload).1.link.interByte = s.link.interByte ∧
    (s.handleRelease payload).1.link.listenFrom = s.link.listenFrom ∧
    (s.handleRelease payload).1.link.seq = s.link.seq ∧
    (s.handleRelease payload).1.link.fast = s.link.fast ∧
    (s.handleRelease payload).1.store = s.store ∧ (s.handleRelease payload).1.supply = s.supply ∧
    (s.handleRelease payload).1.doze = s.doze ∧ (s.handleRelease payload).1.freeUses = s.freeUses ∧
    (s.handleRelease payload).1.pending = s.pending := by
  unfold State.handleRelease; split <;> simp [State.heldInReset_eq]

@[simp] theorem State.handleCancel_frame (payload : List Byte) (s : State) :
   (s.handleCancel payload).1.now = s.now ∧ (s.handleCancel payload).1.heldInReset = s.heldInReset ∧
    (s.handleCancel payload).1.resetLow = s.resetLow ∧
    (s.handleCancel payload).1.settings = s.settings ∧
    (s.handleCancel payload).1.lib.draft = s.lib.draft ∧
    (s.handleCancel payload).1.queue.nextId = s.queue.nextId ∧
    (s.handleCancel payload).1.engine.state = s.engine.state ∧
    (s.handleCancel payload).1.engine.emitting = s.engine.emitting ∧
    (s.handleCancel payload).1.engine.deadline = s.engine.deadline ∧
    (s.handleCancel payload).1.engine.buffer = s.engine.buffer ∧
    (s.handleCancel payload).1.engine.position = s.engine.position ∧
    (s.handleCancel payload).1.carrier = s.carrier ∧ (s.handleCancel payload).1.ind = s.ind ∧
    (s.handleCancel payload).1.kLines = s.kLines ∧ (s.handleCancel payload).1.rx = s.rx ∧
    (s.handleCancel payload).1.matcher = s.matcher ∧
    (s.handleCancel payload).1.tracker = s.tracker ∧ (s.handleCancel payload).1.learn = s.learn ∧
    (s.handleCancel payload).1.link.replies = s.link.replies ∧
    (s.handleCancel payload).1.link.intake = s.link.intake ∧
    (s.handleCancel payload).1.link.handler = s.link.handler ∧
    (s.handleCancel payload).1.link.cache = s.link.cache ∧
    (s.handleCancel payload).1.link.receiver = s.link.receiver ∧
    (s.handleCancel payload).1.link.interByte = s.link.interByte ∧
    (s.handleCancel payload).1.link.listenFrom = s.link.listenFrom ∧
    (s.handleCancel payload).1.link.seq = s.link.seq ∧
    (s.handleCancel payload).1.link.fast = s.link.fast ∧
    (s.handleCancel payload).1.store = s.store ∧ (s.handleCancel payload).1.supply = s.supply ∧
    (s.handleCancel payload).1.doze = s.doze ∧ (s.handleCancel payload).1.freeUses = s.freeUses ∧
    (s.handleCancel payload).1.pending = s.pending := by
  unfold State.handleCancel; split <;> simp [State.heldInReset_eq]

@[simp] theorem State.handleStop_frame (s : State) :
   s.handleStop.1.now = s.now ∧ s.handleStop.1.heldInReset = s.heldInReset ∧
    s.handleStop.1.resetLow = s.resetLow ∧ s.handleStop.1.settings = s.settings ∧
    s.handleStop.1.lib.draft = s.lib.draft ∧ s.handleStop.1.queue = s.queue ∧
    s.handleStop.1.engine.buffer = s.engine.buffer ∧ s.handleStop.1.carrier = s.carrier ∧
    s.handleStop.1.kLines = s.kLines ∧ s.handleStop.1.rx.lineHigh = s.rx.lineHigh ∧
    s.handleStop.1.rx.filtered = s.rx.filtered ∧ s.handleStop.1.rx.burstEnd = s.rx.burstEnd ∧
    s.handleStop.1.rx.markLimit = s.rx.markLimit ∧ s.handleStop.1.rx.slotA = s.rx.slotA ∧
    s.handleStop.1.rx.slotB = s.rx.slotB ∧ s.handleStop.1.rx.nextOrder = s.rx.nextOrder ∧
    s.handleStop.1.rx.candidate = s.rx.candidate ∧ s.handleStop.1.rx.lastEdge = s.rx.lastEdge ∧
    s.handleStop.1.matcher = s.matcher ∧ s.handleStop.1.tracker = s.tracker ∧
    s.handleStop.1.learn = s.learn ∧ s.handleStop.1.link.replies = s.link.replies ∧
    s.handleStop.1.link.intake = s.link.intake ∧ s.handleStop.1.link.handler = s.link.handler ∧
    s.handleStop.1.link.cache = s.link.cache ∧ s.handleStop.1.link.receiver = s.link.receiver ∧
    s.handleStop.1.link.interByte = s.link.interByte ∧
    s.handleStop.1.link.listenFrom = s.link.listenFrom ∧ s.handleStop.1.link.seq = s.link.seq ∧
    s.handleStop.1.link.fast = s.link.fast ∧ s.handleStop.1.store = s.store ∧
    s.handleStop.1.supply = s.supply ∧ s.handleStop.1.doze = s.doze ∧
    s.handleStop.1.freeUses = s.freeUses ∧ s.handleStop.1.pending = s.pending := by
  simp [State.heldInReset_eq, State.handleStop]

@[simp] theorem State.handleResume_frame (s : State) :
   s.handleResume.1.now = s.now ∧ s.handleResume.1.heldInReset = s.heldInReset ∧
    s.handleResume.1.resetLow = s.resetLow ∧ s.handleResume.1.settings = s.settings ∧
    s.handleResume.1.lib.draft = s.lib.draft ∧ s.handleResume.1.queue.nextId = s.queue.nextId ∧
    s.handleResume.1.engine.deadline = s.engine.deadline ∧ s.handleResume.1.keys = s.keys ∧
    s.handleResume.1.kLines = s.kLines ∧ s.handleResume.1.rx.lineHigh = s.rx.lineHigh ∧
    s.handleResume.1.rx.filtered = s.rx.filtered ∧ s.handleResume.1.rx.nextOrder = s.rx.nextOrder ∧
    s.handleResume.1.rx.candidate = s.rx.candidate ∧ s.handleResume.1.rx.lastEdge = s.rx.lastEdge ∧
    s.handleResume.1.matcher = s.matcher ∧ s.handleResume.1.tracker = s.tracker ∧
    s.handleResume.1.learn = s.learn ∧ s.handleResume.1.link.replies = s.link.replies ∧
    s.handleResume.1.link.intake = s.link.intake ∧ s.handleResume.1.link.handler = s.link.handler ∧
    s.handleResume.1.link.cache = s.link.cache ∧ s.handleResume.1.link.receiver = s.link.receiver ∧
    s.handleResume.1.link.interByte = s.link.interByte ∧
    s.handleResume.1.link.listenFrom = s.link.listenFrom ∧ s.handleResume.1.link.seq = s.link.seq ∧
    s.handleResume.1.link.fast = s.link.fast ∧ s.handleResume.1.store = s.store ∧
    s.handleResume.1.supply = s.supply ∧ s.handleResume.1.doze = s.doze ∧
    s.handleResume.1.freeUses = s.freeUses ∧ s.handleResume.1.pending = s.pending := by
  unfold State.handleResume; split <;> simp [State.heldInReset_eq]

@[simp] theorem State.handleBind_frame (payload : List Byte) (s : State) :
   (s.handleBind payload).1.now = s.now ∧ (s.handleBind payload).1.heldInReset = s.heldInReset ∧
    (s.handleBind payload).1.resetLow = s.resetLow ∧
    (s.handleBind payload).1.settings = s.settings ∧
    (s.handleBind payload).1.lib.draft = s.lib.draft ∧ (s.handleBind payload).1.queue = s.queue ∧
    (s.handleBind payload).1.engine = s.engine ∧ (s.handleBind payload).1.carrier = s.carrier ∧
    (s.handleBind payload).1.ind = s.ind ∧ (s.handleBind payload).1.kLines = s.kLines ∧
    (s.handleBind payload).1.rx = s.rx ∧ (s.handleBind payload).1.matcher = s.matcher ∧
    (s.handleBind payload).1.tracker = s.tracker ∧ (s.handleBind payload).1.learn = s.learn ∧
    (s.handleBind payload).1.link = s.link ∧ (s.handleBind payload).1.store = s.store ∧
    (s.handleBind payload).1.supply = s.supply ∧ (s.handleBind payload).1.doze = s.doze ∧
    (s.handleBind payload).1.freeUses = s.freeUses ∧
    (s.handleBind payload).1.pending = s.pending := by
  unfold State.handleBind; (repeat' split) <;> simp [State.heldInReset_eq]

@[simp] theorem State.handleUnbind_frame (payload : List Byte) (s : State) :
   (s.handleUnbind payload).1.now = s.now ∧ (s.handleUnbind payload).1.heldInReset = s.heldInReset ∧
    (s.handleUnbind payload).1.resetLow = s.resetLow ∧
    (s.handleUnbind payload).1.settings = s.settings ∧
    (s.handleUnbind payload).1.lib.draft = s.lib.draft ∧
    (s.handleUnbind payload).1.queue = s.queue ∧ (s.handleUnbind payload).1.engine = s.engine ∧
    (s.handleUnbind payload).1.carrier = s.carrier ∧ (s.handleUnbind payload).1.ind = s.ind ∧
    (s.handleUnbind payload).1.kLines = s.kLines ∧ (s.handleUnbind payload).1.rx = s.rx ∧
    (s.handleUnbind payload).1.matcher = s.matcher ∧
    (s.handleUnbind payload).1.tracker = s.tracker ∧ (s.handleUnbind payload).1.learn = s.learn ∧
    (s.handleUnbind payload).1.link = s.link ∧ (s.handleUnbind payload).1.store = s.store ∧
    (s.handleUnbind payload).1.supply = s.supply ∧ (s.handleUnbind payload).1.doze = s.doze ∧
    (s.handleUnbind payload).1.freeUses = s.freeUses ∧
    (s.handleUnbind payload).1.pending = s.pending := by
  unfold State.handleUnbind; (repeat' split) <;> simp [State.heldInReset_eq]

@[simp] theorem State.handleLearnArm_frame (payload : List Byte) (s : State) :
   (s.handleLearnArm payload).1.now = s.now ∧
    (s.handleLearnArm payload).1.heldInReset = s.heldInReset ∧
    (s.handleLearnArm payload).1.resetLow = s.resetLow ∧
    (s.handleLearnArm payload).1.settings = s.settings ∧ (s.handleLearnArm payload).1.lib = s.lib ∧
    (s.handleLearnArm payload).1.queue = s.queue ∧ (s.handleLearnArm payload).1.engine = s.engine ∧
    (s.handleLearnArm payload).1.carrier = s.carrier ∧ (s.handleLearnArm payload).1.ind = s.ind ∧
    (s.handleLearnArm payload).1.keys = s.keys ∧ (s.handleLearnArm payload).1.kLines = s.kLines ∧
    (s.handleLearnArm payload).1.rx = s.rx ∧ (s.handleLearnArm payload).1.matcher = s.matcher ∧
    (s.handleLearnArm payload).1.tracker = s.tracker ∧ (s.handleLearnArm payload).1.link = s.link ∧
    (s.handleLearnArm payload).1.store = s.store ∧ (s.handleLearnArm payload).1.supply = s.supply ∧
    (s.handleLearnArm payload).1.doze = s.doze ∧
    (s.handleLearnArm payload).1.freeUses = s.freeUses ∧
    (s.handleLearnArm payload).1.pending = s.pending := by
  unfold State.handleLearnArm; split <;> simp [State.heldInReset_eq]

@[simp] theorem State.handleLearnRead_frame (payload : List Byte) (s : State) :
   (s.handleLearnRead payload).1.now = s.now ∧
    (s.handleLearnRead payload).1.heldInReset = s.heldInReset ∧
    (s.handleLearnRead payload).1.resetLow = s.resetLow ∧
    (s.handleLearnRead payload).1.settings = s.settings ∧
    (s.handleLearnRead payload).1.lib = s.lib ∧ (s.handleLearnRead payload).1.queue = s.queue ∧
    (s.handleLearnRead payload).1.engine = s.engine ∧
    (s.handleLearnRead payload).1.carrier = s.carrier ∧ (s.handleLearnRead payload).1.ind = s.ind ∧
    (s.handleLearnRead payload).1.keys = s.keys ∧ (s.handleLearnRead payload).1.kLines = s.kLines ∧
    (s.handleLearnRead payload).1.rx = s.rx ∧ (s.handleLearnRead payload).1.matcher = s.matcher ∧
    (s.handleLearnRead payload).1.tracker = s.tracker ∧
    (s.handleLearnRead payload).1.learn = s.learn ∧ (s.handleLearnRead payload).1.link = s.link ∧
    (s.handleLearnRead payload).1.store = s.store ∧
    (s.handleLearnRead payload).1.supply = s.supply ∧ (s.handleLearnRead payload).1.doze = s.doze ∧
    (s.handleLearnRead payload).1.freeUses = s.freeUses ∧
    (s.handleLearnRead payload).1.pending = s.pending := by
  unfold State.handleLearnRead; split <;> simp [State.heldInReset_eq]

@[simp] theorem State.dispatch_frame (k : RequestKind) (payload : List Byte) (s : State) :
   (s.dispatch k payload).1.now = s.now ∧ (s.dispatch k payload).1.heldInReset = s.heldInReset ∧
    (s.dispatch k payload).1.resetLow = s.resetLow ∧ (s.dispatch k payload).1.kLines = s.kLines ∧
    (s.dispatch k payload).1.rx.lineHigh = s.rx.lineHigh ∧
    (s.dispatch k payload).1.rx.nextOrder = s.rx.nextOrder ∧
    (s.dispatch k payload).1.link.replies = s.link.replies ∧
    (s.dispatch k payload).1.link.intake = s.link.intake ∧
    (s.dispatch k payload).1.link.cache = s.link.cache ∧
    (s.dispatch k payload).1.link.receiver = s.link.receiver ∧
    (s.dispatch k payload).1.link.interByte = s.link.interByte ∧
    (s.dispatch k payload).1.link.listenFrom = s.link.listenFrom ∧
    (s.dispatch k payload).1.link.seq = s.link.seq ∧
    (s.dispatch k payload).1.link.fast = s.link.fast ∧
    (s.dispatch k payload).1.supply.vdd = s.supply.vdd ∧ (s.dispatch k payload).1.doze = s.doze ∧
    (s.dispatch k payload).1.pending = s.pending := by
  unfold State.dispatch; split <;> simp [State.heldInReset_eq]

@[simp] theorem State.carryOut_frame (r : Request) (s : State) :
   (s.carryOut r).1.now = s.now ∧ (s.carryOut r).1.heldInReset = s.heldInReset ∧
    (s.carryOut r).1.resetLow = s.resetLow ∧ (s.carryOut r).1.kLines = s.kLines ∧
    (s.carryOut r).1.rx.lineHigh = s.rx.lineHigh ∧ (s.carryOut r).1.rx.nextOrder = s.rx.nextOrder ∧
    (s.carryOut r).1.link.replies = s.link.replies ∧ (s.carryOut r).1.link.intake = s.link.intake ∧
    (s.carryOut r).1.link.cache = s.link.cache ∧ (s.carryOut r).1.link.receiver = s.link.receiver ∧
    (s.carryOut r).1.link.interByte = s.link.interByte ∧
    (s.carryOut r).1.link.listenFrom = s.link.listenFrom ∧ (s.carryOut r).1.link.seq = s.link.seq ∧
    (s.carryOut r).1.link.fast = s.link.fast ∧ (s.carryOut r).1.supply.vdd = s.supply.vdd ∧
    (s.carryOut r).1.doze = s.doze ∧ (s.carryOut r).1.pending = s.pending := by
  unfold State.carryOut; (repeat' split) <;> simp [State.heldInReset_eq]

@[simp] theorem Link.addReply_frame (r : Reply) (l : Link) :
   (l.addReply r).receiver = l.receiver ∧ (l.addReply r).interByte = l.interByte ∧
    (l.addReply r).listenFrom = l.listenFrom ∧ (l.addReply r).intake = l.intake ∧
    (l.addReply r).handler = l.handler ∧ (l.addReply r).cache = l.cache ∧
    (l.addReply r).notices = l.notices ∧ (l.addReply r).seq = l.seq ∧
    (l.addReply r).fast = l.fast := by
  simp [Link.addReply]

@[simp] theorem Link.disown_frame (l : Link) :
   l.disown.receiver = l.receiver ∧ l.disown.interByte = l.interByte ∧
    l.disown.listenFrom = l.listenFrom ∧ l.disown.intake = l.intake ∧ l.disown.handler = l.handler ∧
    l.disown.cache = l.cache ∧ l.disown.notices = l.notices ∧ l.disown.lost = l.lost ∧
    l.disown.seq = l.seq ∧ l.disown.sending = l.sending ∧ l.disown.fast = l.fast := by
  simp [Link.disown]

@[simp] theorem Link.fillCache_frame (r : Request) (body : ReplyBody) (l : Link) :
   (l.fillCache r body).receiver = l.receiver ∧ (l.fillCache r body).interByte = l.interByte ∧
    (l.fillCache r body).listenFrom = l.listenFrom ∧ (l.fillCache r body).intake = l.intake ∧
    (l.fillCache r body).handler = l.handler ∧ (l.fillCache r body).notices = l.notices ∧
    (l.fillCache r body).lost = l.lost ∧ (l.fillCache r body).seq = l.seq ∧
    (l.fillCache r body).sending = l.sending ∧ (l.fillCache r body).fast = l.fast := by
  simp [Link.fillCache]

@[simp] theorem Link.answer_frame (r : Request) (body : ReplyBody) (l : Link) :
   (l.answer r body).receiver = l.receiver ∧ (l.answer r body).interByte = l.interByte ∧
    (l.answer r body).listenFrom = l.listenFrom ∧ (l.answer r body).intake = l.intake ∧
    (l.answer r body).handler = l.handler ∧ (l.answer r body).notices = l.notices ∧
    (l.answer r body).seq = l.seq ∧ (l.answer r body).fast = l.fast := by
  unfold Link.answer; split <;> simp

@[simp] theorem Link.resend_frame (e : CacheEntry) (l : Link) :
   (l.resend e).receiver = l.receiver ∧ (l.resend e).interByte = l.interByte ∧
    (l.resend e).listenFrom = l.listenFrom ∧ (l.resend e).intake = l.intake ∧
    (l.resend e).handler = l.handler ∧ (l.resend e).notices = l.notices ∧ (l.resend e).seq = l.seq ∧
    (l.resend e).fast = l.fast := by
  simp [Link.resend]

@[simp] theorem formReply_frame (r : Request) (p : State × ReplyBody) :
   (formReply r p).now = p.1.now ∧ (formReply r p).heldInReset = p.1.heldInReset ∧
    (formReply r p).resetLow = p.1.resetLow ∧ (formReply r p).settings = p.1.settings ∧
    (formReply r p).lib = p.1.lib ∧ (formReply r p).queue = p.1.queue ∧
    (formReply r p).engine = p.1.engine ∧ (formReply r p).carrier = p.1.carrier ∧
    (formReply r p).ind = p.1.ind ∧ (formReply r p).keys = p.1.keys ∧
    (formReply r p).kLines = p.1.kLines ∧ (formReply r p).rx = p.1.rx ∧
    (formReply r p).matcher = p.1.matcher ∧ (formReply r p).tracker = p.1.tracker ∧
    (formReply r p).learn = p.1.learn ∧ (formReply r p).link.intake = p.1.link.intake ∧
    (formReply r p).link.handler = p.1.link.handler ∧
    (formReply r p).link.receiver = p.1.link.receiver ∧
    (formReply r p).link.interByte = p.1.link.interByte ∧
    (formReply r p).link.listenFrom = p.1.link.listenFrom ∧
    (formReply r p).link.seq = p.1.link.seq ∧ (formReply r p).link.fast = p.1.link.fast ∧
    (formReply r p).link.notices = p.1.link.notices ∧ (formReply r p).store = p.1.store ∧
    (formReply r p).supply = p.1.supply ∧ (formReply r p).doze = p.1.doze ∧
    (formReply r p).freeUses = p.1.freeUses ∧ (formReply r p).pending = p.1.pending := by
  simp [State.heldInReset_eq, formReply]

@[simp] theorem State.handle_frame (r : Request) (s : State) :
   (s.handle r).now = s.now ∧ (s.handle r).heldInReset = s.heldInReset ∧
    (s.handle r).resetLow = s.resetLow ∧ (s.handle r).kLines = s.kLines ∧
    (s.handle r).rx.lineHigh = s.rx.lineHigh ∧ (s.handle r).rx.nextOrder = s.rx.nextOrder ∧
    (s.handle r).link.intake = s.link.intake ∧ (s.handle r).link.receiver = s.link.receiver ∧
    (s.handle r).link.interByte = s.link.interByte ∧
    (s.handle r).link.listenFrom = s.link.listenFrom ∧ (s.handle r).link.seq = s.link.seq ∧
    (s.handle r).link.fast = s.link.fast ∧ (s.handle r).supply.vdd = s.supply.vdd ∧
    (s.handle r).doze = s.doze ∧ (s.handle r).pending = s.pending := by
  unfold State.handle; split <;> simp [State.heldInReset_eq]

@[simp] theorem State.takeRequest_frame (s : State) :
   s.takeRequest.now = s.now ∧ s.takeRequest.heldInReset = s.heldInReset ∧
    s.takeRequest.resetLow = s.resetLow ∧ s.takeRequest.kLines = s.kLines ∧
    s.takeRequest.rx.lineHigh = s.rx.lineHigh ∧ s.takeRequest.rx.nextOrder = s.rx.nextOrder ∧
    s.takeRequest.link.receiver = s.link.receiver ∧
    s.takeRequest.link.interByte = s.link.interByte ∧
    s.takeRequest.link.listenFrom = s.link.listenFrom ∧ s.takeRequest.link.seq = s.link.seq ∧
    s.takeRequest.link.fast = s.link.fast ∧ s.takeRequest.supply.vdd = s.supply.vdd ∧
    s.takeRequest.doze = s.doze ∧ s.takeRequest.pending = s.pending := by
  unfold State.takeRequest; (repeat' split) <;> simp [State.heldInReset_eq]

@[simp] theorem State.takeRequests_frame (s : State) :
   s.takeRequests.now = s.now ∧ s.takeRequests.heldInReset = s.heldInReset ∧
    s.takeRequests.resetLow = s.resetLow ∧ s.takeRequests.kLines = s.kLines ∧
    s.takeRequests.rx.lineHigh = s.rx.lineHigh ∧ s.takeRequests.rx.nextOrder = s.rx.nextOrder ∧
    s.takeRequests.link.receiver = s.link.receiver ∧
    s.takeRequests.link.interByte = s.link.interByte ∧
    s.takeRequests.link.listenFrom = s.link.listenFrom ∧ s.takeRequests.link.seq = s.link.seq ∧
    s.takeRequests.link.fast = s.link.fast ∧ s.takeRequests.supply.vdd = s.supply.vdd ∧
    s.takeRequests.doze = s.doze ∧ s.takeRequests.pending = s.pending := by
  simp [State.heldInReset_eq, State.takeRequests]

@[simp] theorem State.judge_frame (kind tag : Byte) (payload : List Byte) (check : Byte) (s : State) :
   (s.judge kind tag payload check).now = s.now ∧
    (s.judge kind tag payload check).heldInReset = s.heldInReset ∧
    (s.judge kind tag payload check).resetLow = s.resetLow ∧
    (s.judge kind tag payload check).kLines = s.kLines ∧
    (s.judge kind tag payload check).rx.lineHigh = s.rx.lineHigh ∧
    (s.judge kind tag payload check).rx.nextOrder = s.rx.nextOrder ∧
    (s.judge kind tag payload check).link.receiver = s.link.receiver ∧
    (s.judge kind tag payload check).link.interByte = s.link.interByte ∧
    (s.judge kind tag payload check).link.listenFrom = s.link.listenFrom ∧
    (s.judge kind tag payload check).link.seq = s.link.seq ∧
    (s.judge kind tag payload check).link.fast = s.link.fast ∧
    (s.judge kind tag payload check).supply.vdd = s.supply.vdd ∧
    (s.judge kind tag payload check).doze = s.doze ∧
    (s.judge kind tag payload check).pending = s.pending := by
  unfold State.judge; (repeat' split) <;> simp [State.heldInReset_eq]

@[simp] theorem State.toHunt_frame (s : State) :
   s.toHunt.now = s.now ∧ s.toHunt.heldInReset = s.heldInReset ∧ s.toHunt.resetLow = s.resetLow ∧
    s.toHunt.settings = s.settings ∧ s.toHunt.lib = s.lib ∧ s.toHunt.queue = s.queue ∧
    s.toHunt.engine = s.engine ∧ s.toHunt.carrier = s.carrier ∧ s.toHunt.ind = s.ind ∧
    s.toHunt.keys = s.keys ∧ s.toHunt.kLines = s.kLines ∧ s.toHunt.rx = s.rx ∧
    s.toHunt.matcher = s.matcher ∧ s.toHunt.tracker = s.tracker ∧ s.toHunt.learn = s.learn ∧
    s.toHunt.link.replies = s.link.replies ∧ s.toHunt.link.intake = s.link.intake ∧
    s.toHunt.link.handler = s.link.handler ∧ s.toHunt.link.cache = s.link.cache ∧
    s.toHunt.link.listenFrom = s.link.listenFrom ∧ s.toHunt.link.seq = s.link.seq ∧
    s.toHunt.link.fast = s.link.fast ∧ s.toHunt.link.notices = s.link.notices ∧
    s.toHunt.link.sending = s.link.sending ∧ s.toHunt.store = s.store ∧ s.toHunt.supply = s.supply ∧
    s.toHunt.doze = s.doze ∧ s.toHunt.freeUses = s.freeUses ∧ s.toHunt.pending = s.pending := by
  simp [State.heldInReset_eq, State.toHunt]

@[simp] theorem State.awaitByte_frame (h : HuntState) (s : State) :
   (s.awaitByte h).now = s.now ∧ (s.awaitByte h).heldInReset = s.heldInReset ∧
    (s.awaitByte h).resetLow = s.resetLow ∧ (s.awaitByte h).settings = s.settings ∧
    (s.awaitByte h).lib = s.lib ∧ (s.awaitByte h).queue = s.queue ∧
    (s.awaitByte h).engine = s.engine ∧ (s.awaitByte h).carrier = s.carrier ∧
    (s.awaitByte h).ind = s.ind ∧ (s.awaitByte h).keys = s.keys ∧
    (s.awaitByte h).kLines = s.kLines ∧ (s.awaitByte h).rx = s.rx ∧
    (s.awaitByte h).matcher = s.matcher ∧ (s.awaitByte h).tracker = s.tracker ∧
    (s.awaitByte h).learn = s.learn ∧ (s.awaitByte h).link.replies = s.link.replies ∧
    (s.awaitByte h).link.intake = s.link.intake ∧ (s.awaitByte h).link.handler = s.link.handler ∧
    (s.awaitByte h).link.cache = s.link.cache ∧
    (s.awaitByte h).link.listenFrom = s.link.listenFrom ∧ (s.awaitByte h).link.seq = s.link.seq ∧
    (s.awaitByte h).link.fast = s.link.fast ∧ (s.awaitByte h).link.notices = s.link.notices ∧
    (s.awaitByte h).link.sending = s.link.sending ∧ (s.awaitByte h).store = s.store ∧
    (s.awaitByte h).supply = s.supply ∧ (s.awaitByte h).doze = s.doze ∧
    (s.awaitByte h).freeUses = s.freeUses ∧ (s.awaitByte h).pending = s.pending := by
  simp [State.heldInReset_eq, State.awaitByte]

@[simp] theorem State.character_frame (b : Byte) (s : State) :
   (s.character b).now = s.now ∧ (s.character b).heldInReset = s.heldInReset ∧
    (s.character b).resetLow = s.resetLow ∧ (s.character b).kLines = s.kLines ∧
    (s.character b).rx.lineHigh = s.rx.lineHigh ∧ (s.character b).rx.nextOrder = s.rx.nextOrder ∧
    (s.character b).link.listenFrom = s.link.listenFrom ∧ (s.character b).link.seq = s.link.seq ∧
    (s.character b).link.fast = s.link.fast ∧ (s.character b).supply.vdd = s.supply.vdd ∧
    (s.character b).doze = s.doze ∧ (s.character b).pending = s.pending := by
  unfold State.character; (repeat' split) <;> simp [State.heldInReset_eq]

@[simp] theorem State.abandonFrame_frame (s : State) :
   s.abandonFrame.now = s.now ∧ s.abandonFrame.heldInReset = s.heldInReset ∧
    s.abandonFrame.resetLow = s.resetLow ∧ s.abandonFrame.settings = s.settings ∧
    s.abandonFrame.lib = s.lib ∧ s.abandonFrame.queue = s.queue ∧ s.abandonFrame.engine = s.engine ∧
    s.abandonFrame.carrier = s.carrier ∧ s.abandonFrame.ind = s.ind ∧ s.abandonFrame.keys = s.keys ∧
    s.abandonFrame.kLines = s.kLines ∧ s.abandonFrame.rx = s.rx ∧
    s.abandonFrame.matcher = s.matcher ∧ s.abandonFrame.tracker = s.tracker ∧
    s.abandonFrame.learn = s.learn ∧ s.abandonFrame.link.replies = s.link.replies ∧
    s.abandonFrame.link.intake = s.link.intake ∧ s.abandonFrame.link.handler = s.link.handler ∧
    s.abandonFrame.link.cache = s.link.cache ∧ s.abandonFrame.link.listenFrom = s.link.listenFrom ∧
    s.abandonFrame.link.seq = s.link.seq ∧ s.abandonFrame.link.fast = s.link.fast ∧
    s.abandonFrame.store = s.store ∧ s.abandonFrame.supply = s.supply ∧
    s.abandonFrame.doze = s.doze ∧ s.abandonFrame.freeUses = s.freeUses ∧
    s.abandonFrame.pending = s.pending := by
  unfold State.abandonFrame; split <;> simp [State.heldInReset_eq]

@[simp] theorem State.interByteExpires_frame (s : State) :
   s.interByteExpires.now = s.now ∧ s.interByteExpires.heldInReset = s.heldInReset ∧
    s.interByteExpires.resetLow = s.resetLow ∧ s.interByteExpires.settings = s.settings ∧
    s.interByteExpires.lib = s.lib ∧ s.interByteExpires.queue = s.queue ∧
    s.interByteExpires.engine = s.engine ∧ s.interByteExpires.carrier = s.carrier ∧
    s.interByteExpires.ind = s.ind ∧ s.interByteExpires.keys = s.keys ∧
    s.interByteExpires.kLines = s.kLines ∧ s.interByteExpires.rx = s.rx ∧
    s.interByteExpires.matcher = s.matcher ∧ s.interByteExpires.tracker = s.tracker ∧
    s.interByteExpires.learn = s.learn ∧ s.interByteExpires.link.replies = s.link.replies ∧
    s.interByteExpires.link.intake = s.link.intake ∧
    s.interByteExpires.link.handler = s.link.handler ∧
    s.interByteExpires.link.cache = s.link.cache ∧
    s.interByteExpires.link.listenFrom = s.link.listenFrom ∧
    s.interByteExpires.link.seq = s.link.seq ∧ s.interByteExpires.link.fast = s.link.fast ∧
    s.interByteExpires.store = s.store ∧ s.interByteExpires.supply = s.supply ∧
    s.interByteExpires.doze = s.doze ∧ s.interByteExpires.freeUses = s.freeUses ∧
    s.interByteExpires.pending = s.pending := by
  unfold State.interByteExpires; split <;> simp [State.heldInReset_eq]

@[simp] theorem State.takeCharacter_frame (b : Byte) (startAgo : Nat) (stopHigh : Bool) (s : State) :
   (s.takeCharacter b startAgo stopHigh).now = s.now ∧
    (s.takeCharacter b startAgo stopHigh).heldInReset = s.heldInReset ∧
    (s.takeCharacter b startAgo stopHigh).resetLow = s.resetLow ∧
    (s.takeCharacter b startAgo stopHigh).kLines = s.kLines ∧
    (s.takeCharacter b startAgo stopHigh).rx.lineHigh = s.rx.lineHigh ∧
    (s.takeCharacter b startAgo stopHigh).rx.nextOrder = s.rx.nextOrder ∧
    (s.takeCharacter b startAgo stopHigh).link.listenFrom = s.link.listenFrom ∧
    (s.takeCharacter b startAgo stopHigh).link.seq = s.link.seq ∧
    (s.takeCharacter b startAgo stopHigh).link.fast = s.link.fast ∧
    (s.takeCharacter b startAgo stopHigh).supply.vdd = s.supply.vdd ∧
    (s.takeCharacter b startAgo stopHigh).doze = s.doze ∧
    (s.takeCharacter b startAgo stopHigh).pending = s.pending := by
  unfold State.takeCharacter; (repeat' split) <;> simp [State.heldInReset_eq]

@[simp] theorem State.stopDelay_frame (s : State) :
   s.stopDelay.now = s.now ∧ s.stopDelay.heldInReset = s.heldInReset ∧
    s.stopDelay.resetLow = s.resetLow ∧ s.stopDelay.settings = s.settings ∧
    s.stopDelay.lib = s.lib ∧ s.stopDelay.queue = s.queue ∧ s.stopDelay.engine = s.engine ∧
    s.stopDelay.carrier = s.carrier ∧ s.stopDelay.ind = s.ind ∧ s.stopDelay.keys = s.keys ∧
    s.stopDelay.kLines = s.kLines ∧ s.stopDelay.rx = s.rx ∧ s.stopDelay.matcher = s.matcher ∧
    s.stopDelay.tracker = s.tracker ∧ s.stopDelay.learn = s.learn ∧ s.stopDelay.link = s.link ∧
    s.stopDelay.store = s.store ∧ s.stopDelay.supply = s.supply ∧
    s.stopDelay.doze.state = s.doze.state ∧ s.stopDelay.freeUses = s.freeUses ∧
    s.stopDelay.pending = s.pending := by
  simp [State.heldInReset_eq, State.stopDelay]

@[simp] theorem State.receiveFrame_frame (kind tag : Byte) (payload : List Byte) (check : Byte)
    (s : State) :
   (s.receiveFrame kind tag payload check).now = s.now ∧
    (s.receiveFrame kind tag payload check).heldInReset = s.heldInReset ∧
    (s.receiveFrame kind tag payload check).resetLow = s.resetLow ∧
    (s.receiveFrame kind tag payload check).kLines = s.kLines ∧
    (s.receiveFrame kind tag payload check).rx.lineHigh = s.rx.lineHigh ∧
    (s.receiveFrame kind tag payload check).rx.nextOrder = s.rx.nextOrder ∧
    (s.receiveFrame kind tag payload check).link.listenFrom = s.link.listenFrom ∧
    (s.receiveFrame kind tag payload check).link.seq = s.link.seq ∧
    (s.receiveFrame kind tag payload check).link.fast = s.link.fast ∧
    (s.receiveFrame kind tag payload check).supply.vdd = s.supply.vdd ∧
    (s.receiveFrame kind tag payload check).doze.state = s.doze.state ∧
    (s.receiveFrame kind tag payload check).pending = s.pending := by
  unfold State.receiveFrame; split <;> simp [State.heldInReset_eq]

@[simp] theorem State.receiveRequest_frame (kind tag : Byte) (payload : List Byte) (s : State) :
   (s.receiveRequest kind tag payload).now = s.now ∧
    (s.receiveRequest kind tag payload).heldInReset = s.heldInReset ∧
    (s.receiveRequest kind tag payload).resetLow = s.resetLow ∧
    (s.receiveRequest kind tag payload).kLines = s.kLines ∧
    (s.receiveRequest kind tag payload).rx.lineHigh = s.rx.lineHigh ∧
    (s.receiveRequest kind tag payload).rx.nextOrder = s.rx.nextOrder ∧
    (s.receiveRequest kind tag payload).link.listenFrom = s.link.listenFrom ∧
    (s.receiveRequest kind tag payload).link.seq = s.link.seq ∧
    (s.receiveRequest kind tag payload).link.fast = s.link.fast ∧
    (s.receiveRequest kind tag payload).supply.vdd = s.supply.vdd ∧
    (s.receiveRequest kind tag payload).doze.state = s.doze.state ∧
    (s.receiveRequest kind tag payload).pending = s.pending := by
  simp [State.heldInReset_eq, State.receiveRequest]

@[simp] theorem Link.setClosing_frame (r : Reply) (rest : List Reply) (now : Nat) (l : Link) :
   (l.setClosing r rest now).receiver = l.receiver ∧
    (l.setClosing r rest now).interByte = l.interByte ∧
    (l.setClosing r rest now).listenFrom = l.listenFrom ∧
    (l.setClosing r rest now).intake = l.intake ∧ (l.setClosing r rest now).handler = l.handler ∧
    (l.setClosing r rest now).replies = l.replies ∧ (l.setClosing r rest now).notices = l.notices ∧
    (l.setClosing r rest now).lost = l.lost ∧ (l.setClosing r rest now).seq = l.seq ∧
    (l.setClosing r rest now).sending = l.sending ∧ (l.setClosing r rest now).fast = l.fast := by
  unfold Link.setClosing; split <;> simp

@[simp] theorem Link.replySent_frame (r : Reply) (rest : List Reply) (now : Nat) (l : Link) :
   (l.replySent r rest now).receiver = l.receiver ∧
    (l.replySent r rest now).interByte = l.interByte ∧
    (l.replySent r rest now).listenFrom = l.listenFrom ∧
    (l.replySent r rest now).intake = l.intake ∧ (l.replySent r rest now).handler = l.handler ∧
    (l.replySent r rest now).notices = l.notices ∧ (l.replySent r rest now).seq = l.seq ∧
    (l.replySent r rest now).fast = l.fast := by
  simp [Link.replySent]

@[simp] theorem Link.noticeSent_frame (rest : List Notice) (l : Link) :
   (l.noticeSent rest).receiver = l.receiver ∧ (l.noticeSent rest).interByte = l.interByte ∧
    (l.noticeSent rest).listenFrom = l.listenFrom ∧ (l.noticeSent rest).intake = l.intake ∧
    (l.noticeSent rest).handler = l.handler ∧ (l.noticeSent rest).replies = l.replies ∧
    (l.noticeSent rest).cache = l.cache ∧ (l.noticeSent rest).fast = l.fast := by
  simp [Link.noticeSent]

@[simp] theorem State.outboundEnds_frame (strap : Bool) (s : State) :
   (s.outboundEnds strap).now = s.now ∧ (s.outboundEnds strap).heldInReset = s.heldInReset ∧
    (s.outboundEnds strap).resetLow = s.resetLow ∧ (s.outboundEnds strap).kLines = s.kLines ∧
    (s.outboundEnds strap).rx.lineHigh = s.rx.lineHigh ∧
    (s.outboundEnds strap).supply.vdd = s.supply.vdd ∧
    (s.outboundEnds strap).pending = s.pending := by
  unfold State.outboundEnds; (repeat' split) <;> simp [State.heldInReset_eq]

@[simp] theorem State.windowCloses_frame (s : State) :
   s.windowCloses.now = s.now ∧ s.windowCloses.heldInReset = s.heldInReset ∧
    s.windowCloses.resetLow = s.resetLow ∧ s.windowCloses.settings = s.settings ∧
    s.windowCloses.lib = s.lib ∧ s.windowCloses.queue = s.queue ∧ s.windowCloses.engine = s.engine ∧
    s.windowCloses.carrier = s.carrier ∧ s.windowCloses.ind = s.ind ∧ s.windowCloses.keys = s.keys ∧
    s.windowCloses.kLines = s.kLines ∧ s.windowCloses.rx = s.rx ∧
    s.windowCloses.matcher = s.matcher ∧ s.windowCloses.tracker = s.tracker ∧
    s.windowCloses.learn = s.learn ∧ s.windowCloses.link.replies = s.link.replies ∧
    s.windowCloses.link.intake = s.link.intake ∧ s.windowCloses.link.handler = s.link.handler ∧
    s.windowCloses.link.receiver = s.link.receiver ∧
    s.windowCloses.link.interByte = s.link.interByte ∧
    s.windowCloses.link.listenFrom = s.link.listenFrom ∧ s.windowCloses.link.seq = s.link.seq ∧
    s.windowCloses.link.fast = s.link.fast ∧ s.windowCloses.link.notices = s.link.notices ∧
    s.windowCloses.link.sending = s.link.sending ∧ s.windowCloses.store = s.store ∧
    s.windowCloses.supply = s.supply ∧ s.windowCloses.doze = s.doze ∧
    s.windowCloses.freeUses = s.freeUses ∧ s.windowCloses.pending = s.pending := by
  unfold State.windowCloses; (repeat' split) <;> simp [State.heldInReset_eq]

end Sys2Proof.Machine
end

