-- ==== Sys2Proof/Laws/Requests.lean ====
section
/-! SUPPORT. What an event does to the part, and what the receipt of a request does to a part that is ready for
it: the bridge from `exec` to the operations of the blocks. -/

namespace Sys2Proof.Machine

/-! ### Events -/

/-- An event that reaches a running part acts, and the doze delay timer follows. -/
theorem State.event_running {s : State} (h : s.Running) (dt : Nat) (act : State → State) :
    s.event dt (State.whenAwake act) = (act (s.advance dt)).settle := by
  simp [State.event, State.eventOr, State.whenAwake, State.isAwake, h.1, h.2]

/-- An event that reaches a part held in reset: time passes. -/
theorem State.event_held {s : State} (h : s.heldInReset = true) (dt : Nat) (act : State → State) :
    s.event dt act = s.advance dt := by
  simp [State.event, State.eventOr, h]

/-- The doze delay timer of a part that is not quiet is stopped (10 R189). -/
theorem State.settle_busy {s : State} (ha : s.doze.state = .awake) (hq : s.isQuiet = false) :
    s.settle = { s with doze := { s.doze with delay := .stopped } } := by
  simp [State.settle, State.delayAfter, ha, hq]

/-- A part with a reply in its buffer is not quiet (10 R189). -/
theorem State.notQuiet_of_reply {s : State} (h : s.link.replies ≠ []) : s.isQuiet = false := by
  simp [State.isQuiet, Link.isQuiet, h]

/-- A part with a notice in its queue is not quiet (10 R189). -/
theorem State.notQuiet_of_notice {s : State} (h : s.link.notices ≠ []) : s.isQuiet = false := by
  simp [State.isQuiet, Link.isQuiet, h]

/-- A part whose engine is EMITTING or SPACING is not quiet (10 R189). -/
theorem State.notQuiet_of_engine {s : State}
    (h : s.engine.state = .emitting ∨ s.engine.state = .spacing) : s.isQuiet = false := by
  rcases h with h | h <;> simp [State.isQuiet, h]

/-- `exec` always answers a next state. -/
theorem exec_next (c : Instr) (s : State) : ∃ t, exec c s = .next t := by
  cases c <;> exact ⟨_, rfl⟩

/-! ### Requests -/

/-- The state `dt` µs later, once a whole request has come in and has left the intake queue. -/
def State.received (s : State) (dt : Nat) : State :=
  { s with
    now := s.now + dt
    link := { s.link with receiver := .hunt, interByte := .stopped }
    doze := { s.doze with delay := .stopped } }

@[simp] theorem State.received_now (s : State) (dt : Nat) : (s.received dt).now = s.now + dt := rfl

@[simp] theorem State.received_frame (s : State) (dt : Nat) :
   (s.received dt).heldInReset = s.heldInReset ∧ (s.received dt).resetLow = s.resetLow ∧
    (s.received dt).settings = s.settings ∧ (s.received dt).lib = s.lib ∧
    (s.received dt).queue = s.queue ∧ (s.received dt).engine = s.engine ∧
    (s.received dt).carrier = s.carrier ∧ (s.received dt).ind = s.ind ∧
    (s.received dt).keys = s.keys ∧ (s.received dt).kLines = s.kLines ∧ (s.received dt).rx = s.rx ∧
    (s.received dt).matcher = s.matcher ∧ (s.received dt).tracker = s.tracker ∧
    (s.received dt).learn = s.learn ∧ (s.received dt).store = s.store ∧
    (s.received dt).supply = s.supply ∧ (s.received dt).freeUses = s.freeUses ∧
    (s.received dt).pending = s.pending := by
  simp [State.heldInReset_eq, State.received]

/-- The replies of a link after the handler has answered: one more than before. -/
theorem Link.answer_replies_ne (r : Request) (body : ReplyBody) (l : Link) :
    (l.answer r body).replies ≠ [] := by
  unfold Link.answer
  split <;> simp [Link.addReply]

/-- With no request waiting the handler takes none. -/
theorem State.takeRequest_empty {s : State} (h : s.link.intake = []) : s.takeRequest = s := by
  unfold State.takeRequest; rw [h]

/-- An idle handler with room in the reply buffer takes the request at the head (09 R167). -/
theorem State.takeRequest_cons {s : State} {r : Request} {rest : List Request}
    (h : s.link.intake = r :: rest) (hh : s.link.handler = .idle) (hl : s.link.replies.length < 2) :
    s.takeRequest = State.handle r { s with link := { s.link with intake := rest } } := by
  unfold State.takeRequest; rw [h]; simp [hh, Config.replyRoom, hl]

/-- A request that the cache does not answer is carried out and answered (09 R167). -/
theorem State.handle_miss {s : State} {r : Request} (h : s.link.hit r s.now = none) :
    s.handle r = formReply r (s.carryOut r) := by
  unfold State.handle; rw [h]

/-- A request that the cache answers is not carried out (09 R168). -/
theorem State.handle_hit {s : State} {r : Request} {e : CacheEntry}
    (h : s.link.hit r s.now = some e) :
    s.handle r = { s with link := s.link.resend e } := by
  unfold State.handle; rw [h]

/-- A good request frame enters the intake queue, and the handler takes what it may (09 R166). -/
theorem State.receiveRequest_eq {s : State} {kind tag : Byte} {payload : List Byte}
    (hk : isRequest kind = true) (hp : payload.length ≤ 60) (hi : s.link.intake.length < 3) :
    s.receiveRequest kind tag payload =
      State.takeRequests
        { s with
          link :=
            { s.link with
              receiver := .hunt, interByte := .stopped,
              intake := s.link.intake ++ [⟨kind, tag, payload⟩] }
          doze := { s.doze with delay := .stopped } } := by
  have hp' : ¬ 60 < payload.length := by omega
  have hi' : ¬ 3 ≤ s.link.intake.length := by omega
  simp [State.receiveRequest, State.receiveFrame, Config.maxPayload, hp', State.judge, hk,
    Config.intakeRoom, State.toHunt, State.stopDelay, hi']

/-- A single request that waits, and that the reply cache does not answer, is carried out and answered,
and none is left (09 R167). -/
theorem State.takeRequests_single {s : State} {r : Request} (hi : s.link.intake = [r])
    (hh : s.link.handler = .idle) (hl : s.link.replies.length < 2)
    (hm : s.link.hit r s.now = none) :
    s.takeRequests =
      formReply r (State.carryOut r { s with link := { s.link with intake := [] } }) := by
  have e : (formReply r
      (State.carryOut r { s with link := { s.link with intake := [] } })).link.intake = [] := by
    simp
  unfold State.takeRequests
  rw [State.takeRequest_cons hi hh hl, State.handle_miss (by exact hm),
    State.takeRequest_empty e, State.takeRequest_empty e]

/-- A request that reaches a part that is ready for it, and that the reply cache does not answer, is
carried out and answered at once (09 R167). -/
theorem State.receive_ready {s : State} {dt : Nat} {kind tag : Byte} {payload : List Byte}
    (hr : s.Ready) (hk : isRequest kind = true) (hp : payload.length ≤ 60)
    (hm : s.Misses dt ⟨kind, tag, payload⟩) :
    s.event dt (State.whenAwake (State.receiveRequest kind tag payload)) =
      formReply ⟨kind, tag, payload⟩ ((s.received dt).carryOut ⟨kind, tag, payload⟩) := by
  obtain ⟨hrun, hi, hh, hl⟩ := hr
  have h1 : (s.advance dt).receiveRequest kind tag payload =
      formReply ⟨kind, tag, payload⟩ ((s.received dt).carryOut ⟨kind, tag, payload⟩) := by
    rw [State.receiveRequest_eq hk hp (by simp [hi])]
    refine Eq.trans (State.takeRequests_single (r := ⟨kind, tag, payload⟩) ?_ (by exact hh) (by exact hl) (by exact hm)) ?_
    · simp [hi]
    · congr 2
      simp [State.received, State.advance, hi]
  rw [State.event_running hrun]
  rw [h1]
  have hne : (formReply ⟨kind, tag, payload⟩
      ((s.received dt).carryOut ⟨kind, tag, payload⟩)).link.replies ≠ [] := by
    simp only [formReply]; exact Link.answer_replies_ne _ _ _
  have hd : (formReply ⟨kind, tag, payload⟩
      ((s.received dt).carryOut ⟨kind, tag, payload⟩)).doze = { s.doze with delay := .stopped } := by
    simp [State.received]
  rw [State.settle_busy (by rw [hd]; exact hrun.2) (State.notQuiet_of_reply hne)]
  rw [hd]
  conv_rhs => rw [show formReply ⟨kind, tag, payload⟩
      ((s.received dt).carryOut ⟨kind, tag, payload⟩) =
    { formReply ⟨kind, tag, payload⟩ ((s.received dt).carryOut ⟨kind, tag, payload⟩) with
      doze := (formReply ⟨kind, tag, payload⟩
        ((s.received dt).carryOut ⟨kind, tag, payload⟩)).doze } from rfl, hd]

/-- The link after an answer, when the link before it was one that has just received a request. -/
theorem Link.answer_eq {r : Request} (hr : r.kind ≠ RequestKind.restart.code) (body : ReplyBody)
    (l : Link) (h1 : l.receiver = .hunt) (h2 : l.interByte = .stopped) :
    l.answer r body = l.afterRequest r body := by
  obtain ⟨rc, ib, lf, ik, hd, rp, ca, no, lo, sq, sd, fa⟩ := l
  simp only at h1 h2
  subst h1 h2
  unfold Link.answer
  rw [if_neg hr]
  cases sd with
  | some x =>
    simp [Link.fillCache, Link.disown, Link.addReply, Link.startNext, Link.afterRequest,
      Request.reply]
  | none =>
    cases rp <;>
      simp [Link.fillCache, Link.disown, Link.addReply, Link.startNext, Link.afterRequest,
        Request.reply]

/-- A request that is answered with `body` and changes nothing else. -/
theorem State.answered_of_carryOut {s : State} {dt : Nat} {kind tag : Byte} {payload : List Byte}
    {body : ReplyBody} (hk : kind ≠ RequestKind.restart.code)
    (h : (s.received dt).carryOut ⟨kind, tag, payload⟩ = (s.received dt, body)) :
    formReply ⟨kind, tag, payload⟩ ((s.received dt).carryOut ⟨kind, tag, payload⟩) =
      s.answered dt ⟨kind, tag, payload⟩ body := by
  rw [h]
  simp only [formReply, Link.answer_eq (r := ⟨kind, tag, payload⟩) hk body (s.received dt).link rfl rfl]
  rfl

end Sys2Proof.Machine
end

