-- ==== Sys2Proof/Laws/Kept.lean ====
section
/-! SUPPORT. How an invariant of the part is shown once and for all: it is kept by every step when it is
kept by the plain changes (time, the queue of commands, the link) and by each act of a block. -/

namespace Sys2Proof.Machine

/-- A property that the acts of the blocks keep. The link is let take any value while the part is awake, so
the property may speak of the link only in DOZE. -/
structure Kept (P : State → Prop) : Prop where
  pending : ∀ s q, P s → P { s with pending := q }
  clock : ∀ s n, P s → P { s with now := n }
  delay : ∀ s t, P s → P { s with doze := { s.doze with delay := t } }
  link : ∀ s l, P s → s.doze.state = .awake → P { s with link := l }
  dispatch : ∀ s k payload, P s → s.doze.state = .awake → P (s.dispatch k payload).1
  softReset : ∀ s strap, P s → s.doze.state = .awake → P (s.softReset strap)
  hardReset : ∀ s reason strap, P s → P (s.hardReset reason strap)
  setVdd : ∀ s vdd, P s → P (s.setVdd vdd)
  setReset : ∀ s low, P s → P (s.setReset low)
  compareSupply : ∀ s, P s → s.doze.state = .awake → P s.compareSupply
  writeCompletes : ∀ s, P s → s.doze.state = .awake → P s.writeCompletes
  eraseEnds : ∀ s, P s → s.doze.state = .awake → P s.eraseEnds
  draftExpires : ∀ s, P s → s.doze.state = .awake → P s.draftExpires
  intervalEnds : ∀ s, P s → s.doze.state = .awake → P s.intervalEnds
  spacingEnds : ∀ s, P s → s.doze.state = .awake → P s.spacingEnds
  holdExpires : ∀ s id, P s → s.doze.state = .awake → P (s.holdExpires id)
  tailExpires : ∀ s, P s → s.doze.state = .awake → P s.tailExpires
  setKeyLine : ∀ s k high, P s → P (s.setKeyLine k high)
  keyLineChanges : ∀ s k high, P s → P (s.keyLineChanges k high)
  debounceExpires : ∀ s k, P s → s.doze.state = .awake → P (s.debounceExpires k)
  setRxinLine : ∀ s high, P s → P (s.setRxinLine high)
  rxinChanges : ∀ s high, P s → P (s.rxinChanges high)
  confirmGlitch : ∀ s, P s → s.doze.state = .awake → P s.confirmGlitch
  burstEnds : ∀ s, P s → s.doze.state = .awake → P s.burstEnds
  markTooLong : ∀ s, P s → s.doze.state = .awake → P s.markTooLong
  blankTailExpires : ∀ s, P s → s.doze.state = .awake → P s.blankTailExpires
  matchingEnds : ∀ s, P s → s.doze.state = .awake → P s.matchingEnds
  windowExpires : ∀ s, P s → s.doze.state = .awake → P s.windowExpires
  learnExpires : ∀ s, P s → s.doze.state = .awake → P s.learnExpires
  delayExpires : ∀ s, P s → s.doze.state = .awake → P s.delayExpires
  wake : ∀ s byRxin, byRxin = false → P s → P (s.wake byRxin)
  latencyEnds : ∀ s, P s → P s.latencyEnds

namespace Kept

variable {P : State → Prop} (K : Kept P)

include K

theorem advance {s : State} (dt : Nat) (h : P s) : P (s.advance dt) := K.clock s _ h

theorem settle {s : State} (h : P s) : P s.settle := K.delay s _ h

theorem post {s : State} (n : Notice) (h : P s) (ha : s.doze.state = .awake) : P (s.post n) :=
  K.link s _ h ha

theorem event {s : State} (dt : Nat) {act : State → State}
    (hact : ∀ t, P t → P (act t)) (h : P s) : P (s.event dt act) := by
  unfold State.event State.eventOr
  split
  · exact K.advance dt h
  · exact K.settle (hact _ (K.advance dt h))

theorem awakeEvent {s : State} (dt : Nat) {act : State → State}
    (hact : ∀ t, P t → t.doze.state = .awake → P (act t)) (h : P s) :
    P (s.event dt (State.whenAwake act)) := by
  refine K.event dt (fun t ht => ?_) h
  unfold State.whenAwake State.isAwake
  split
  · rename_i ha; exact hact t ht (of_decide_eq_true ha)
  · exact ht

theorem carryOut {s : State} (r : Request) (h : P s) (ha : s.doze.state = .awake) :
    P (s.carryOut r).1 := by
  unfold State.carryOut
  split
  · exact h
  · split
    · exact K.dispatch s _ _ h ha
    · exact h

theorem handle {s : State} (r : Request) (h : P s) (ha : s.doze.state = .awake) :
    P (s.handle r) := by
  unfold State.handle
  split
  · exact K.link s _ h ha
  · exact K.link _ _ (K.carryOut r h ha) (by simp [ha])

theorem takeRequest {s : State} (h : P s) (ha : s.doze.state = .awake) : P s.takeRequest := by
  unfold State.takeRequest
  split
  · exact h
  · split
    · exact K.handle _ (K.link s _ h ha) ha
    · exact h

theorem takeRequests {s : State} (h : P s) (ha : s.doze.state = .awake) : P s.takeRequests :=
  K.takeRequest (K.takeRequest (K.takeRequest h ha) (by simp [ha])) (by simp [ha])

theorem judge {s : State} (kind tag : Byte) (payload : List Byte) (check : Byte) (h : P s)
    (ha : s.doze.state = .awake) : P (s.judge kind tag payload check) := by
  unfold State.judge
  split
  · exact K.post _ h ha
  · split
    · exact K.post _ h ha
    · split
      · exact K.post _ h ha
      · exact K.takeRequests (K.link s _ h ha) ha

theorem receiveFrame {s : State} (kind tag : Byte) (payload : List Byte) (check : Byte) (h : P s)
    (ha : s.doze.state = .awake) : P (s.receiveFrame kind tag payload check) := by
  have h1 : P s.toHunt.stopDelay := K.delay _ _ (K.link s _ h ha)
  unfold State.receiveFrame
  split
  · exact h1
  · exact K.judge _ _ _ _ h1 ha

theorem character {s : State} (b : Byte) (h : P s) (ha : s.doze.state = .awake) :
    P (s.character b) := by
  unfold State.character State.awaitByte
  split <;> (try split)
  all_goals
    first
      | exact h
      | exact K.link s _ h ha
      | exact K.judge _ _ _ _ (K.link s _ h ha) ha

theorem abandonFrame {s : State} (h : P s) (ha : s.doze.state = .awake) : P s.abandonFrame := by
  unfold State.abandonFrame
  split
  all_goals
    first
      | exact h
      | exact K.link s _ h ha

theorem takeCharacter {s : State} (b : Byte) (ago : Nat) (high : Bool) (h : P s)
    (ha : s.doze.state = .awake) : P (s.takeCharacter b ago high) := by
  unfold State.takeCharacter
  split
  · exact h
  · split
    · exact K.character _ (K.abandonFrame h ha) (by simp [ha])
    · exact K.character _ h ha

theorem outboundEnds {s : State} (strap : Bool) (h : P s) (ha : s.doze.state = .awake) :
    P (s.outboundEnds strap) := by
  unfold State.outboundEnds
  split
  · split
    · exact K.softReset s _ h ha
    · exact K.takeRequests (K.link s _ h ha) ha
  · exact K.takeRequests (K.link s _ h ha) ha
  · exact h

theorem powerOn {s : State} (vdd : Nat) (strap : Bool) (h : P s) : P (s.powerOn vdd strap) := by
  rcases s.powerOn_cases vdd strap with ⟨-, e⟩ | ⟨-, e⟩ <;> rw [e]
  · exact K.setVdd s vdd h
  · exact K.hardReset _ _ _ (K.setVdd s vdd h)

theorem pinReset {s : State} (release : Option Bool) (h : P s) : P (s.pinReset release) := by
  rcases s.pinReset_cases release with ⟨-, e⟩ | ⟨-, e⟩ | ⟨strap, -, -, e⟩ <;> rw [e]
  · exact K.setReset s _ h
  · exact K.setReset s _ h
  · exact K.hardReset _ _ _ (K.setReset s _ h)

theorem supplyMoves {s : State} (vdd : Nat) (h : P s) : P (s.supplyMoves vdd) := by
  rcases s.supplyMoves_cases vdd with e | ⟨-, ha, e⟩ <;> rw [e]
  · exact K.setVdd s vdd h
  · exact K.compareSupply _ (K.setVdd s vdd h) ha

/-- A command keeps the property. -/
theorem exec {s t : State} (c : Instr) (h : P s) (he : Machine.exec c s = .next t) : P t := by
  have frame : ∀ dt kind tag payload,
      P (s.event dt (State.whenAwake (State.receiveRequest kind tag payload))) :=
    fun dt kind tag payload =>
      K.awakeEvent dt (fun u hu ha => K.receiveFrame _ _ _ _ hu ha) h
  cases c <;> cases he
  case powerOnReset => exact K.powerOn _ _ (K.advance _ h)
  case pinReset => exact K.pinReset _ (K.advance _ h)
  case linkFrameReceived =>
    exact K.awakeEvent _ (fun u hu ha => K.receiveFrame _ _ _ _ hu ha) h
  case interByteTimeout =>
    refine K.awakeEvent _ (fun u hu ha => ?_) h
    unfold State.interByteExpires
    split
    · exact K.abandonFrame hu ha
    · exact hu
  case outboundFrameEnd => exact K.awakeEvent _ (fun u hu ha => K.outboundEnds _ hu ha) h
  case replyCacheWindowClose =>
    refine K.awakeEvent _ (fun u hu ha => ?_) h
    unfold State.windowCloses
    split
    · split
      · exact K.link _ _ hu ha
      · exact hu
    · exact hu
  case characterReceived => exact K.awakeEvent _ (fun u hu ha => K.takeCharacter _ _ _ hu ha) h
  case saveWriteComplete => exact K.awakeEvent _ K.writeCompletes h
  case wipeEraseEnd => exact K.awakeEvent _ K.eraseEnds h
  case draftExpiry => exact K.awakeEvent _ K.draftExpires h
  case intervalEnd => exact K.awakeEvent _ K.intervalEnds h
  case spacingEnd => exact K.awakeEvent _ K.spacingEnds h
  case holdLimitExpiry => exact K.awakeEvent _ (fun u hu ha => K.holdExpires u _ hu ha) h
  case indTailExpiry => exact K.awakeEvent _ K.tailExpires h
  case keyEdge dt k high =>
    unfold State.eventOr
    split
    · exact K.setKeyLine _ _ _ (K.advance dt h)
    · exact K.settle (K.keyLineChanges _ _ _ (K.advance dt h))
  case debounceExpiry => exact K.awakeEvent _ (fun u hu ha => K.debounceExpires u _ hu ha) h
  case rxinChange dt high =>
    unfold State.eventOr
    split
    · exact K.setRxinLine _ _ (K.advance dt h)
    · exact K.settle (K.rxinChanges _ _ (K.advance dt h))
  case glitchConfirm => exact K.awakeEvent _ K.confirmGlitch h
  case burstEndTimer => exact K.awakeEvent _ K.burstEnds h
  case markLimit => exact K.awakeEvent _ K.markTooLong h
  case blankTailExpiry => exact K.awakeEvent _ K.blankTailExpires h
  case matchingEnd => exact K.awakeEvent _ K.matchingEnds h
  case rxWindowExpiry => exact K.awakeEvent _ K.windowExpires h
  case learnTimerExpiry => exact K.awakeEvent _ K.learnExpires h
  case supplyChange dt supply =>
    unfold State.eventOr
    split
    · exact K.powerOn _ _ (K.advance dt h)
    · exact K.settle (K.supplyMoves _ (K.advance dt h))
  case dozeDelayExpiry => exact K.awakeEvent _ K.delayExpires h
  case rxdWakeEdge => exact K.event _ (fun u hu => K.wake u false rfl hu) h
  case wakeLatencyEnd => exact K.event _ (fun u hu => K.latencyEnds u hu) h
  all_goals exact frame _ _ _ _

/-- A step keeps the property. -/
theorem step {s t : State} (h : P s) (hs : Machine.step s = .next t) : P t := by
  unfold Machine.step at hs
  split at hs
  · cases hs; exact h
  · exact K.exec _ (K.pending s _ h) hs

end Kept

end Sys2Proof.Machine
end

