-- ==== Sys2Proof/Laws/Takes.lean ====
section
/-! SUPPORT. What the Emission Engine does when a frame starts and when it takes a job: for each operation one
lemma that gives the whole result, in the terms of the statements. -/

namespace Sys2Proof.Machine

/-- A READY slot gives its template. -/
theorem State.templateOf_ready {s : State} {t : Fin 16} {d : Template}
    (h : s.lib.slots[t].state = .ready d) : s.templateOf t = some d := by
  unfold State.templateOf; rw [h]; rfl

/-- 05 R84: a frame start, for a job on a READY template. -/
theorem State.startFrame_started {s : State} {j : Job} {d : Template} {ivs : List Interval}
    (hd : s.lib.slots[j.spec.template].state = .ready d)
    (hi : renderFrame d j (frameKindOf d j s.engine.resumed) = ivs) :
    (s.startFrame j).FrameStarted s j d ivs := by
  simp only [State.FrameStarted, State.startFrame, State.activityOn, State.templateOf_ready hd, hi]
  refine ⟨trivial, trivial, trivial, ?_, ?_⟩
  · rintro (h | h) <;> simp [Receiver.blank, h]
  · rintro ⟨h, ho⟩
    cases hs : s.rx.state <;> simp_all [Receiver.blank, Receiver.leaveBurst]

/-- 01 R8, 02 R38: the toggle state that a job taken from WAITING leaves, and the bit it keeps. -/
theorem State.flipToggle_eq {s : State} {j : Job} {d : Template}
    (hd : s.lib.slots[j.spec.template].state = .ready d) :
    s.flipToggle j =
      ({ s with
          lib :=
            { s.lib with
              slots :=
                s.lib.slots.set j.spec.template
                  { s.lib.slots[j.spec.template] with
                    toggle :=
                      if d.toggle.isSome then !s.lib.slots[j.spec.template].toggle
                      else s.lib.slots[j.spec.template].toggle } } },
        if d.toggle.isSome then some !s.lib.slots[j.spec.template].toggle else none) := by
  unfold State.flipToggle
  rw [State.templateOf_ready hd]
  have same : s.lib.slots.set j.spec.template
      { s.lib.slots[j.spec.template] with toggle := s.lib.slots[j.spec.template].toggle }
      = s.lib.slots := Vector.set_getElem_self _
  cases h : d.toggle with
  | none =>
    simp only [h, Option.isSome_none, Bool.false_eq_true, if_false]
    exact congrArg (fun v => ({ s with lib := { s.lib with slots := v } }, none)) same.symm
  | some p => simp [Library.flip, h]

/-- 05 R82 step 5, R92: the hold fields of a job at its first frame. -/
theorem State.startHold_eq (s : State) (j : Job) :
    s.startHold j =
      { j with
        holdStarted := if j.spec.length = .hold then some s.now else j.holdStarted
        holdExpiry :=
          if j.spec.length = .hold then some (s.now + s.settings.holdLimit * 1000000)
          else j.holdExpiry } := by
  unfold State.startHold; cases j.spec.length <;> simp

/-- 05 R82 step 6: JOB_START touches the link alone. -/
theorem State.postJobStart_eq (j : Job) (s : State) :
    s.postJobStart j =
      { s with
        link :=
          if j.spec.report = .both then
            s.link.post (.jobStart j.id j.source j.spec.template j.spec.cls j.toggleBit)
          else s.link } := by
  unfold State.postJobStart; split <;> simp_all [State.post]

/-- 05 R82, R83: what the engine does with a job that it takes. -/
theorem State.takeJob_taken {s : State} {j : Job} {d : Template}
    (hd : s.lib.slots[j.spec.template].state = .ready d) (hj : j.state ≠ .current) :
    (s.takeJob j).JobTaken s j d := by
  cases hw : j.state with
  | current => exact absurd hw hj
  | parked =>
    have hx : s.takeJob j = s.resumeJob j := by simp [State.takeJob, hw]
    rw [hx]; unfold State.resumeJob
    refine ⟨by simp, by simp, by simp [State.SameBeyondEmission], by simp [hw], fun _ => ⟨?_, ?_⟩⟩
    · exact State.startFrame_started
        (s := { s with engine := { s.engine with resumed := true } }) hd
        (by simp [renderFrame, frameKindOf])
    · simp
  | waiting =>
    have hx : s.takeJob j = s.beginJob j := by simp [State.takeJob, hw]
    have full : ∀ k : Job, k.spec = j.spec → k.framesSent = 0 →
        k.toggleBit = (if d.toggle.isSome then some !s.lib.slots[j.spec.template].toggle else none) →
        renderFrame d k (frameKindOf d k s.engine.resumed) =
          d.fullFrame j.spec.payload (d.toggle.isSome && !s.lib.slots[j.spec.template].toggle) := by
      intro k hs h0 hb
      cases ht : d.toggle <;> simp_all [renderFrame, frameKindOf]
    rw [hx]; unfold State.beginJob State.startFirst
    rw [State.postJobStart_eq, State.startHold_eq, State.flipToggle_eq hd]
    refine ⟨by simp, by simp, ?_, fun _ h0 => ⟨?_, ?_, ?_⟩, by simp [hw]⟩
    · simp [State.SameBeyondEmission]
    · exact State.startFrame_started (s := { s with lib := _ }) (by simpa using hd) (full _ rfl h0 rfl)
    · simp
    · simp

end Sys2Proof.Machine
end

