-- ==== Sys2Proof/Tests/Slice0.lean ====
section
/-! SUPPORT. The model's own tests: the spec's worked sequences, one step each, with their expected values
taken from the spec's tables; ill-formed commands; and, for every statement of
Sys2Proof/Certificates/Slice0/Obligations.lean that has hypotheses, states and operands that meet them. -/

open Sys2Proof Sys2Proof.Machine

namespace Sys2Proof.Tests

set_option Elab.async false

/-! ### States to test on -/

/-- The part with nothing on the link: a request is handled at once. -/
def ready : State :=
  { State.reset with link := { State.reset.link with notices := [], sending := none, seq := 1#8 } }

/-- 02 section 2.9: the pulse-distance template of slot 3, listening (01 section 1.9). -/
def slot3 : Template where
  carrier := 380
  duty := .third
  lead := [⟨.mark, 9000⟩, ⟨.space, 4500⟩]
  symbols :=
    Vector.ofFn fun n =>
      [[⟨.mark, 560⟩, ⟨.space, 560⟩], [⟨.mark, 560⟩, ⟨.space, 1690⟩], [], []][n]
  payloadBits := 16
  bitOrder := .lsbFirst
  check := .invertBytes
  toggle := none
  trailer := [⟨.mark, 560⟩]
  repeatForm := .marker
  marker := [⟨.mark, 9000⟩, ⟨.space, 2250⟩, ⟨.mark, 560⟩]
  spacingMode := .period
  spacing := 108000
  minFrames := 1
  listen := true
  tolerance := 20

/-- 02 section 2.10: the bi-phase template of slot 5, listening (08 section 8.5). -/
def slot5 : Template where
  carrier := 360
  duty := .quarter
  lead := [⟨.space, 600⟩, ⟨.mark, 600⟩]
  symbols :=
    Vector.ofFn fun n =>
      [[⟨.mark, 600⟩, ⟨.space, 600⟩], [⟨.space, 600⟩, ⟨.mark, 600⟩], [], []][n]
  payloadBits := 10
  bitOrder := .msbFirst
  check := .none
  toggle := some 9
  trailer := []
  repeatForm := .full
  marker := []
  spacingMode := .gap
  spacing := 90000
  minFrames := 2
  listen := true
  tolerance := 20

/-- A library with slots 3 and 5 READY. -/
def library : Library :=
  { slots :=
      (State.reset.lib.slots.set 3 ⟨.ready slot3, 0, false⟩).set 5 ⟨.ready slot5, 0, false⟩
    draft := none }

/-- The part with slots 3 and 5 READY. -/
def stocked : State := { ready with lib := library }

/-- What the SEND of 11 section 11.7 asks for. -/
def spec3 : JobSpec :=
  { template := 3, payload := [0x04#8, 0xB4#8], length := .count 1, mask := 1#3, cls := .normal,
    report := .atEnd }

/-- A HOLD job's specification on slot 5, with report BOTH (05 section 5.10). -/
def spec5 : JobSpec :=
  { template := 5, payload := [0xB6#8, 0x00#8], length := .hold, mask := 1#3, cls := .normal,
    report := .both }

/-- A WAITING job. -/
def waitingJob (id : Nat) (spec : JobSpec) : Job :=
  { id := id, source := .host, spec := spec, state := .waiting, framesSent := 0, endPending := none,
    holdStarted := none, toggleBit := none, holdExpiry := none }

/-- The part with the engine STOPPED and jobs in the queue. -/
def stoppedWith (jobs : List Job) : State :=
  { stocked with
    queue := { jobs := jobs, nextId := 5 }
    engine := { stocked.engine with state := .stopped } }

/-- The part in SPACING, with or without a current job, its deadline at 1,000. -/
def spacingWith (current : Option Job) (jobs : List Job) : State :=
  { stocked with
    queue := { jobs := jobs, nextId := 5 }
    engine := { stocked.engine with state := .spacing, current := current, deadline := .running 1000 } }

/-- The part EMITTING a frame of two marks; the interval `index` has begun at 0. -/
def emittingWith (j : Job) (index : Nat) : State :=
  { stocked with
    engine :=
      { stocked.engine with
        state := .emitting, current := some j, emitting := true
        buffer := [⟨.mark, 600⟩, ⟨.space, 600⟩, ⟨.mark, 1200⟩]
        position := some { index := index, since := 0, frameStart := 0, stoppedAt := none } }
    rx := { stocked.rx with state := .blanked } }

/-- The part with key 1 in a state, its debounce expiry at 1,000. -/
def keyAt (state : KeyState) (live : Option Nat) (binding : Option JobSpec) : State :=
  { stocked with keys := stocked.keys.set 1 ⟨state, .running 1000, live, binding⟩ }

/-- The receiver IN_BURST with slot A FILLING; `last` is the moment of the last edge. -/
def burstWith (filtered : IKind) (last : Nat) (ivs : List Interval) : State :=
  { stocked with
    rx :=
      { stocked.rx with
        state := .inBurst, filtered := filtered, lastEdge := last, slotA := .filling 0 ivs
        lineHigh := decide (filtered = .space) } }

/-- The burst of 08 section 8.5. -/
def burst5 : List Interval :=
  [⟨.mark, 620⟩, ⟨.space, 580⟩, ⟨.mark, 1230⟩, ⟨.space, 1170⟩, ⟨.mark, 1210⟩, ⟨.space, 1190⟩,
   ⟨.mark, 640⟩, ⟨.space, 570⟩, ⟨.mark, 1220⟩, ⟨.space, 1180⟩, ⟨.mark, 610⟩, ⟨.space, 590⟩,
   ⟨.mark, 1240⟩]

/-- The Matcher at work on a burst in slot A, with slots 3 and 5 to try. -/
def matching (burst : List Interval) (tracker : Tracker) (result : Option MatchResult) : State :=
  { stocked with
    rx := { stocked.rx with slotA := .full 0 67980 0 burst }
    matcher := some { slot := .a, untried := [3, 5], result := result }
    tracker := tracker }

/-- A session on slot 3 (08 section 8.6). -/
def session3 : Tracked :=
  { template := 3, payload := [0x04#8, 0xB4#8], toggle := none, repeats := 0, deadline := 217980 }

/-- An image with slot 3 READY and key 1 bound to it. -/
def image3 : Image :=
  { slots := (Vector.replicate 16 none).set 3 (some slot3)
    bindings := (Vector.replicate 8 none).set 1 (some spec3)
    settings := Settings.defaults }

/-- The part with bank A VALID 7 and bank B VALID 6 (10 section 10.6). -/
def saved : State := { stocked with store := { bankA := .valid 7 image3, bankB := .valid 6 image3, op := .idle } }

/-- The draft of 01 section 1.9 after step 9. -/
def draft3 : Draft :=
  { slot := 3, mode := .new, work := { slot3 with payloadBits := 20 }, put := [.carrier],
    expiry := .running 30000000 }

/-- The part with that draft. -/
def drafting : State :=
  { ready with lib := { slots := library.slots.set 3 ⟨.draft, 0, false⟩, draft := some draft3 } }

/-- The part in DOZE. -/
def dozing : State :=
  { stocked with settings := { stocked.settings with doze := true }, doze := ⟨.dozing, .stopped⟩ }

/-- Whether a command answers a next state that a test accepts. -/
def goes (c : Instr) (s : State) (p : State → Bool) : Bool :=
  match exec c s with
  | .next t => p t
  | .fault _ | .refused _ => false

/-- Whether a command's reply, the last in the buffer, carries this. -/
def replies (c : Instr) (s : State) (body : ReplyBody) : Bool :=
  goes c s fun t => decide (t.link.replies.getLast?.map Reply.body = some body)

/-- Whether a command posts these notices. -/
def notifies (c : Instr) (s : State) (ns : List Notice) : Bool :=
  goes c s fun t => decide (t.link.notices = s.link.notices ++ ns)

/-! ### Ill-formed commands -/

theorem test_frame_too_long_is_ill_formed :
    WellFormed (.linkFrameReceived 0 1#8 0#8 (List.replicate 61 0#8) 0#8) = false
      ∧ WellFormed (.linkFrameReceived 0 1#8 0#8 (List.replicate 60 0#8) 0#8) = true := by decide

theorem test_unknown_kind_is_not_in_use :
    WellFormed (.unknownKindRequest 0 0x20#8 0#8 []) = false
      ∧ WellFormed (.unknownKindRequest 0 0x40#8 0#8 []) = false
      ∧ WellFormed (.unknownKindRequest 0 0x02#8 0#8 []) = false
      ∧ WellFormed (.unknownKindRequest 0 0x05#8 0#8 (List.replicate 61 0#8)) = false
      ∧ WellFormed (.unknownKindRequest 0 0x3F#8 0#8 []) = true := by decide

theorem test_ping_too_long_is_ill_formed :
    WellFormed (.ping 0 0#8 (List.replicate 61 0#8)) = false := by decide

theorem test_put_too_long_is_ill_formed :
    WellFormed (.tplPut 0 0#8 1#8 (List.replicate 60 0#8)) = false := by decide

theorem test_send_too_long_is_ill_formed :
    WellFormed (.send 0 0#8 0#8 0#8 1#8 1#8 0#8 0#8 (List.replicate 55 0#8)) = false := by decide

theorem test_bind_too_long_is_ill_formed :
    WellFormed (.bind 0 0#8 0#8 0#8 0#8 1#8 1#8 0#8 0#8 (List.replicate 54 0#8)) = false := by
  decide

theorem test_character_too_short_is_ill_formed :
    WellFormed (.characterReceived 1000 0xB5#8 85 true) = false
      ∧ WellFormed (.characterReceived 1000 0xB5#8 86 true) = true := by decide

/-! ### The spec's worked examples of functions -/

/-- 02 section 2.9: the encoded bit sequence, the frame's count and duration. -/
theorem test_render_slot3 :
    (slot3.fullFrame [0x04#8, 0xB4#8] false).length = 67
      ∧ total (slot3.fullFrame [0x04#8, 0xB4#8] false) = 67980
      ∧ (encodeBits .lsbFirst .invertBytes (toggledBits slot3 [0x04#8, 0xB4#8] false)).take 16
          = [false, false, true, false, false, false, false, false,
             true, true, false, true, true, true, true, true]
      ∧ slot3.markerFrame = [⟨.mark, 9000⟩, ⟨.space, 2250⟩, ⟨.mark, 560⟩]
      ∧ slot3.deadline 0 67980 = 108000 ∧ slot3.deadline 108000 119810 = 216000 := by
  decide +kernel

/-- 02 section 2.10: merging and dropping. -/
theorem test_render_slot5 :
    slot5.fullFrame [0xB6#8, 0x00#8] true =
        [⟨.mark, 600⟩, ⟨.space, 600⟩, ⟨.mark, 1200⟩, ⟨.space, 1200⟩, ⟨.mark, 1200⟩,
         ⟨.space, 1200⟩, ⟨.mark, 600⟩, ⟨.space, 600⟩, ⟨.mark, 1200⟩, ⟨.space, 1200⟩,
         ⟨.mark, 600⟩, ⟨.space, 600⟩, ⟨.mark, 1200⟩]
      ∧ (slot5.fullFrame [0xB6#8, 0x00#8] false).take 4 =
        [⟨.mark, 1200⟩, ⟨.space, 600⟩, ⟨.mark, 600⟩, ⟨.space, 1200⟩]
      ∧ slot5.deadline 0 12000 = 102000 := by decide +kernel

/-- 02 R29: the check byte of 0x34, 0x12, 0xF0 is 0x36. -/
theorem test_sum_byte :
    sumByte ([0x34, 0x12, 0xF0].flatMap bitsOfByte) = 0x36 := by decide +kernel

/-- 03 section 3.6: the pulses of the marks. -/
theorem test_pulses :
    slot3.carrierSetting = .modulated 421 140 ∧ slot5.carrierSetting = .modulated 444 111
      ∧ pulses 421 9000 = 343 ∧ pulses 421 560 = 22 ∧ pulses 444 600 = 22
      ∧ pulses 444 1200 = 44 := by decide +kernel

/-- 08 section 8.5: the decode of the bi-phase burst, and its failing variant. -/
theorem test_decode_slot5 :
    fullFrameTrial slot5 burst5 = some [0xB6#8, 0x02#8]
      ∧ fullFrameTrial slot5 (burst5.set 3 ⟨.space, 1480⟩) = none := by decide +kernel

/-- 01 section 1.9: the second commit is taken. -/
theorem test_slot3_commits : slot3.invalid? = none := by decide +kernel

/-- 01 section 1.9: the first commit is refused; and 02 section 2.10's template is a good one. -/
theorem test_commit_reasons :
    Template.invalid? { slot3 with payloadBits := 20 } = some .checkLength
      ∧ slot5.invalid? = none := by decide +kernel

/-! ### One step of each command -/

/-- 10 R179, 09 R177: from a blank part, a power-on reset; from the part of 10 section 10.6, a pin reset
loads the VALID bank with the highest generation. -/
theorem test_resets :
    goes (.powerOnReset 5 2300 true) saved (fun t =>
        t.supply.low && decide (t.link.notices =
          [.start .power (.loaded .a 7), .supply true 24]))
      ∧ goes (.pinReset 5 (some true)) saved (fun t =>
          decide (t.link.notices = [.start .pin (.loaded .a 7)])
            && t.lib.slots[(3 : Fin 16)].refs == 1) := by decide +kernel

/-- 03 R52: RESETn low: E0 is not driven, and nothing is loaded when VDD rises; the release loads. -/
theorem test_reset_low :
    goes (.pinReset 5 none) saved (fun t =>
        t.heldInReset && decide (t.linePin 0 0 = .notDriven)
          && goes (.powerOnReset 5 3000 true) t (fun u => u.heldInReset && !u.link.fast)
          && goes (.pinReset 5 (some true)) t (fun u => !u.heldInReset && u.link.fast)) := by
  decide +kernel

/-- 09 R163: PING with tag 0x10 as the frame 0xB5, 0x00, 0x01, 0x10, 0x4E; a wrong check byte. -/
theorem test_link_frame_received :
    replies (.linkFrameReceived 5 0x01#8 0x10#8 [] 0x4E#8) ready (.pong [])
      ∧ notifies (.linkFrameReceived 5 0x01#8 0x10#8 [] 0x4F#8) ready [.linkFault .badCheck] := by
  decide +kernel

/-- 09 R164, R165: the start byte, then silence; a length above 60. -/
theorem test_characters :
    goes (.characterReceived 90 0xB5#8 87 true) ready (fun t => decide (t.link.receiver = .length))
      ∧ goes (.characterReceived 90 0xB5#8 87 false) ready (fun t => decide (t.link.receiver = .hunt))
      ∧ goes (.characterReceived 90 61#8 87 true)
          { ready with link := { ready.link with receiver := .length, interByte := .running 10001 } }
          (fun t => decide (t.link.receiver = .hunt)) := by decide +kernel

theorem test_inter_byte_timeout :
    notifies (.interByteTimeout 10001)
      { ready with link := { ready.link with receiver := .tag 2 1#8, interByte := .running 10001 } }
      [.linkFault (.truncated 3)] := by decide +kernel

theorem test_unknown_kind : replies (.unknownKindRequest 1 0x3F#8 7#8 []) ready (.status .unknownKind) := by
  decide +kernel

/-- 09 section 9.8: the SEND's reply leaves, and the entry is due 2 s later. -/
theorem test_outbound_frame_end :
    goes (.outboundFrameEnd ⟨1200, false⟩)
      (match exec (.send 0 0x21#8 3#8 0#8 1#8 1#8 0#8 1#8 [0x04#8, 0xB4#8]) stocked with
        | .next t => t
        | _ => stocked)
      (fun t => decide (t.link.replies = [])
        && decide (t.link.cache.map CacheEntry.closing = some (.running 2001200))) := by decide +kernel

/-- 09 R161, R175: a strap that has changed is read at the soft reset. -/
theorem test_soft_reset_strap :
    goes (.outboundFrameEnd ⟨1, true⟩)
      { ready with
        link :=
          { ready.link with
            replies := [⟨0x82#8, 7#8, .restarting, false, false⟩], sending := some .reply
            handler := .restarting } }
      (fun t => decide (t.link.baud = 115200)
        && decide (t.link.notices = [.start .restart (.kept none)])) := by decide +kernel

/-- 09 R161: 0xB5 on TXD, least significant bit first, between a low start bit and a high stop bit. -/
theorem test_txd_bits :
    characterBits 0xB5#8 =
        [false, true, false, true, false, true, true, false, true, true]
      ∧ State.reset.txdHigh 0 = false ∧ ready.txdHigh 0 = true := by decide +kernel

theorem test_reply_cache_window_close :
    goes (.replyCacheWindowClose 2000000)
      { ready with
        link := { ready.link with cache := some ⟨⟨1#8, 1#8, []⟩, .pong [], .running 2000000⟩ } }
      (fun t => decide (t.link.cache = none)) := by decide +kernel

theorem test_ping : replies (.ping 1 0x10#8 [0xAA#8]) ready (.pong [0xAA#8]) := by decide +kernel

theorem test_restart :
    replies (.restart 1 7#8) ready .restarting
      ∧ replies (.restart 1 7#8) { ready with store := { ready.store with op := .wiping .a 9 false } }
          (.status .saving) := by decide +kernel

/-- 05 R92: HOLD_LIMIT from 1 to 120 s; 09 R176. -/
theorem test_set_get :
    goes (.set 1 7#8 0x01#8 120#32) ready (fun t => decide (t.settings.holdLimit = 120))
      ∧ replies (.set 1 7#8 0x01#8 121#32) ready (.status .badValue)
      ∧ replies (.get 1 7#8 0x01#8) ready (.setting 0x01#8 15#32) := by decide +kernel

/-- 10 section 10.6: the save's target and generation; with the supply LOW it is refused. -/
theorem test_save :
    replies (.save 1 7#8) saved (.saveAccepted .b 8)
      ∧ replies (.save 1 7#8) { saved with supply := ⟨2350, true⟩ } (.status .lowSupply) := by
  decide +kernel

/-- 10 section 10.6: the bank with the highest generation is erased first. -/
theorem test_wipe :
    goes (.wipe 1 7#8)
      { saved with store := { saved.store with bankB := .valid 8 image3 } }
      (fun t => decide (t.store.bankA = .invalid) && decide (t.store.op = .wiping .a 30001 false)) := by
  decide +kernel

/-- 10 section 10.6: WRITING, A VALID 7, B INVALID, target B, generation 8, 24 ms left. -/
theorem test_store_status :
    replies (.storeStatus 24000 7#8)
      { saved with store := { bankA := .valid 7 image3, bankB := .invalid, op := .writing .b 8 48000 image3 } }
      (.snapshot
        [1#8, 1#8, 7#8, 0#8, 0#8, 0#8, 0#8, 0#8, 0#8, 0#8, 0#8, 1#8, 8#8, 0#8, 0#8, 0#8, 24#8, 0#8]) := by
  decide +kernel

/-- 01 section 1.9, steps 1, 15 and 17. -/
theorem test_tpl_open :
    replies (.tplOpen 1 7#8 0#8 0#8) stocked (.status .ok)
      ∧ notifies (.tplOpen 1 7#8 3#8 1#8) { stocked with tracker := .held session3 }
          [.rxEnd 3 .gone 0 [0x04#8, 0xB4#8]] := by decide +kernel

/-- 01 section 1.9, step 2: CARRIER (380, THIRD). -/
theorem test_tpl_put :
    goes (.tplPut 1 7#8 0#8 [0x7C#8, 0x01#8, 1#8]) drafting (fun t =>
      decide (t.lib.draft.map (fun d => (d.work.carrier, d.work.duty)) = some (380, .third))) := by
  decide +kernel

/-- 01 section 1.9, step 10. -/
theorem test_tpl_commit : replies (.tplCommit 1 7#8) drafting (.invalid .checkLength) := by
  decide +kernel

theorem test_tpl_abort :
    goes (.tplAbort 1 7#8) drafting (fun t => decide (t.lib.slots[(3 : Fin 16)].state = .empty)) := by
  decide +kernel

theorem test_tpl_erase :
    goes (.tplErase 1 7#8 5#8) stocked (fun t => decide (t.lib.slots[(5 : Fin 16)].state = .empty))
      ∧ replies (.tplErase 1 7#8 4#8) stocked (.status .slotState) := by decide +kernel

/-- 01 section 1.9, step 19: TPL_READ(3, STORED, SPACING): PERIOD 108,000, 1. -/
theorem test_tpl_read :
    replies (.tplRead 1 7#8 3#8 0#8 6#8 0#8) stocked
      (.part [6#8, 1#8, 0xE0#8, 0xA5#8, 0x01#8, 0x00#8, 1#8]) := by decide +kernel

theorem test_tpl_status :
    goes (.tplStatus 1 7#8) stocked (fun t =>
      match t.link.replies.map Reply.body with
      | [.snapshot bytes] => decide ((bytes.drop 9).take 3 = [3#8, 0#8, 0#8])
      | _ => false) := by decide +kernel

/-- 01 R18: 30 s after it was last touched the draft expires. -/
theorem test_draft_expiry :
    notifies (.draftExpiry 30000000) drafting [.draftExpired 3 .new]
      ∧ notifies (.draftExpiry 29999999) drafting [] := by decide +kernel

/-- 05 section 5.10 at time 0; 04 section 4.8, step 9. -/
theorem test_send :
    goes (.send 1 7#8 5#8 1#8 0#8 1#8 0#8 2#8 [0xB6#8, 0#8]) stocked (fun t =>
        decide (t.engine.state = .emitting) && t.lib.slots[(5 : Fin 16)].toggle
          && decide (t.engine.current.bind Job.holdExpiry = some 15000001))
      ∧ replies (.send 1 7#8 3#8 0#8 1#8 1#8 0#8 1#8 [4#8, 0#8, 0#8]) stocked (.status .badPayload) := by
  decide +kernel

/-- 04 section 4.8, steps 6 and 7. -/
theorem test_release :
    replies (.release 1 7#8 2#8) (stoppedWith [waitingJob 1 spec5, waitingJob 2 spec3]) (.status .notHold)
      ∧ replies (.release 1 7#8 1#8) (stoppedWith [waitingJob 1 spec5, waitingJob 2 spec3])
          (.outcome .pending) := by decide +kernel

/-- 04 section 4.8, step 5. -/
theorem test_cancel :
    notifies (.cancel 1 7#8 3#8) (stoppedWith [waitingJob 3 spec3]) [.jobEnd 3 .host 3 .cancelled 0] := by
  decide +kernel

/-- 04 section 4.9, step 7. -/
theorem test_flush :
    replies (.flush 1 7#8) (stoppedWith [waitingJob 5 spec5, waitingJob 6 spec5]) (.removed 2) := by
  decide +kernel

theorem test_queue_status :
    goes (.queueStatus 1 7#8) (stoppedWith [waitingJob 5 spec5]) (fun t =>
      match t.link.replies.map Reply.body with
      | [.snapshot bytes] => decide (bytes.length = 14)
      | _ => false) := by decide +kernel

/-- 05 section 5.11 at 220,000: the current job ends CUT and 2,000 µs are owed. -/
theorem test_stop :
    goes (.stop 4000 7#8) (emittingWith { waitingJob 1 spec3 with state := .current, framesSent := 2 } 0)
      (fun t => decide (t.engine.deadline = .running 6000)
        && decide (t.link.notices = [.jobEnd 1 .host 3 .cut 2])) := by decide +kernel

/-- 05 section 5.11 at 221,500 and at 230,000. -/
theorem test_resume :
    goes (.resume 1 7#8)
        { stoppedWith [waitingJob 4 spec5] with
          engine := { (stoppedWith []).engine with deadline := .running 500 } }
        (fun t => decide (t.engine.state = .spacing))
      ∧ goes (.resume 600 7#8)
        { stoppedWith [waitingJob 4 spec5] with
          engine := { (stoppedWith []).engine with deadline := .running 500 } }
        (fun t => decide (t.engine.state = .emitting)) := by decide +kernel

/-- 05 section 5.10 at 12,000: the frame is counted, and the deadline lies 90,000 later. -/
theorem test_interval_end :
    goes (.intervalEnd 1200) (emittingWith { waitingJob 1 spec5 with state := .current } 2)
      (fun t => decide (t.engine.deadline = .running 91200)
        && decide (t.engine.current.map Job.framesSent = some 1)) := by decide +kernel

/-- 05 section 5.10 at 516,000: the job ends RELEASED, and the engine goes IDLE. -/
theorem test_spacing_end :
    notifies (.spacingEnd 1000)
      (spacingWith
        (some { waitingJob 1 spec5 with
          state := .current, framesSent := 4, endPending := some .released }) [])
      [.jobEnd 1 .host 5 .released 4] := by decide +kernel

/-- 04 R71: the hold limit of a PARKED job with its minimum reached. -/
theorem test_hold_limit_expiry :
    notifies (.holdLimitExpiry 5 1#8)
      (stoppedWith
        [{ waitingJob 1 spec5 with state := .parked, framesSent := 2, holdExpiry := some 5 }])
      [.jobEnd 1 .host 5 .holdLimit 2] := by decide +kernel

theorem test_ind_tail_expiry :
    goes (.indTailExpiry 7) { ready with ind := { asserted := true, tail := .running 7 } }
      (fun t => !t.ind.asserted) := by decide +kernel

/-- 06 section 6.9 at 0, and K1 going high again before the expiry. -/
theorem test_key_edge :
    goes (.keyEdge 0 1 false) stocked (fun t =>
        decide (t.keys[(1 : Fin 8)].state = .pressing)
          && decide (t.keys[(1 : Fin 8)].expiry = .running 16000))
      ∧ goes (.keyEdge 300 1 true) { keyAt .pressing none none with kLines := 0xFD#8 } (fun t =>
          decide (t.keys[(1 : Fin 8)].state = .up)) := by decide +kernel

/-- 06 section 6.9 at 17,100, and the second press at 336,000. -/
theorem test_debounce_expiry :
    goes (.debounceExpiry 1000 1) (keyAt .pressing none (some spec3)) (fun t =>
        decide (t.keys[(1 : Fin 8)].live = some 1) && decide (t.engine.state = .emitting))
      ∧ goes (.debounceExpiry 1000 1) (keyAt .pressing (some 9) (some spec3)) (fun t =>
          decide (t.link.notices.getLast? = some (.keyRefused 1 .stillLive (some 9)))) := by
  decide +kernel

theorem test_bind :
    goes (.bind 1 7#8 1#8 3#8 0#8 1#8 1#8 0#8 1#8 [4#8, 0xB4#8]) stocked (fun t =>
      decide (t.keys[(1 : Fin 8)].binding = some spec3) && t.lib.slots[(3 : Fin 16)].refs == 1) := by
  decide +kernel

theorem test_unbind :
    replies (.unbind 1 7#8 1#8) (keyAt .up none (some spec3)) (.replaced true) := by decide +kernel

theorem test_key_status :
    goes (.keyStatus 1 7#8) (keyAt .down (some 9) (some spec3)) (fun t =>
      match t.link.replies.map Reply.body with
      | [.snapshot bytes] => decide ((bytes.drop 5).take 3 = [2#8, 3#8, 9#8])
      | _ => false) := by decide +kernel

/-- 07 section 7.9 at 0 and at 4,025. -/
theorem test_rxin_change :
    goes (.rxinChange 0 false) ready (fun t => decide (t.rx.candidate = some ⟨0, 40⟩))
      ∧ goes (.rxinChange 25 true)
          { burstWith .mark 0 [] with
            rx := { (burstWith .mark 0 []).rx with lineHigh := false, candidate := none } }
          (fun t => decide (t.rx.candidate = some ⟨25, 65⟩)) := by decide +kernel

/-- 07 section 7.9 at 9,040: the space edge is dated 9,000, and MARK 9,000 is stored. -/
theorem test_glitch_confirm :
    goes (.glitchConfirm 9040)
      { burstWith .mark 0 [] with
        rx := { (burstWith .mark 0 []).rx with candidate := some ⟨9000, 9040⟩, lineHigh := true } }
      (fun t => decide (t.rx.slotA = .filling 0 [⟨.mark, 9000⟩])
        && decide (t.rx.burstEnd = .running 21001)) := by decide +kernel

/-- 07 section 7.9 at 23,811. -/
theorem test_burst_end_timer :
    goes (.burstEndTimer 23811)
      { burstWith .space 11810 slot3.marker with
        rx := { (burstWith .space 11810 slot3.marker).rx with burstEnd := .running 23811 } }
      (fun t => decide (t.rx.slotA = .full 0 11810 0 slot3.marker) && t.matcher.isSome) := by
  decide +kernel

theorem test_mark_limit :
    notifies (.markLimit 65001)
      { burstWith .mark 0 [] with rx := { (burstWith .mark 0 []).rx with markLimit := .running 65001 } }
      [.rxDropped .stuck 0] := by decide +kernel

/-- 07 section 7.10 at 112,000: QUIET; with the line at mark, DISCARD. -/
theorem test_blank_tail_expiry :
    goes (.blankTailExpiry 9)
        { ready with rx := { ready.rx with state := .blanked, blankTail := .running 9 } }
        (fun t => decide (t.rx.state = .quiet))
      ∧ goes (.blankTailExpiry 9)
        { ready with
          rx := { ready.rx with state := .blanked, blankTail := .running 9, filtered := .mark } }
        (fun t => decide (t.rx.state = .discard)) := by decide +kernel

/-- 08 section 8.6 at 86,000 and at 133,000. -/
theorem test_matching_end :
    notifies (.matchingEnd 1) (matching (slot3.fullFrame [0x04#8, 0xB4#8] false) .quiet none)
        [.rxCode 3 none [0x04#8, 0xB4#8]]
      ∧ goes (.matchingEnd 1)
        { matching slot3.marker (.held session3) none with
          settings := { stocked.settings with rxReportRepeats := true } }
        (fun t => decide (t.link.notices = [.rxRepeat 3 1 .markerFrame])) := by decide +kernel

/-- 08 section 8.6 at 377,810. -/
theorem test_rx_window_expiry :
    notifies (.rxWindowExpiry 377810)
      { ready with tracker := .held { session3 with repeats := 2, deadline := 377810 } }
      [.rxEnd 3 .timeout 2 [0x04#8, 0xB4#8]] := by decide +kernel

theorem test_learn_arm :
    goes (.learnArm 1 7#8 30#8) ready (fun t => decide (t.learn = .armed 30000001))
      ∧ replies (.learnArm 1 7#8 31#8) ready (.status .badValue) := by decide +kernel

theorem test_learn_cancel :
    replies (.learnCancel 1 7#8) { ready with learn := .armed 9 } (.learnWas 1#8) := by decide +kernel

theorem test_learn_read :
    replies (.learnRead 1 7#8 1#8) { ready with learn := .filled slot3.marker }
        (.learnData 3 1 [⟨.space, 2250⟩, ⟨.mark, 560⟩])
      ∧ replies (.learnRead 1 7#8 0#8) ready (.status .notFilled) := by decide +kernel

theorem test_learn_timer_expiry :
    notifies (.learnTimerExpiry 9) { ready with learn := .armed 9 } [.learnExpired] := by decide +kernel

theorem test_rx_status :
    goes (.rxStatus 1 7#8) ready (fun t =>
      match t.link.replies.map Reply.body with
      | [.snapshot bytes] => decide (bytes.length = 15)
      | _ => false) := by decide +kernel

/-- 10 section 10.6 at 474. -/
theorem test_save_write_complete :
    notifies (.saveWriteComplete 64000)
      { saved with store := { bankA := .valid 7 image3, bankB := .invalid, op := .writing .b 8 64000 image3 } }
      [.saveDone (.ok .b 8)] := by decide +kernel

/-- 10 section 10.6 at 530. -/
theorem test_wipe_erase_end :
    goes (.wipeEraseEnd 30000)
      { saved with
        store := { bankA := .invalid, bankB := .valid 8 image3, op := .wiping .a 30000 false } }
      (fun t => decide (t.store = ⟨.invalid, .invalid, .wiping .b 60000 true⟩)) := by decide +kernel

/-- 10 section 10.6 at 25 and at 300. -/
theorem test_supply_change :
    notifies (.supplyChange 25000 ⟨2350, false⟩)
        { saved with store := { bankA := .valid 7 image3, bankB := .invalid, op := .writing .b 8 64000 image3 } }
        [.supply true 24, .saveDone (.failedSupply .b)]
      ∧ goes (.supplyChange 5 ⟨2450, false⟩) { ready with supply := ⟨2350, true⟩ } (fun t => t.supply.low) := by
  decide +kernel

theorem test_doze_delay_expiry :
    goes (.dozeDelayExpiry 100000)
      { ready with
        settings := { ready.settings with doze := true }, doze := ⟨.awake, .running 100000⟩ }
      (fun t => decide (t.doze.state = .dozing)) := by decide +kernel

theorem test_rxd_wake_edge :
    goes (.rxdWakeEdge 5) dozing (fun t => decide (t.doze.state = .waking false)) := by decide +kernel

theorem test_wake_latency_end :
    goes (.wakeLatencyEnd 1500) { dozing with doze := ⟨.waking true, .stopped⟩ }
      (fun t => decide (t.doze.state = .awake) && decide (t.rx.state = .discard)) := by decide +kernel

/-- 10 R191: a wake latency of 0 µs; the character that woke the part is lost. -/
theorem test_waking_character_lost :
    goes (.wakeLatencyEnd 0) { dozing with doze := ⟨.waking false, .stopped⟩ } (fun t =>
      goes (.characterReceived 87 0xB5#8 87 true) t (fun u => decide (u.link.receiver = .hunt))
        && goes (.characterReceived 88 0xB5#8 87 true) t
          (fun u => decide (u.link.receiver = .length))) := by decide +kernel

/-! ### States and operands that meet the statements' hypotheses -/

/-- The part with the store WRITING. -/
def writing : State :=
  { saved with store := { bankA := .valid 7 image3, bankB := .invalid, op := .writing .b 8 64000 image3 } }

/-- The part with slots 3 and 5 in use. -/
def inUse : State :=
  { stocked with
    lib :=
      { stocked.lib with
        slots := (stocked.lib.slots.set 3 ⟨.ready slot3, 1, false⟩).set 5 ⟨.ready slot5, 1, false⟩ } }

/-- The part with a revision of slot 5 open. -/
def revising : State :=
  { stocked with
    lib :=
      { slots := stocked.lib.slots.set 5 ⟨.revising slot5, 0, true⟩
        draft := some ⟨5, .revise, slot5, [], .running 30000000⟩ } }

theorem witness_StepRunsTheFrontCommand : State.reset.pending = [] := rfl

theorem witness_HeldOrAsleepIgnores :
    { ready with resetLow := true }.heldInReset = true ∧ { ready with resetLow := true }.resetLow = true
      ∧ { ready with supply := ⟨1799, false⟩ }.heldInReset = true ∧ 1799 < 1800
      ∧ { ready with supply := ⟨1799, false⟩ }.supply.vdd < 1800
      ∧ dozing.heldInReset = false ∧ dozing.doze.state ≠ .awake := by decide +kernel

theorem witness_HardResetLoadsTheNewestImage :
    (State.reset.store.bankA = .invalid ∧ State.reset.store.bankB = .invalid)
      ∧ (saved.store.bankA = .valid 7 image3 ∧ saved.store.bankB.generation < 7)
      ∧ (let s := { saved with store := { saved.store with bankB := .valid 8 image3 } }
         s.store.bankB = .valid 8 image3 ∧ s.store.bankA.generation < 8)
      ∧ 1800 ≤ 1800 ∧ saved.resetLow = false ∧ 1800 ≤ saved.supply.vdd := by decide +kernel

theorem ready_ready : ready.Ready ∧ stocked.Ready ∧ saved.Ready ∧ writing.Ready ∧ drafting.Ready
    ∧ revising.Ready ∧ inUse.Ready := by
  unfold State.Ready State.Running; decide +kernel

theorem stoppedWith_ready (jobs : List Job) : (stoppedWith jobs).Ready :=
  ⟨⟨rfl, rfl⟩, rfl, rfl, Nat.zero_lt_two⟩

theorem misses (s : State) (dt : Nat) (r : Request) (h : s.link.cache = none) : s.Misses dt r := by
  simp [State.Misses, Link.hit, h]

theorem witness_RestartTakesTheSoftReset :
    (ready.Ready ∧ ready.Misses 1 ⟨0x02#8, 7#8, []⟩)
      ∧ (let r : Reply := ⟨0x82#8, 7#8, .restarting, false, false⟩
         let s := { ready with link := { ready.link with replies := [r], sending := some .reply } }
         s.Running ∧ s.link.sending = some .reply ∧ s.link.replies = [r] ∧ r.body = .restarting) :=
  ⟨⟨ready_ready.1, rfl⟩, ⟨rfl, rfl⟩, rfl, rfl, rfl⟩

theorem witness_TplOpenBindsADraft :
    (stocked.Misses 1 ⟨0x10#8, 7#8, [16#8, 0#8]⟩ ∧ stocked.Misses 1 ⟨0x10#8, 7#8, [15#8, 2#8]⟩)
      ∧ writing.isWriting = true ∧ drafting.lib.draft.isSome = true ∧ drafting.isWriting = false
      ∧ (stocked.isWriting = false ∧ stocked.lib.draft = none)
      ∧ stocked.lib.slots[(15 : Fin 16)].state = .empty
      ∧ stocked.lib.slots[(5 : Fin 16)].state = .ready slot5
      ∧ inUse.lib.slots[(5 : Fin 16)].refs ≠ 0
      ∧ (stocked.lib.slots[(5 : Fin 16)].refs = 0 ∧ stocked.matcher = none
        ∧ stocked.tracker.heldOn 5 = false) := by
  refine ⟨⟨rfl, rfl⟩, ?_⟩; decide +kernel

theorem witness_LeavingReadyIsTold :
    let s := { stocked with tracker := .held session3 }
    s.Ready ∧ s.isWriting = false ∧ s.lib.slots[(3 : Fin 16)].state = .ready slot3
      ∧ s.lib.slots[(3 : Fin 16)].refs = 0 ∧ s.Misses 1 ⟨0x14#8, 7#8, [u8 3]⟩
      ∧ s.Misses 1 ⟨0x10#8, 7#8, [u8 3, 1#8]⟩ ∧ s.lib.draft = none
      ∧ (matching burst5 (.held session3) none).Ready := by
  refine ⟨⟨⟨rfl, rfl⟩, rfl, rfl, Nat.zero_lt_two⟩, by decide +kernel, by decide +kernel, by decide +kernel,
    rfl, rfl, rfl, ⟨rfl, rfl⟩, rfl, rfl, Nat.zero_lt_two⟩

theorem witness_TplPutRenewsTheDraft :
    (drafting.Misses 1 ⟨0x11#8, 7#8, [7#8, 1#8, 25#8]⟩ ∧ drafting.lib.draft = some draft3)
      ∧ putLengthOk [7#8, 1#8, 25#8] = true ∧ partOf 7#8 [1#8, 25#8] = some (.receive true 25)
      ∧ partOf 7#8 [1#8, 26#8] = none ∧ ready.lib.draft = none := by
  refine ⟨⟨rfl, rfl⟩, ?_⟩; decide +kernel

theorem witness_SectionsAreCheckedAndReadBack :
    partOf 0#8 [200#8, 0#8, 0#8] = some (.carrier 200 .half)
      ∧ putLengthOk [0#8, 200#8, 0#8, 0#8] = true ∧ (PartData.carrier 600 .third).InRange
      ∧ (PartData.spacing .gap 250000 4).InRange
      ∧ (PartData.lead [⟨.space, 10⟩, ⟨.mark, 65000⟩]).InRange := by
  unfold PartData.InRange IsIntervalList; decide +kernel

theorem witness_TplCommitInstalls :
    drafting.Misses 1 ⟨0x12#8, 7#8, []⟩ ∧ drafting.lib.draft = some draft3
      ∧ draft3.work.invalid? = some .checkLength ∧ revising.Misses 1 ⟨0x12#8, 7#8, []⟩
      ∧ slot5.invalid? = none := by
  refine ⟨rfl, rfl, ?_, rfl, ?_⟩ <;> decide +kernel

theorem witness_CommitReasonsInOrder :
    let none4 : Vector (List Interval) 4 := Vector.replicate 4 []
    let all4 : Vector (List Interval) 4 := Vector.replicate 4 [⟨.mark, 10⟩]
    (∀ n : Fin 4, none4[n] = []) ∧ (∀ n : Fin 4, all4[n] ≠ []) ∧ 15 % 2 = 1
      ∧ (slot3.symbols[0] ≠ [] ∧ slot3.symbols[1] ≠ [] ∧ slot3.symbols[2] = []
        ∧ slot3.symbols[3] = [])
      ∧ (slot3.check = .invertBytes ∧ 20 % 8 ≠ 0) ∧ (slot3.payloadBits % 8 = 0 ∧ 16 ≤ 16) := by
  decide +kernel

/-- A template of 1 payload bit whose frames are the lead and one MARK, whatever the payload. -/
def tiny (lead : List Interval) (form : RepeatForm) (marker : List Interval) : Template :=
  { slot5 with
    lead := lead, symbols := Vector.ofFn fun n => [[⟨.mark, 10⟩], [⟨.mark, 10⟩], [], []][n]
    payloadBits := 1, toggle := none, repeatForm := form, marker := marker }

theorem tiny_frame (lead : List Interval) (form : RepeatForm) (marker : List Interval)
    (payload : List Byte) (bit : Bool) :
    (tiny lead form marker).fullFrame payload bit = render (lead ++ [⟨.mark, 10⟩]) := by
  have h : ∀ b : Bool, (tiny lead form marker).rawFrame [b] = lead ++ [⟨.mark, 10⟩] ++ [] := by
    intro b; cases b <;> rfl
  exact congrArg render ((h (payloadBit payload 0)).trans (List.append_nil _))

/-- `n` MARKs of 10 µs, each with a SPACE of 10 µs behind it. -/
def beats (n : Nat) : List Interval := (List.replicate n [⟨.mark, 10⟩, ⟨.space, 10⟩]).flatten

/-- Each clause of the last four reasons, and of none, at its boundary. -/
theorem witness_CommitReasonsInOrder_frames :
    (let t : Template := { slot5 with lead := [], trailer := [], toggle := none, payloadBits := 1
                                      symbols := (tiny [] .full []).symbols.set 0 [⟨.space, 10⟩] }
     holdsMark (t.fullFrame [0#8] false) = false)
      ∧ (∀ lead form marker payload bit, lead ∈ [[], beats 80, [⟨.mark, 250000⟩]] →
          holdsMark ((tiny lead form marker).fullFrame payload bit) = true)
      ∧ ((tiny [] .marker [⟨.space, 10⟩]).repeatForm = .marker ∧ holdsMark [⟨.space, 10⟩] = false)
      ∧ 160 < ((tiny (beats 80) .full []).fullFrame [] false).length
      ∧ (∀ payload bit, ¬ 160 < ((tiny (⟨.space, 10⟩ :: beats 79) .full []).fullFrame payload bit).length)
      ∧ 250000 < total ((tiny [⟨.mark, 250000⟩] .full []).fullFrame [] false)
      ∧ (∀ payload bit, ¬ 250000 < total ((tiny [⟨.mark, 249990⟩] .full []).fullFrame payload bit))
      ∧ (drafting.Ready ∧ drafting.Misses 1 ⟨0x12#8, 7#8, []⟩ ∧ drafting.isWriting = false
        ∧ { drafting.lib with draft := some { draft3 with work := tiny [] .full [] } }.draft =
            some { draft3 with work := tiny [] .full [] }) := by
  refine ⟨by decide +kernel, ?_, by decide +kernel, ?_, ?_, ?_, ?_, ready_ready.2.2.2.2.1, rfl, rfl, rfl⟩
  · intro lead form marker payload bit h
    rw [tiny_frame]
    revert lead; decide +kernel
  · rw [tiny_frame]; decide +kernel
  · intro payload bit; rw [tiny_frame]; decide +kernel
  · rw [tiny_frame]; decide +kernel
  · intro payload bit; rw [tiny_frame]; decide +kernel

theorem witness_CommittedFramesFit :
    slot3.Committed ∧ slot5.Committed ∧ slot3.repeatForm = .marker ∧ slot3.marker.length ≤ 4 :=
  ⟨test_slot3_commits, test_commit_reasons.2, rfl, by decide⟩

theorem witness_AbandoningRestoresTheSlot :
    (drafting.lib.draft = some draft3 ∧ drafting.lib.slots[draft3.slot].state = .draft
        ∧ drafting.Misses 1 ⟨0x13#8, 7#8, []⟩ ∧ draft3.expiry = .running 30000000
        ∧ 30000000 ≤ drafting.now + 30000000)
      ∧ revising.lib.slots[(5 : Fin 16)].state = .revising slot5
      ∧ (ready.Ready ∧ ready.Misses 1 ⟨0x13#8, 7#8, []⟩ ∧ ready.lib.draft = none) := by
  refine ⟨⟨rfl, ?_, rfl, rfl, ?_⟩, ?_, ready_ready.1, rfl, rfl⟩ <;> decide +kernel

theorem witness_TplEraseEmptiesTheSlot :
    stocked.Misses 1 ⟨0x14#8, 7#8, [16#8]⟩ ∧ stocked.Misses 1 ⟨0x14#8, 7#8, [5#8]⟩
      ∧ writing.isWriting = true ∧ stocked.lib.slots[(15 : Fin 16)].state = .empty
      ∧ inUse.lib.slots[(5 : Fin 16)].refs ≠ 0 ∧ stocked.lib.slots[(5 : Fin 16)].refs = 0
      ∧ stocked.lib.slots[(5 : Fin 16)].state = .ready slot5 := by
  refine ⟨rfl, rfl, ?_⟩; decide +kernel

theorem witness_TplReadAnswersTheSection :
    revising.Misses 1 ⟨0x15#8, 7#8, [5#8, 1#8, 2#8, 3#8]⟩
      ∧ (2#8, 3#8) = (2#8, BitVec.ofNat 8 (3 : Fin 4).val)
      ∧ revising.Misses 1 ⟨0x15#8, 7#8, [16#8, 2#8, 8#8, 1#8]⟩ ∧ 4 ≤ (4#8 : Byte).toNat
      ∧ (7#8 ≠ (2#8 : Byte) ∧ 1#8 ≠ (0#8 : Byte)) := by
  refine ⟨rfl, rfl, rfl, ?_⟩; decide

/-- 01 R20: an EMPTY slot and no draft, read with a symbol number out of range (assumption log entry 33). -/
theorem test_read_out_of_range :
    replies (.tplRead 1 7#8 15#8 0#8 2#8 4#8) stocked (.status .badValue) = true
      ∧ replies (.tplRead 1 7#8 15#8 1#8 7#8 1#8) stocked (.status .badValue) = true
      ∧ replies (.tplRead 1 7#8 15#8 0#8 2#8 3#8) stocked (.status .slotState) = true
      ∧ replies (.tplRead 1 7#8 15#8 1#8 7#8 0#8) stocked (.status .noDraft) = true := by decide +kernel

theorem witness_ReceptionUndoesEncoding :
    slot3.symbolCount = some 2 ∧ slot3.payloadBits % 8 = 0 ∧ (List.replicate 16 true).length = 16
      ∧ slot3.toggle = none ∧ payloadFits slot3 [0x04#8, 0xB4#8] = true
      ∧ slot3.symbols[0] = [⟨.mark, 560⟩, ⟨.space, 560⟩]
      ∧ slot3.symbols[1] = [⟨.mark, 560⟩, ⟨.space, 1690⟩] ∧ slot3.trailer = [⟨.mark, 560⟩]
      ∧ slot3.lead = [⟨.mark, 9000⟩, ⟨.space, 4500⟩]
      ∧ 560 * slot3.tolerance < (1690 - 560 + (560 - 1690)) * 100 := by decide +kernel

theorem witness_CarrierPeriodIsNearest : 200 ≤ 512 ∧ 512 ≤ 600 := by decide

/-- A current job on slot 3. -/
def current3 : Job := { waitingJob 1 spec3 with state := .current }

/-- A current HOLD job on slot 5. -/
def current5 : Job := { waitingJob 1 spec5 with state := .current, toggleBit := some true }

theorem witness_DutySetsTheActivePart :
    (emittingWith current3 0).markOn 0 0 = true ∧ (emittingWith current3 0).markOn 0 9599 = true
      ∧ (emittingWith current3 0).carrier = .modulated 421 140 := by decide +kernel

theorem witness_LinesFollowTheMarks :
    { ready with resetLow := true }.resetLow = true ∧ { ready with supply := ⟨1799, false⟩ }.supply.vdd < 1800
      ∧ ready.heldInReset = false ∧ (emittingWith current3 0).lineActive 0 0 = true
      ∧ 0 < 421 := by decide +kernel

/-- 03 R47: at the end of a mark of 600 µs, 9,600 steps, the line is idle, before INTERVAL_END is taken. -/
theorem test_line_after_mark :
    (emittingWith current3 0).lineActive 0 9262 = true
      ∧ { emittingWith current3 0 with carrier := .unmodulated }.lineActive 0 9599 = true
      ∧ { emittingWith current3 0 with carrier := .unmodulated }.lineActive 0 9600 = false
      ∧ (emittingWith current3 0).linePin 0 9600 = .drivenLow := by decide +kernel

theorem witness_SendRefusalsInOrder :
    (stocked.Misses 1 ⟨0x20#8, 7#8, [15#8, 1#8, 0#8, 7#8, 1#8, 2#8, 1#8]⟩)
      ∧ (stocked.lib.slots[(15 : Fin 16)].state = .empty
        ∧ stocked.lib.slots[(3 : Fin 16)].state = .ready slot3)
      ∧ payloadFits slot3 [0#8] = false ∧ payloadFits slot3 [4#8, 0xB4#8] = true
      ∧ (stocked.settings.line 0).enabled = true ∧ (stocked.settings.line 2).enabled = false
      ∧ (stoppedWith (List.replicate 8 (waitingJob 1 spec3))).queue.jobs.length = 8
      ∧ { stocked with supply := ⟨2350, true⟩ }.supply.low = true := by
  refine ⟨rfl, ?_⟩; decide +kernel

theorem witness_SendQueuesTheJob :
    (stoppedWith []).Misses 1 ⟨0x20#8, 7#8, [3#8, 0#8, 1#8, 1#8, 0#8, 1#8, 4#8, 0xB4#8]⟩
      ∧ jobSpecOf 3#8 0#8 1#8 1#8 0#8 1#8 [4#8, 0xB4#8] = some spec3
      ∧ (stoppedWith []).admissionRefusal spec3 = none ∧ (stoppedWith []).engine.state ≠ .idle
      ∧ (let s := { stoppedWith [waitingJob 255 spec3, waitingJob 1 spec3] with
            queue := ⟨[waitingJob 255 spec3, waitingJob 1 spec3], 255⟩ }
         s.liveJobs.length ≤ 8 ∧ s.queue.nextId ≤ 255 ∧ s.allocate = 2) := by
  refine ⟨rfl, ?_⟩; decide +kernel

theorem witness_SendStartsTheFirstFrame :
    stocked.Misses 1 ⟨0x20#8, 7#8, [5#8, 1#8, 0#8, 1#8, 0#8, 2#8, 0xB6#8, 0#8]⟩
      ∧ jobSpecOf 5#8 1#8 0#8 1#8 0#8 2#8 [0xB6#8, 0#8] = some spec5
      ∧ stocked.admissionRefusal spec5 = none
      ∧ stocked.lib.slots[(5 : Fin 16)].state = .ready slot5
      ∧ stocked.engine.state = .idle ∧ stocked.engine.current = none ∧ stocked.queue.jobs = [] := by
  refine ⟨rfl, ?_⟩; decide +kernel

theorem witness_ReleaseAndCancel :
    (stoppedWith []).Misses 1 ⟨0x21#8, 7#8, [255#8]⟩ ∧ (stoppedWith []).liveJobs = []
      ∧ (stoppedWith [waitingJob 255 spec5]).Misses 1 ⟨0x22#8, 7#8, [255#8]⟩
      ∧ (stoppedWith [waitingJob 255 spec5]).findJob 255 = some (waitingJob 255 spec5) := by
  refine ⟨rfl, ?_, rfl, ?_⟩ <;> decide +kernel

theorem witness_FlushEmptiesTheQueue :
    (stoppedWith [waitingJob 1 spec5]).Misses 1 ⟨0x23#8, 7#8, []⟩
      ∧ (stoppedWith [waitingJob 1 spec5]).link.notices.length + 1 ≤ 12 := by
  refine ⟨rfl, ?_⟩; decide +kernel

theorem witness_StopInEveryState :
    (stoppedWith []).engine.state = .stopped ∧ stocked.engine.state = .idle
      ∧ ((spacingWith (some current3) []).engine.state = .spacing
        ∧ (spacingWith (some current3) []).engine.current = some current3)
      ∧ (emittingWith current3 2).engine.state = .emitting
      ∧ (emittingWith current3 2).engine.position = some ⟨2, 0, 0, none⟩
      ∧ (emittingWith current3 2).Ready ∧ (spacingWith (some current3) []).Ready := by
  refine ⟨rfl, rfl, ⟨rfl, rfl⟩, rfl, rfl, ⟨⟨rfl, rfl⟩, rfl, rfl, Nat.zero_lt_two⟩, ⟨rfl, rfl⟩, rfl, rfl,
    Nat.zero_lt_two⟩

/-- The part STOPPED with a spacing deadline at 500. -/
def owing (jobs : List Job) : State :=
  { stoppedWith jobs with engine := { (stoppedWith jobs).engine with deadline := .running 500 } }

theorem witness_ResumeWaitsForTheDeadline :
    stocked.engine.state ≠ .stopped ∧ (owing []).engine.state = .stopped
      ∧ (owing []).engine.deadline = .running 500 ∧ (owing []).now + 499 < 500
      ∧ 500 ≤ (owing []).now + 500 ∧ (owing []).queue.jobs = [] := by decide +kernel

theorem witness_TheHeadIsTaken :
    (let s := owing [waitingJob 1 spec5]
     s.queue.jobs = [waitingJob 1 spec5] ∧ s.lib.slots[(5 : Fin 16)].state = .ready slot5
      ∧ s.engine.current = none ∧ s.engine.state = .stopped ∧ s.engine.deadline = .running 500)
      ∧ (let s := spacingWith none [{ waitingJob 1 spec5 with state := .parked, framesSent := 1 }]
         s.engine.state = .spacing ∧ s.engine.deadline = .running 1000 ∧ 1000 ≤ s.now + 1000
          ∧ s.engine.current = none) := by decide +kernel

theorem witness_IntervalEnds :
    (let s := emittingWith current3 0
     s.engine.buffer[0]? = some ⟨.mark, 600⟩ ∧ 0 + 1 < s.engine.buffer.length
      ∧ 0 + 600 ≤ s.now + 600 ∧ s.now + 599 < 0 + 600)
      ∧ (let s := emittingWith current5 2
         s.engine.buffer[2]? = some ⟨.mark, 1200⟩ ∧ 2 + 1 = s.engine.buffer.length
          ∧ 0 + 1200 ≤ s.now + 1200 ∧ s.lib.slots[(5 : Fin 16)].state = .ready slot5)
      ∧ (emittingWith current3 0).Running :=
  ⟨by decide +kernel, by decide +kernel, rfl, rfl⟩

theorem witness_SpacingEndGoesIdle :
    (spacingWith none []).engine.state = .spacing ∧ (spacingWith none []).engine.deadline = .running 1000
      ∧ (let j := { current5 with framesSent := 2, endPending := some .released }
         (spacingWith (some j) []).engine.current = some j
          ∧ (spacingWith (some j) []).minimum j ≤ j.framesSent
          ∧ (spacingWith (some j) []).queue.jobs = []
          ∧ (spacingWith (some j) [waitingJob 2 spec3]).queue.jobs = [waitingJob 2 spec3]
          ∧ (spacingWith (some j) [waitingJob 2 spec3]).lib.slots[(3 : Fin 16)].state = .ready slot3
          ∧ (waitingJob 2 spec3).framesSent = 0) := by decide +kernel

theorem witness_SpacingEndParksOrGoesOn :
    let h := waitingJob 2 { spec3 with cls := .urgent }
    let s := spacingWith (some { current5 with framesSent := 1 }) [h]
    s.queue.jobs = [h] ∧ h.spec.cls = .urgent ∧ h.state = .waiting ∧ h.framesSent = 0
      ∧ s.lib.slots[(3 : Fin 16)].state = .ready slot3
      ∧ s.lib.slots[(5 : Fin 16)].state = .ready slot5
      ∧ (∀ k ∈ (spacingWith (some current5) []).queue.jobs.head?, k.spec.cls = .normal) := by
  decide +kernel

theorem witness_HoldLimitAndTailExpire :
    (let j := { waitingJob 255 spec5 with state := .parked, framesSent := 2, holdExpiry := some 9 }
     (stoppedWith [j]).findJob 255 = some j ∧ j.holdExpiry = some 9 ∧ 9 ≤ (stoppedWith [j]).now + 9)
      ∧ { ready with ind := ⟨true, .running 7⟩ }.ind.tail = .running 7 := by decide +kernel

theorem witness_KeyEdgeFollowsTheTable :
    stocked.heldInReset = false ∧ stocked.kLines.getLsbD 7 = true
      ∧ stocked.settings.keyEnable.getLsbD 7 = true
      ∧ { stocked with settings := { stocked.settings with keyEnable := 0x7F#8 } }.settings.keyEnable.getLsbD 7
          = false := by decide +kernel

theorem witness_DebounceTakesPressAndRelease :
    (keyAt .locked none none).keys[(1 : Fin 8)].expiry = .running 1000
      ∧ (keyAt .releasing (some 9) none).findJob 9 = none
      ∧ (let j := { waitingJob 9 spec5 with source := .key 1 }
         { keyAt .releasing (some 9) none with queue := ⟨[j], 10⟩ }.findJob 9 = some j)
      ∧ (keyAt .pressing none none).keys[(1 : Fin 8)].state = .pressing
      ∧ (keyAt .pressing (some 9) (some spec3)).keys[(1 : Fin 8)].binding = some spec3
      ∧ { keyAt .pressing none (some spec3) with supply := ⟨2350, true⟩ }.admissionRefusal spec3
          = some .lowSupply
      ∧ (keyAt .pressing none (some spec3)).admissionRefusal spec3 = none
      ∧ (keyAt .pressing none (some spec3)).engine.state = .idle ∧ slot3.toggle = none := by
  decide +kernel

theorem witness_BindAndUnbind :
    stocked.Misses 1 ⟨0x28#8, 7#8, [7#8, 3#8, 0#8, 1#8, 1#8, 0#8, 1#8, 4#8, 0xB4#8]⟩
      ∧ stocked.Misses 1 ⟨0x29#8, 7#8, [8#8]⟩
      ∧ jobSpecOf 3#8 0#8 1#8 1#8 0#8 1#8 [4#8, 0xB4#8] = some spec3
      ∧ jobSpecOf 16#8 0#8 1#8 1#8 0#8 1#8 [4#8, 0xB4#8] = none := by
  refine ⟨rfl, rfl, ?_⟩; decide +kernel

theorem witness_ReceiverTakesEdges :
    (let s := burstWith .mark 0 []
     s.rx.lineHigh ≠ true ∧ s.rx.candidate = none ∧ s.settings.rxGlitch ≠ 0
      ∧ s.rx.slot .a = .filling 0 [] ∧ (s.rx.slot .b).isFilling = false)
      ∧ (let s := { burstWith .mark 0 [] with
            rx := { (burstWith .mark 0 []).rx with lineHigh := true, candidate := some ⟨9000, 9040⟩ } }
         s.rx.candidate = some ⟨9000, 9040⟩ ∧ 9040 ≤ s.now + 9040)
      ∧ { stocked with settings := { stocked.settings with rxGlitch := 0 } }.settings.rxGlitch = 0
      ∧ (burstWith .mark 0 []).Running :=
  ⟨by decide +kernel, by decide +kernel, by decide +kernel, rfl, rfl⟩

theorem witness_ReceiverTimersExpire :
    (let s := { burstWith .space 560 [⟨.mark, 560⟩] with
        rx := { (burstWith .space 560 [⟨.mark, 560⟩]).rx with burstEnd := .running 12561 } }
     s.rx.slot .a = .filling 0 [⟨.mark, 560⟩] ∧ s.rx.state = .inBurst
      ∧ s.rx.burstEnd = .running 12561 ∧ s.matcher = none ∧ s.rx.slot .b = .free
      ∧ s.learn.isArmed = false ∧ { s with learn := .armed 9 }.learn.isArmed = true)
      ∧ (let s := { burstWith .mark 0 [] with
            rx := { (burstWith .mark 0 []).rx with markLimit := .running 65001 } }
         s.rx.markLimit = .running 65001 ∧ (s.rx.slot .b).isFilling = false)
      ∧ (let s := { ready with rx := { ready.rx with state := .discard, burstEnd := .running 9 } }
         s.rx.state = .discard ∧ s.rx.burstEnd = .running 9)
      ∧ { ready with rx := { ready.rx with state := .blanked, blankTail := .running 9 } }.rx.blankTail
          = .running 9 := by decide +kernel

theorem witness_MatchingEndDelivers :
    let s := matching burst5 (.held session3) none
    let full := { s with rx := { s.rx with slotB := .full 1 2 1 burst5 }, learn := .armed 9 }
    (s.Running ∧ s.matcher = some ⟨.a, [3, 5], none⟩ ∧ SlotName.b ≠ SlotName.a)
      ∧ full.Running ∧ full.matcher = some ⟨.a, [3, 5], none⟩
      ∧ (full.rx.slot .b).isFull = true ∧ full.learn.isArmed = true
      ∧ (s.lib.slots[(3 : Fin 16)].state = .ready slot3 ∧ fullFrameTrial slot3 slot3.markerFrame = none
        ∧ s.tracker = .held session3 ∧ session3.template = 3 ∧ (fullFrameTrial slot5 burst5).isSome) := by
  refine ⟨⟨⟨rfl, rfl⟩, rfl, by decide⟩, ⟨rfl, rfl⟩, rfl, rfl, rfl, ?_⟩; decide +kernel

/-- 08 R142, R148: a marker 20% longer than slot 3's matches while the tracker is HELD on slot 3 alone, and a
marker with an interval more does not match. -/
theorem test_marker_trial :
    let longer : List Interval := [⟨.mark, 10800⟩, ⟨.space, 2700⟩, ⟨.mark, 672⟩]
    let s := matching longer (.held session3) none
    tryCandidate s longer 3 = some (.marker 3)
      ∧ tryCandidate { s with tracker := .quiet } longer 3 = none
      ∧ tryCandidate s (longer ++ [⟨.space, 560⟩]) 3 = none := by decide +kernel

theorem witness_TrackerAndLearnBuffer :
    (let s := { ready with tracker := .held session3 }
     s.tracker = .held session3 ∧ session3.deadline ≤ s.now + 217980 ∧ s.matcher = none
      ∧ (matching burst5 (.held session3) none).matcher = some ⟨.a, [3, 5], none⟩)
      ∧ { ready with learn := .armed 9 }.learn = .armed 9
      ∧ ready.Misses 1 ⟨0x30#8, 7#8, [30#8]⟩ ∧ ready.Misses 1 ⟨0x31#8, 7#8, []⟩
      ∧ ready.Misses 1 ⟨0x32#8, 7#8, [190#8]⟩ := by
  refine ⟨?_, rfl, rfl, rfl, rfl⟩; decide +kernel

theorem witness_PingIsAnsweredInEveryState :
    writing.Ready ∧ writing.Misses 1 ⟨0x01#8, 7#8, List.replicate 16 0#8⟩
      ∧ writing.Misses 1 ⟨0x01#8, 7#8, List.replicate 17 0#8⟩ := ⟨ready_ready.2.2.2.1, rfl, rfl⟩

theorem witness_BadRequestsReachNoBlock :
    ready.Ready ∧ (List.replicate 60 0#8).length ≤ 60 ∧ 0x3F#8 ∉ kindsInUse
      ∧ ready.Misses 1 ⟨0x3F#8, 7#8, List.replicate 60 0#8⟩
      ∧ RequestKind.ping.lengthOk (List.replicate 17 0#8) = false := by
  refine ⟨ready_ready.1, ?_, ?_, rfl, ?_⟩ <;> decide

theorem witness_SetActsAtOnce :
    ready.Misses 1 ⟨0x03#8, 7#8, 0x01#8 :: u32 120⟩ ∧ ready.Misses 1 ⟨0x04#8, 7#8, [0x01#8]⟩
      ∧ SettingId.ofByte 0x01#8 = some .holdLimit ∧ SettingId.ofByte 0x00#8 = none
      ∧ SettingId.holdLimit.inRange 120 = true ∧ SettingId.holdLimit.inRange 121 = false
      ∧ ready.settings.get .holdLimit ≠ 120 := by
  refine ⟨rfl, rfl, ?_⟩; decide +kernel

theorem witness_StatusRequestsChangeNothing :
    writing.Ready ∧ writing.Misses 1 ⟨0x0A#8, 7#8, []⟩ ∧ writing.Misses 1 ⟨0x16#8, 7#8, []⟩
      ∧ writing.Misses 1 ⟨0x26#8, 7#8, []⟩ ∧ writing.Misses 1 ⟨0x2A#8, 7#8, []⟩
      ∧ writing.Misses 1 ⟨0x33#8, 7#8, []⟩ ∧ writing.lib.draft = none
      ∧ (drafting.lib.draft = some draft3 ∧ draft3.expiry = .running 30000000) :=
  ⟨ready_ready.2.2.2.1, rfl, rfl, rfl, rfl, rfl, rfl, rfl, rfl⟩

/-- 11 section 11.5: the draft bytes of TPL_STATUS, with 30 s to the expiry, and byte 0 of key 1. -/
theorem test_status_bytes :
    drafting.tplStatus.drop 48 = [1#8, 3#8, 0#8, 1#8, 0#8, 30#8]
      ∧ putMask [.receive, .symbol 3, .receive] = 0x420
      ∧ ((keyAt .down (some 9) (some spec3)).keyStatus.drop 4).head? = some 0x7#8 := by decide +kernel

theorem witness_FramesAreJudgedInOrder :
    State.reset.Running ∧ (List.replicate 60 0#8).length ≤ 60 ∧ ready.link.intake = []
      ∧ ready.Misses 1 ⟨0x3F#8, 7#8, List.replicate 60 0#8⟩
      ∧ crc [0x00#8, 0x01#8, 0x10#8] = 0x4E#8 :=
  ⟨⟨rfl, rfl⟩, by decide +kernel, rfl, rfl, by decide +kernel⟩

/-- The part with a frame being assembled. -/
def assembling (h : HuntState) : State :=
  { ready with link := { ready.link with receiver := h, interByte := .running 10001, listenFrom := 1000 } }

theorem witness_CharactersDriveTheReceiver :
    (assembling .length).Running ∧ (assembling .length).now + 1085 < 1000 + 86
      ∧ 1000 + 86 ≤ (assembling .length).now + 1086
      ∧ 10001 ≤ (assembling .length).now + 10087 - 86 ∧ (assembling .length).now + 10086 - 86 < 10001
      ∧ (assembling (.tag 0 1#8)).link.receiver = .tag 0 1#8 :=
  ⟨⟨rfl, rfl⟩, by decide +kernel, by decide +kernel, by decide +kernel, by decide +kernel, rfl⟩

theorem witness_CharactersMakeAFrame :
    ready.Running ∧ ready.link.receiver = .hunt ∧ ready.link.listenFrom ≤ ready.now
      ∧ (List.replicate 65 (10086, 86)).length = (List.replicate 60 0#8).length + 5
      ∧ (∀ p ∈ List.replicate 65 (10086, 86), p.2 ≤ p.1 ∧ p.1 - p.2 ≤ 10000) :=
  ⟨⟨rfl, rfl⟩, rfl, Nat.le_refl _, by decide +kernel, by decide +kernel⟩

theorem witness_ReplyCacheAnswersAgain :
    let e : CacheEntry := ⟨⟨0x3F#8, 7#8, []⟩, .status .unknownKind, .running 2000000⟩
    let s := { ready with link := { ready.link with cache := some e } }
    s.Running ∧ s.link.cache = some e ∧ s.link.intake = [] ∧ s.link.handler = .idle
      ∧ s.link.replies.length < 2 ∧ e.request.kind.toNat < 64 ∧ e.closing = .running 2000000
      ∧ s.now + 2000000 ≤ 2000000 :=
  ⟨⟨rfl, rfl⟩, rfl, rfl, rfl, by decide, by decide, rfl, Nat.le_refl _⟩

theorem witness_FramesLeaveInOrder :
    (let r : Reply := ⟨0x81#8, 7#8, .pong [], false, true⟩
     let q : Request := ⟨0x01#8, 8#8, []⟩
     let s := { ready with
       link :=
         { ready.link with replies := [r, r], sending := some .reply, intake := [q, q, q] } }
     s.Running ∧ s.link.sending = some .reply ∧ s.link.replies = [r, r] ∧ r.body ≠ .restarting
      ∧ s.link.intake.length ≤ 3 ∧ s.link.receiver = .hunt ∧ s.link.interByte = .stopped
      ∧ ∀ p ∈ s.link.intake, p.kind.toNat < 64 ∧ p.payload.length ≤ 60)
      ∧ State.reset.link.sending = some (.notice 0#8 false)
      ∧ State.reset.link.notices = [.start .power .blank] ∧ State.reset.link.intake = []
      ∧ State.reset.heldInReset = false :=
  ⟨⟨⟨rfl, rfl⟩, rfl, rfl, by decide, by decide, rfl, rfl, by decide⟩, rfl, rfl, rfl, rfl⟩

theorem witness_CheckByteFindsAChangedByte :
    State.reset.link.frame.isSome = true ∧ State.reset.heldInReset = false
      ∧ ready.link.sending = none ∧ (0x10#8 : Byte) ≠ 0x11#8 := by decide +kernel

theorem saved_banks : saved.BanksSound ∧ writing.BanksSound :=
  ⟨⟨by decide +kernel, by decide +kernel, by decide +kernel, by decide +kernel, by decide +kernel, trivial⟩,
    by decide +kernel, by decide +kernel, by decide +kernel, by decide +kernel, by decide +kernel, rfl, rfl,
    by decide +kernel⟩

theorem witness_SaveAndWipe :
    saved.BanksSound ∧ saved.Ready ∧ saved.Misses 1 ⟨0x08#8, 7#8, []⟩
      ∧ saved.Misses 1 ⟨0x09#8, 7#8, []⟩ ∧ saved.store.op = .idle
      ∧ (writing.BanksSound ∧ writing.Running ∧ writing.store.op = .writing .b 8 64000 image3
        ∧ 64000 ≤ writing.now + 64000)
      ∧ (let s := { saved with store := ⟨.invalid, .invalid, .wiping .b 30000 true⟩ }
         s.BanksSound ∧ s.store.op = .wiping .b 30000 true) := by
  refine ⟨saved_banks.1, ready_ready.2.2.1, rfl, rfl, rfl, ⟨saved_banks.2, ⟨rfl, rfl⟩, rfl, ?_⟩, ?_, rfl⟩
  · decide +kernel
  · exact ⟨by decide +kernel, by decide +kernel, by decide +kernel, by decide +kernel, by decide +kernel,
      rfl, fun _ => rfl⟩

theorem witness_SupplyIsWatched :
    { ready with supply := ⟨1799, false⟩ }.heldInReset = true ∧ 1799 < 1800
      ∧ (dozing.heldInReset = false ∧ dozing.doze.state ≠ .awake)
      ∧ ready.doze.state = .awake ∧ ready.supply.low = false
      ∧ { ready with supply := ⟨2350, true⟩ }.supply.low = true := by decide +kernel

theorem witness_SavedImageComesBack :
    saved.Ready ∧ saved.BanksSound ∧ saved.Misses 1 ⟨0x08#8, 7#8, []⟩ ∧ saved.supply.low = false
      ∧ saved.store.op = .idle ∧ saved.store.bankA.generation < 4294967295
      ∧ saved.store.bankB.generation < 4294967295 := by
  refine ⟨ready_ready.2.2.1, saved_banks.1, rfl, rfl, rfl, ?_⟩; decide +kernel

theorem witness_DozeDelayFollowsQuiet :
    ∃ t, WellFormed (.ping 1 7#8 []) = true ∧ ready.Running ∧ exec (.ping 1 7#8 []) ready = .next t
      ∧ t.Running := by
  have h : goes (.ping 1 7#8 []) ready (fun t => !t.heldInReset && t.isAwake) = true := by
    decide +kernel
  unfold goes at h
  split at h
  · rename_i t ht
    exact ⟨t, rfl, ⟨rfl, rfl⟩, ht, by simpa [State.isAwake, State.Running] using h⟩
  · cases h
  · cases h

theorem witness_DozeEntryAndWake :
    (let s := { ready with
        settings := { ready.settings with doze := true }, doze := ⟨.awake, .running 100000⟩ }
     s.heldInReset = false ∧ s.doze.delay = .running 100000 ∧ 100000 ≤ s.now + 100000
      ∧ s.settings.doze = true ∧ s.isQuiet = true)
      ∧ (dozing.heldInReset = false ∧ dozing.doze.state = .dozing ∧ dozing.rx.lineHigh ≠ false)
      ∧ (let s := { dozing with doze := ⟨.waking true, .stopped⟩ }
         s.doze.state = .waking true ∧ s.supply.low = false
          ∧ s.settings.supplyThreshold * 100 ≤ s.supply.vdd)
      ∧ (let s := { dozing with doze := ⟨.waking false, .stopped⟩, supply := ⟨2399, false⟩ }
         s.supply.low = false ∧ s.supply.vdd < s.settings.supplyThreshold * 100
          ∧ s.store.op = .idle)
      ∧ (let s := { dozing with doze := ⟨.waking false, .stopped⟩, supply := ⟨2501, true⟩ }
         s.heldInReset = false ∧ s.supply.low = true
          ∧ s.settings.supplyThreshold * 100 + 100 < s.supply.vdd) := by decide +kernel

/-- A step to witness the invariants on: a PING waits at the front of the queue. -/
def stepping (s : State) : State := { s with pending := [.ping 1 7#8 []] }

theorem steps (s : State) : ∃ t, step (stepping s) = .next t := ⟨_, rfl⟩

theorem witness_StepKeepsTheRoom :
    (∃ t, step (stepping (stoppedWith (List.replicate 8 (waitingJob 1 spec3)))) = .next t)
      ∧ (stepping (stoppedWith (List.replicate 8 (waitingJob 1 spec3)))).QueuesFit := by
  refine ⟨steps _, ?_⟩; unfold State.QueuesFit; decide +kernel

theorem witness_StepKeepsTheOrder :
    let s := stepping (spacingWith (some { current3 with spec := { spec3 with cls := .urgent } })
      [waitingJob 2 { spec3 with cls := .urgent }, { waitingJob 3 spec5 with state := .parked },
       waitingJob 4 spec3])
    (∃ t, step s = .next t) ∧ s.QueueOrdered := by
  refine ⟨steps _, ?_⟩; unfold State.QueueOrdered; decide +kernel

/-- Key 1's job is current on slot 3, and its binding names slot 3 too. -/
def playing : State :=
  { emittingWith { current3 with source := .key 1 } 0 with
    keys := stocked.keys.set 1 ⟨.down, .stopped, some 1, some spec3⟩
    lib := { stocked.lib with slots := stocked.lib.slots.set 3 ⟨.ready slot3, 2, false⟩ }
    store := saved.store }

theorem witness_StepKeepsTheBooks : (∃ t, step (stepping playing) = .next t) ∧ (stepping playing).JobsSound := by
  refine ⟨steps _, ?_, ?_, ?_, ?_, ?_, ?_, ?_⟩
  · unfold State.EngineCoherent; decide +kernel
  · unfold State.JobsPlaced; decide +kernel
  · decide +kernel
  · unfold State.IdsDistinct; decide +kernel
  · unfold State.CountsExact; decide +kernel
  · intro k
    refine ⟨?_, ?_⟩
    · have h : ∀ k : Fin 8, ∀ id ∈ (stepping playing).keys[k].live,
          ∃ j ∈ (stepping playing).liveJobs, j.id = id ∧ j.source = .key k := by decide +kernel
      exact fun id hid => h k id hid
    · revert k; decide +kernel
  · have h : image3.Closed := by unfold Image.Closed; decide +kernel
    refine ⟨?_, ?_, trivial⟩ <;> intro img hi <;> cases hi <;> exact h

theorem witness_StepKeepsReception :
    let s := stepping (matching burst5 (.held session3) none)
    (∃ t, step s = .next t) ∧ s.ReceptionSound := by
  refine ⟨steps _, ?_, ?_, ?_, ?_, ?_⟩
  · unfold State.EngineCoherent; decide +kernel
  · have h : ∀ t : Fin 16, stocked.lib.slots[t].state.isBound = false := by decide +kernel
    exact h
  · unfold State.DozeSound; decide +kernel
  · unfold State.ReceiverSound; decide +kernel
  · have h : [(3 : Fin 16), 5] = stocked.lib.listening := by decide +kernel
    refine ⟨⟨rfl, fun t ht => ?_⟩, ?_⟩
    · exact h ▸ ht
    · exact h ▸ List.mem_cons_self

theorem witness_StepKeepsTheImages :
    (∃ t, step (stepping writing) = .next t) ∧ (stepping writing).BanksSound
      ∧ (stepping writing).AllInRange ∧ (stepping writing).AllCommitted := by
  refine ⟨steps _, ?_, ?_, ?_⟩
  · exact saved_banks.2
  · have h : Settings.defaults.InRange := by unfold Settings.InRange; intro i; cases i <;> decide +kernel
    refine ⟨h, ?_, ?_, h⟩
    · intro img hi; cases hi; exact h
    · intro img hi; cases hi
  · have shown : ∀ n : Fin 16, ∀ d ∈ image3.slots[n], d = slot3 := by decide +kernel
    have kept : ∀ n : Fin 16, ∀ d ∈ writing.lib.slots[n].state.definition, d = slot3 ∨ d = slot5 := by
      decide +kernel
    have h : image3.Committed := fun n d hd => shown n d hd ▸ test_slot3_commits
    refine ⟨?_, ?_, ?_, h⟩
    · intro n d hd
      rcases kept n d hd with rfl | rfl
      · exact test_slot3_commits
      · exact test_commit_reasons.2
    · intro img hi; cases hi; exact h
    · intro img hi; cases hi

end Sys2Proof.Tests
end

section
/-! PROOF. The carrier generator (03 section 3.1): the period nearest to the quotient and the active part that
the duty sets. -/

namespace Sys2Proof.Machine

/-! ### The carrier period -/

/-- Rounding to the nearest: twice the period times the frequency misses 2 × 16,000,000 by at most the
frequency, and the halfway case meets the upper bound, so that the longer period is taken. -/
theorem carrierPeriod_nearest {c : Nat} (hc : 0 < c) :
    2 * (carrierPeriod c * (c * 100)) ≤ 32000000 + c * 100 ∧
      32000000 < 2 * (carrierPeriod c * (c * 100)) + c * 100 := by
  have rearrange : carrierPeriod c * (2 * (c * 100)) = 2 * (carrierPeriod c * (c * 100)) :=
    Nat.mul_left_comm ..
  have below : carrierPeriod c * (2 * (c * 100)) ≤ 32000000 + c * 100 := Nat.div_mul_le_self ..
  have above : 32000000 + c * 100 < carrierPeriod c * (2 * (c * 100)) + 2 * (c * 100) :=
    Nat.lt_div_mul_add (by omega)
  omega

/-! The periods that 03 R43 and R44 name: the halfway field, the ends of the range and the example. -/

theorem carrierPeriod_512 : carrierPeriod 512 = 313 := by decide

theorem carrierPeriod_200 : carrierPeriod 200 = 800 := by decide

theorem carrierPeriod_600 : carrierPeriod 600 = 267 := by decide

theorem carrierPeriod_380 : carrierPeriod 380 = 421 := by decide

theorem le_carrierPeriod {c : Nat} (low : 200 ≤ c) (high : c ≤ 600) : 267 ≤ carrierPeriod c :=
  (Nat.le_div_iff_mul_le (by omega)).2 (by omega)

theorem carrierPeriod_le {c : Nat} (low : 200 ≤ c) : carrierPeriod c ≤ 800 :=
  Nat.lt_succ_iff.1 ((Nat.div_lt_iff_lt_mul (by omega)).2 (by omega))

/-- A halfway case makes c × (2 × period - 1) equal to 320,000 = 512 × 625. The second factor is odd, so 512
divides c, and the range of the field holds no other multiple of 512. -/
theorem eq_512_of_halfway {c p : Nat} (low : 200 ≤ c) (high : c ≤ 600)
    (halfway : 2 * (p * (c * 100)) = 32000000 + c * 100) : c = 512 := by
  obtain _ | q := p
  · omega
  have product : c * (2 * q + 1) = 512 * 625 := by linarith
  have odd : Nat.Coprime (2 ^ 9) (2 * q + 1) := (Nat.coprime_two_left.2 ⟨q, rfl⟩).pow_left 9
  have divides : 512 ∣ c := odd.dvd_of_dvd_mul_right ⟨625, product⟩
  omega

theorem carrierPeriod_halfway_iff {c : Nat} (low : 200 ≤ c) (high : c ≤ 600) :
    2 * (carrierPeriod c * (c * 100)) = 32000000 + c * 100 ↔ c = 512 := by
  constructor
  · exact eq_512_of_halfway low high
  · rintro rfl
    rw [carrierPeriod_512]

/-- Settles O18: the period is a quotient rounded to the nearest, and 512 alone lies halfway. -/
theorem carrierPeriodIsNearest : Obligations.CarrierPeriodIsNearest := by
  refine ⟨fun c low high => ?_, carrierPeriod_512, carrierPeriod_200, carrierPeriod_600, fun _ => rfl⟩
  obtain ⟨below, above⟩ := carrierPeriod_nearest (c := c) (by omega)
  exact ⟨below, above, carrierPeriod_halfway_iff low high, le_carrierPeriod low high, carrierPeriod_le low⟩

/-! ### The active part -/

/-- QUARTER gives the shortest active part. -/
theorem Duty.quarter_le_active (d : Duty) (period : Nat) : Duty.quarter.active period ≤ d.active period := by
  cases d with
  | half => exact Nat.div_le_div_left (by decide) (by decide)
  | third => exact Nat.div_le_div_left (by decide) (by decide)
  | quarter => exact Nat.le_refl _

theorem Duty.active_carrierPeriod_ge (d : Duty) {c : Nat} (low : 200 ≤ c) (high : c ≤ 600) :
    66 ≤ d.active (carrierPeriod c) :=
  calc 66 = Duty.quarter.active 267 := by decide
    _ ≤ Duty.quarter.active (carrierPeriod c) := Nat.div_le_div_right (le_carrierPeriod low high)
    _ ≤ d.active (carrierPeriod c) := d.quarter_le_active _

/-- The active part comes first in each period. -/
@[simp] theorem Carrier.isActive_modulated (period active step : Nat) :
    (Carrier.modulated period active).isActive step = true ↔ step % period < active := decide_eq_true_iff

/-- During a mark a line follows the carrier generator. -/
theorem State.lineActive_of_markOn {s : State} {k : Fin 3} {step : Nat} (mark : s.markOn k step = true) :
    s.lineActive k step = s.carrier.isActive (s.stepsPlayed step) := by
  rw [State.lineActive, mark, Bool.true_and]

/-- Settles O19: QUARTER of the shortest period is 66 steps, and during a mark the line follows the carrier,
whose active part comes first. -/
theorem dutySetsTheActivePart : Obligations.DutySetsTheActivePart := by
  refine ⟨fun _ => ⟨rfl, rfl, rfl⟩, fun _ d low high => d.active_carrierPeriod_ge low high, ?_,
    carrierPeriod_600, by decide, carrierPeriod_380, by decide, by decide, by decide⟩
  intro s k step period active mark setting
  rw [State.lineActive_of_markOn mark, setting, Carrier.isActive_modulated]

end Sys2Proof.Machine
end

section
/-! PROOF. PING (09 R174) in every state in which a request is handled at once. -/

namespace Sys2Proof.Machine

/-! ### A request that the Command Handler judges (09 R167 steps 2 to 4) -/

/-- The kind bytes in use differ from one another, so that each names its own request (11 section 11.3). -/
theorem RequestKind.ofByte_code (k : RequestKind) : RequestKind.ofByte k.code = some k := by
  cases k <;> decide

/-- A payload of an allowed length reaches the block that owns the request (09 R167 step 4). -/
theorem State.carryOut_dispatch {k : RequestKind} {payload : List Byte} (tag : Byte) (s : State)
    (allowed : k.lengthOk payload = true) :
    s.carryOut ⟨k.code, tag, payload⟩ = s.dispatch k payload := by
  simp [State.carryOut, RequestKind.ofByte_code, allowed]

/-- A payload of any other length reaches no block (09 R167 step 3). -/
theorem State.carryOut_badLength {k : RequestKind} {payload : List Byte} (tag : Byte) (s : State)
    (refused : k.lengthOk payload = false) :
    s.carryOut ⟨k.code, tag, payload⟩ = (s, .status .badLength) := by
  simp [State.carryOut, RequestKind.ofByte_code, refused]

/-- Every request in use has a kind byte that the link takes for a request (09 R162). -/
theorem RequestKind.isRequest_code (k : RequestKind) : isRequest k.code = true := by
  cases k <;> decide

/-- A request that is handled at once and leaves every block as it is gets its answer, and nothing but the
link changes (09 R167). -/
theorem State.receive_answered {s : State} {dt : Nat} {k : RequestKind} {tag : Byte} {payload : List Byte}
    {body : ReplyBody} (ready : s.Ready) (notRestart : k.code ≠ RequestKind.restart.code)
    (fits : payload.length ≤ 60) (misses : s.Misses dt ⟨k.code, tag, payload⟩)
    (unchanged : (s.received dt).carryOut ⟨k.code, tag, payload⟩ = (s.received dt, body)) :
    s.event dt (State.whenAwake (State.receiveRequest k.code tag payload)) =
      s.answered dt ⟨k.code, tag, payload⟩ body :=
  (State.receive_ready ready k.isRequest_code fits misses).trans
    (State.answered_of_carryOut notRestart unchanged)

/-! ### PING -/

/-- PING is received as the request of its kind. -/
theorem exec_ping (dt : Nat) (tag : Byte) (data : List Byte) (s : State) :
    exec (.ping dt tag data) s =
      .next (s.event dt (State.whenAwake (State.receiveRequest RequestKind.ping.code tag data))) := rfl

/-- PING allows 0 to 16 data bytes (11 section 11.3). -/
theorem RequestKind.ping_lengthOk_iff (data : List Byte) :
    RequestKind.ping.lengthOk data = true ↔ data.length ≤ 16 := decide_eq_true_iff

/-- The bytes of a fresh reply to a PING: OK, the part code 0x0318 low byte first, and the data (09 R174). -/
theorem Reply.payload_pong (kind tag : Byte) (data : List Byte) (ofEntry : Bool) :
    Reply.payload ⟨kind, tag, .pong data, false, ofEntry⟩ = 0x00#8 :: 0x18#8 :: 0x03#8 :: data := by
  simp [Reply.payload, ReplyBody.statusOf, ReplyBody.fields, Status.code]

/-- A fresh reply stands last in the reply buffer (09 R172). -/
theorem State.answered_getLast?_replies (s : State) (dt : Nat) (r : Request) (body : ReplyBody) :
    (s.answered dt r body).link.replies.getLast? =
      some ⟨r.kind + 0x80#8, r.tag, body, false, true⟩ := List.getLast?_concat ..

/-- Settles O40: 16 data bytes are the boundary at which the handler passes a PING on, and either way no
block changes. -/
theorem pingIsAnsweredInEveryState : Obligations.PingIsAnsweredInEveryState := by
  intro s dt tag data ready misses
  have answered (body : ReplyBody) (fits : data.length ≤ 60)
      (unchanged : (s.received dt).carryOut ⟨RequestKind.ping.code, tag, data⟩ = (s.received dt, body)) :
      exec (.ping dt tag data) s = .next (s.answered dt ⟨0x01#8, tag, data⟩ body) :=
    (exec_ping dt tag data s).trans
      (congrArg _ (State.receive_answered ready (by decide) fits misses unchanged))
  refine ⟨fun short => ⟨answered (.pong data) (by omega) ?_, ?_⟩,
    fun long fits => answered (.status .badLength) fits ?_⟩
  · exact State.carryOut_dispatch tag _ ((RequestKind.ping_lengthOk_iff data).2 short)
  · rw [State.answered_getLast?_replies, Option.map_some, Reply.payload_pong]
  · have refused : RequestKind.ping.lengthOk data = false := by
      rw [← Bool.not_eq_true, RequestKind.ping_lengthOk_iff]
      omega
    exact State.carryOut_badLength tag _ refused

end Sys2Proof.Machine
end

section
/-! PROOF. The doze delay timer after a command (10 R189). -/

namespace Sys2Proof.Machine

/-! ### The part is busy after a frame that was received whole -/

/-- A part with a frame in its intake queue is not quiet (10 R189). -/
theorem State.notQuiet_of_intake {s : State} (waits : s.link.intake ≠ []) : s.isQuiet = false := by
  simp [State.isQuiet, Link.isQuiet, waits]

/-- A request that the Command Handler takes leaves a reply (09 R167 step 5, R168). -/
theorem State.handle_replies_ne (r : Request) (s : State) : (s.handle r).link.replies ≠ [] := by
  unfold State.handle
  split
  · simp [Link.resend, Link.addReply]
  · exact Link.answer_replies_ne _ _ _

/-- A reply in the buffer stays there while the handler takes a further request. -/
theorem State.takeRequest_replies_ne {s : State} (waits : s.link.replies ≠ []) :
    s.takeRequest.link.replies ≠ [] := by
  unfold State.takeRequest
  split
  · exact waits
  · split
    · exact State.handle_replies_ne _ _
    · exact waits

/-- Whether the handler takes the request at the head of the intake queue or leaves it there, the link holds
something. -/
theorem State.takeRequest_busy {s : State} (waits : s.link.intake ≠ []) :
    s.takeRequest.link.replies ≠ [] ∨ s.takeRequest.link.intake ≠ [] := by
  unfold State.takeRequest
  split
  · contradiction
  · split
    · exact .inl (State.handle_replies_ne _ _)
    · exact .inr waits

/-- A link that holds a reply or a request goes on holding one while the handler takes requests. -/
theorem State.takeRequest_keeps_busy {s : State} (busy : s.link.replies ≠ [] ∨ s.link.intake ≠ []) :
    s.takeRequest.link.replies ≠ [] ∨ s.takeRequest.link.intake ≠ [] :=
  busy.elim (fun h => .inl (State.takeRequest_replies_ne h)) State.takeRequest_busy

theorem State.takeRequests_notQuiet {s : State} (waits : s.link.intake ≠ []) :
    s.takeRequests.isQuiet = false :=
  (State.takeRequest_keeps_busy (State.takeRequest_keeps_busy (State.takeRequest_busy waits))).elim
    State.notQuiet_of_reply State.notQuiet_of_intake

/-- A frame that has been judged leaves a notice, a reply or a request (09 R166). -/
theorem State.judge_notQuiet (kind tag : Byte) (payload : List Byte) (check : Byte) (s : State) :
    (s.judge kind tag payload check).isQuiet = false := by
  have posted (n : Notice) : (s.post n).isQuiet = false :=
    State.notQuiet_of_notice (Link.post_notices_ne n s.link)
  unfold State.judge
  split
  · exact posted _
  split
  · exact posted _
  split
  · exact posted _
  · exact State.takeRequests_notQuiet (by simp)

theorem State.receiveFrame_notQuiet {kind tag : Byte} {payload : List Byte} {check : Byte} (s : State)
    (fits : payload.length ≤ 60) : (s.receiveFrame kind tag payload check).isQuiet = false := by
  unfold State.receiveFrame
  split
  · next long => exact absurd fits (Nat.not_le.2 long)
  · exact State.judge_notQuiet ..

/-- A reset posts START, so that the part is not quiet after it (09 R177). -/
theorem State.announce_notQuiet (reason : ResetReason) (status : ImageStatus) (s : State) :
    (s.announce reason status).isQuiet = false := by
  refine State.notQuiet_of_notice ?_
  unfold State.announce
  split <;> exact Link.post_notices_ne _ _

/-! ### The timer follows -/

/-- 10 R189: the doze delay timer of `t`, when the command before found it as it stood in `s`. -/
def State.DelayFollows (t s : State) : Prop :=
  t.doze.delay =
    if t.settings.doze = true ∧ t.isQuiet = true then
      (match s.doze.delay with
        | .stopped => .running (t.now + t.settings.dozeDelay * 1000)
        | delay => delay)
    else .stopped

/-- What an event of a running part may do to DOZE: nothing, unless it leaves the part busy or asleep. -/
def State.SparesDelay (u s : State) : Prop :=
  u.doze = s.doze ∨ u.isQuiet = false ∨ u.doze.state ≠ .awake

theorem State.delayFollows_of_notQuiet {t : State} (s : State) (busy : t.isQuiet = false)
    (stopped : t.doze.delay = .stopped) : t.DelayFollows s := by
  simp [State.DelayFollows, busy, stopped]

/-- The timer after a settled event: it follows the part's quiet (10 R189). -/
theorem State.settle_delayFollows {u s : State} (spares : u.SparesDelay s)
    (awake : u.settle.doze.state = .awake) : u.settle.DelayFollows s := by
  have awake : u.doze.state = .awake := awake
  obtain same | busy | asleep := spares
  · have follows : u.settle.doze.delay = u.delayAfter := rfl
    have quiet : u.settle.isQuiet = u.isQuiet := rfl
    rw [State.DelayFollows, follows, State.delayAfter, awake, quiet, ← same]
    cases u.doze.delay <;> rfl
  · exact State.delayFollows_of_notQuiet s busy (by rw [State.settle_busy awake busy])
  · exact absurd awake asleep

/-- An event that spares the timer leaves it following the part's quiet. -/
theorem State.event_delayFollows {s : State} (running : s.Running) {dt : Nat} {act : State → State}
    (spares : ∀ u : State, u.doze = s.doze → (act u).SparesDelay s)
    (awake : (s.event dt act).Running) : (s.event dt act).DelayFollows s := by
  have acts : s.event dt act = (act (s.advance dt)).settle := by
    simp [State.event, State.eventOr, running.1]
  rw [acts] at awake ⊢
  exact State.settle_delayFollows (spares _ rfl) awake.2

theorem State.awakeEvent_delayFollows {s : State} (running : s.Running) {dt : Nat} {act : State → State}
    (spares : ∀ u : State, u.doze = s.doze → (act u).SparesDelay s)
    (awake : (s.event dt (State.whenAwake act)).Running) :
    (s.event dt (State.whenAwake act)).DelayFollows s := by
  refine State.event_delayFollows running (fun u same => ?_) awake
  unfold State.whenAwake
  split
  · exact spares u same
  · exact .inl same

/-! ### The events one by one -/

theorem State.outboundEnds_sparesDelay {s u : State} (strap : Bool) (same : u.doze = s.doze) :
    (u.outboundEnds strap).SparesDelay s := by
  unfold State.outboundEnds
  split
  · split
    · exact .inr (.inl (State.announce_notQuiet ..))
    · exact .inl (by simp [same])
  · exact .inl (by simp [same])
  · exact .inl same

theorem State.delayExpires_sparesDelay {s u : State} (same : u.doze = s.doze) :
    u.delayExpires.SparesDelay s := by
  unfold State.delayExpires
  split
  · exact .inr (.inr (by simp [State.enterDoze]))
  · exact .inl same

theorem State.wake_awake {u : State} (awake : u.doze.state = .awake) (byRxin : Bool) :
    u.wake byRxin = u := by
  simp [State.wake, awake]

theorem State.keyLineChanges_doze_awake {u : State} (awake : u.doze.state = .awake) (k : Fin 8)
    (high : Bool) : (u.keyLineChanges k high).doze = u.doze := by
  have edge : (u.keyEdge k high).doze.state = .awake := by simp [awake]
  unfold State.keyLineChanges
  split
  · rfl
  · split
    · rw [State.wake_awake edge]
      simp
    · simp

theorem State.rxinChanges_doze_awake {u : State} (awake : u.doze.state = .awake) (high : Bool) :
    (u.rxinChanges high).doze = u.doze := by
  unfold State.rxinChanges
  rw [awake]
  split <;> simp

theorem State.supplyMoves_doze (u : State) (vdd : Nat) : (u.supplyMoves vdd).doze = u.doze := by
  rcases u.supplyMoves_cases vdd with e | ⟨-, -, e⟩ <;> rw [e] <;> simp

theorem State.hardReset_delayFollows (u s : State) (reason : ResetReason) (strap : Bool) :
    (u.hardReset reason strap).DelayFollows s :=
  State.delayFollows_of_notQuiet s (State.announce_notQuiet ..)
    (by simp [State.hardReset, State.load, State.blocksReset])

/-- A power-on reset that leaves the part running has announced itself. -/
theorem State.powerOn_delayFollows {u s : State} {vdd : Nat} {strap : Bool}
    (running : (u.powerOn vdd strap).Running) : (u.powerOn vdd strap).DelayFollows s := by
  obtain ⟨held, e⟩ | ⟨-, e⟩ := u.powerOn_cases vdd strap
  · rw [e] at running
    exact absurd (held.symm.trans running.1) (by decide)
  · rw [e]
    exact State.hardReset_delayFollows ..

theorem State.pinReset_delayFollows {u s : State} {release : Option Bool}
    (running : (u.pinReset release).Running) : (u.pinReset release).DelayFollows s := by
  obtain ⟨-, e⟩ | ⟨held, e⟩ | ⟨strap, -, -, e⟩ := u.pinReset_cases release
  · rw [e] at running
    exact absurd running.1 (by simp [State.setReset_heldInReset])
  · rw [e] at running
    exact absurd (held.symm.trans running.1) (by decide)
  · rw [e]
    exact State.hardReset_delayFollows ..

/-- Settles O53: an event that leaves the part awake leaves the timer as it stood or the link busy, and the
timer is judged at its end. -/
theorem dozeDelayFollowsQuiet : Obligations.DozeDelayFollowsQuiet := by
  intro c s t formed running ran after
  have awake {u : State} (same : u.doze = s.doze) : u.doze.state = .awake := same ▸ running.2
  have frame {dt : Nat} {kind tag : Byte} {payload : List Byte} {check : Byte}
      (fits : payload.length ≤ 60)
      (after : (s.event dt (State.whenAwake (State.receiveFrame kind tag payload check))).Running) :
      (s.event dt (State.whenAwake (State.receiveFrame kind tag payload check))).DelayFollows s :=
    State.awakeEvent_delayFollows running
      (fun u _ => .inr (.inl (State.receiveFrame_notQuiet u fits))) after
  have event {dt : Nat} {act : State → State} (same : ∀ u, (act u).doze = u.doze)
      (after : (s.event dt (State.whenAwake act)).Running) :
      (s.event dt (State.whenAwake act)).DelayFollows s :=
    State.awakeEvent_delayFollows running (fun u h => .inl ((same u).trans h)) after
  have eventOr {dt : Nat} {held act : State → State}
      (same : ∀ u : State, u.doze = s.doze → (act u).doze = u.doze)
      (after : (s.eventOr dt held act).Running) : (s.eventOr dt held act).DelayFollows s := by
    simp only [State.eventOr, running.1, Bool.false_eq_true, if_false] at after ⊢
    exact State.settle_delayFollows (.inl (same _ rfl)) after.2
  cases c <;> cases ran
  case powerOnReset => exact State.powerOn_delayFollows after
  case pinReset => exact State.pinReset_delayFollows after
  case interByteTimeout => exact event (by simp) after
  case outboundFrameEnd =>
    exact State.awakeEvent_delayFollows running
      (fun u h => State.outboundEnds_sparesDelay _ h) after
  case replyCacheWindowClose => exact event (by simp) after
  case characterReceived => exact event (by simp) after
  case saveWriteComplete => exact event (by simp) after
  case wipeEraseEnd => exact event (by simp) after
  case draftExpiry => exact event (by simp) after
  case intervalEnd => exact event (by simp) after
  case spacingEnd => exact event (by simp) after
  case holdLimitExpiry => exact event (by simp) after
  case indTailExpiry => exact event (by simp) after
  case keyEdge => exact eventOr (fun u h => State.keyLineChanges_doze_awake (awake h) _ _) after
  case debounceExpiry => exact event (by simp) after
  case rxinChange => exact eventOr (fun u h => State.rxinChanges_doze_awake (awake h) _) after
  case glitchConfirm => exact event (by simp) after
  case burstEndTimer => exact event (by simp) after
  case markLimit => exact event (by simp) after
  case blankTailExpiry => exact event (by simp) after
  case matchingEnd => exact event (by simp) after
  case rxWindowExpiry => exact event (by simp) after
  case learnTimerExpiry => exact event (by simp) after
  case supplyChange => exact eventOr (fun u _ => State.supplyMoves_doze u _) after
  case dozeDelayExpiry =>
    exact State.awakeEvent_delayFollows running (fun u h => State.delayExpires_sparesDelay h) after
  case rxdWakeEdge =>
    exact State.event_delayFollows running
      (fun u h => .inl (by rw [State.wake_awake (awake h), h])) after
  case wakeLatencyEnd =>
    exact State.event_delayFollows running
      (fun u h => .inl (by rw [State.latencyEnds, awake h, h])) after
  case linkFrameReceived => exact frame (of_decide_eq_true formed) after
  case unknownKindRequest =>
    exact frame (of_decide_eq_true (Bool.and_eq_true_iff.1 formed).2) after
  case ping => exact frame (of_decide_eq_true formed) after
  case tplPut => exact frame (Nat.succ_le_succ (of_decide_eq_true formed)) after
  case send => exact frame (Nat.add_le_add_right (of_decide_eq_true formed) 6) after
  case bind => exact frame (Nat.add_le_add_right (of_decide_eq_true formed) 7) after
  all_goals exact frame (Nat.le_of_ble_eq_true rfl) after

end Sys2Proof.Machine
end

section
/-! PROOF. The queues of the link (09 R166, R167, R170): the blocks do nothing to the link but post notices, and
the Link Port and the Command Handler keep to the room of each queue. -/

namespace Sys2Proof.Machine

/-! ### What the blocks do to the link -/

/-- The link after some notices have been posted (09 R170). -/
inductive Link.Posted (l : Link) : Link → Prop
  | refl : Link.Posted l l
  | post {l' : Link} (n : Notice) : Link.Posted l l' → Link.Posted l (l'.post n)

theorem Link.Posted.keeps {P : Link → Prop} (closed : ∀ n l, P l → P (l.post n)) {l l' : Link}
    (posted : l.Posted l') (h : P l) : P l' := by
  induction posted with
  | refl => exact h
  | post n _ ih => exact closed n _ ih

section
variable {l : Link}

@[simp] theorem Link.Posted.post_link {l' : Link} (n : Notice) (h : l.Posted l') : l.Posted (l'.post n) := .post n h

@[simp] theorem Link.Posted.postJobEnd_link (j : Job) (reason : EndReason) {l' : Link} (h : l.Posted l') :
    l.Posted (l'.postJobEnd j reason) := by
  unfold Link.postJobEnd
  split <;> simp [h]

@[simp] theorem State.divert_posted (n : SlotName) {s : State} (h : l.Posted s.link) :
    l.Posted (s.divert n).link := by
  unfold State.divert
  simp [h]

@[simp] theorem State.matcherTakeOne_posted {s : State} (h : l.Posted s.link) :
    l.Posted s.matcherTakeOne.link := by
  unfold State.matcherTakeOne
  (repeat' split) <;> simp [h]

@[simp] theorem State.matcherTake_posted {s : State} (h : l.Posted s.link) :
    l.Posted s.matcherTake.link := by
  unfold State.matcherTake
  simp [h]

@[simp] theorem State.beginSession_posted (t : Fin 16) (payload : List Byte) (burstEnd : Nat)
    {s : State} (h : l.Posted s.link) :
    l.Posted (s.beginSession t payload burstEnd).link := by
  unfold State.beginSession
  simp [h]

@[simp] theorem State.countRepeat_posted (code : Tracked) (kind : FrameKind) (burstEnd : Nat)
    {s : State} (h : l.Posted s.link) :
    l.Posted (s.countRepeat code kind burstEnd).link := by
  unfold State.countRepeat
  (repeat' split) <;> simp [h]

@[simp] theorem State.endSession_posted (code : Tracked) (reason : RxEndReason)
    {s : State} (h : l.Posted s.link) :
    l.Posted (s.endSession code reason).link := by
  unfold State.endSession
  simp [h]

@[simp] theorem State.trackFull_posted (t : Fin 16) (payload : List Byte) (burstEnd : Nat)
    {s : State} (h : l.Posted s.link) :
    l.Posted (s.trackFull t payload burstEnd).link := by
  unfold State.trackFull
  (repeat' split) <;> simp [h]

@[simp] theorem State.reportUnknown_posted (burst : List Interval) {s : State} (h : l.Posted s.link) :
    l.Posted (s.reportUnknown burst).link := by
  unfold State.reportUnknown
  (repeat' split) <;> simp [h]

@[simp] theorem State.trackMarker_posted (t : Fin 16) (burst : List Interval) (burstEnd : Nat)
    {s : State} (h : l.Posted s.link) :
    l.Posted (s.trackMarker t burst burstEnd).link := by
  unfold State.trackMarker
  (repeat' split) <;> simp [h]

@[simp] theorem State.applyMatch_posted (burst : List Interval) (burstEnd : Nat) (r : Option MatchResult)
    {s : State} (h : l.Posted s.link) :
    l.Posted (s.applyMatch burst burstEnd r).link := by
  unfold State.applyMatch
  (repeat' split) <;> simp [h]

@[simp] theorem State.deliver_posted (m : Matching) {s : State} (h : l.Posted s.link) :
    l.Posted (s.deliver m).link := by
  unfold State.deliver
  simp [h]

@[simp] theorem State.matchingEnds_posted {s : State} (h : l.Posted s.link) :
    l.Posted s.matchingEnds.link := by
  unfold State.matchingEnds
  (repeat' split) <;> simp [h]

@[simp] theorem State.matcherReached_posted {s : State} (h : l.Posted s.link) :
    l.Posted s.matcherReached.link := by
  unfold State.matcherReached
  (repeat' split) <;> simp [h]

@[simp] theorem State.windowExpires_posted {s : State} (h : l.Posted s.link) :
    l.Posted s.windowExpires.link := by
  unfold State.windowExpires
  (repeat' split) <;> simp [h]

@[simp] theorem State.endSessionOn_posted (t : Fin 16) {s : State} (h : l.Posted s.link) :
    l.Posted (s.endSessionOn t).link := by
  unfold State.endSessionOn
  (repeat' split) <;> simp [h]

@[simp] theorem State.slotLeavesReady_posted (t : Fin 16) {s : State} (h : l.Posted s.link) :
    l.Posted (s.slotLeavesReady t).link := by
  unfold State.slotLeavesReady
  simp [h]

@[simp] theorem State.learnExpires_posted {s : State} (h : l.Posted s.link) :
    l.Posted s.learnExpires.link := by
  unfold State.learnExpires
  (repeat' split) <;> simp [h]

/-! Receiver -/

@[simp] theorem State.dropBurst_posted (reason : DropReason) {s : State} (h : l.Posted s.link) :
    l.Posted (s.dropBurst reason).link := by
  unfold State.dropBurst
  simp [h]

@[simp] theorem State.startBurst_posted (edge : Nat) {s : State} (h : l.Posted s.link) :
    l.Posted (s.startBurst edge).link := by
  unfold State.startBurst
  (repeat' split) <;> simp [h]

@[simp] theorem State.afterStore_posted (k : IKind) (edge : Nat) {s : State} (h : l.Posted s.link) :
    l.Posted (s.afterStore k edge).link := by
  unfold State.afterStore
  (repeat' split) <;> simp [h]

@[simp] theorem State.edgeInBurst_posted (k : IKind) (edge : Nat) {s : State} (h : l.Posted s.link) :
    l.Posted (s.edgeInBurst k edge).link := by
  unfold State.edgeInBurst
  simp [h]

@[simp] theorem State.receiverEdge_posted (k : IKind) (edge : Nat) {s : State} (h : l.Posted s.link) :
    l.Posted (s.receiverEdge k edge).link := by
  unfold State.receiverEdge
  (repeat' split) <;> simp [h]

@[simp] theorem State.filteredEdge_posted (k : IKind) (edge : Nat) {s : State} (h : l.Posted s.link) :
    l.Posted (s.filteredEdge k edge).link := by
  unfold State.filteredEdge
  simp [h]

@[simp] theorem State.confirmGlitch_posted {s : State} (h : l.Posted s.link) :
    l.Posted s.confirmGlitch.link := by
  unfold State.confirmGlitch
  (repeat' split) <;> simp [h]

@[simp] theorem State.filterLine_posted {s : State} (h : l.Posted s.link) :
    l.Posted s.filterLine.link := by
  unfold State.filterLine
  (repeat' split) <;> simp [h]

@[simp] theorem State.lineChanges_posted (high : Bool) {s : State} (h : l.Posted s.link) :
    l.Posted (s.lineChanges high).link := by
  unfold State.lineChanges
  simp [h]

@[simp] theorem State.burstEnds_posted {s : State} (h : l.Posted s.link) :
    l.Posted s.burstEnds.link := by
  unfold State.burstEnds
  (repeat' split) <;> simp [h]

@[simp] theorem State.markTooLong_posted {s : State} (h : l.Posted s.link) :
    l.Posted s.markTooLong.link := by
  unfold State.markTooLong
  (repeat' split) <;> simp [h]

/-! Engine -/

@[simp] theorem State.jobLeaves_posted (j : Job) (reason : EndReason) {s : State} (h : l.Posted s.link) :
    l.Posted (s.jobLeaves j reason).link := by
  unfold State.jobLeaves
  simp [h]

@[simp] theorem State.postJobStart_posted (j : Job) {s : State} (h : l.Posted s.link) :
    l.Posted (s.postJobStart j).link := by
  unfold State.postJobStart
  (repeat' split) <;> simp [h]

@[simp] theorem State.flipToggle_posted (j : Job) {s : State} (h : l.Posted s.link) :
    l.Posted (s.flipToggle j).1.link := by
  unfold State.flipToggle
  (repeat' split) <;> simp [h]

@[simp] theorem State.startFirst_posted (j : Job) {s : State} (h : l.Posted s.link) :
    l.Posted (s.startFirst j).link := by
  unfold State.startFirst
  simp [h]

@[simp] theorem State.beginJob_posted (j : Job) {s : State} (h : l.Posted s.link) :
    l.Posted (s.beginJob j).link := by
  unfold State.beginJob
  simp [h]

@[simp] theorem State.takeJob_posted (j : Job) {s : State} (h : l.Posted s.link) :
    l.Posted (s.takeJob j).link := by
  unfold State.takeJob
  (repeat' split) <;> simp [h]

@[simp] theorem State.takeHead_posted {s : State} (h : l.Posted s.link) :
    l.Posted s.takeHead.link := by
  unfold State.takeHead
  (repeat' split) <;> simp [h]

@[simp] theorem State.takeOrIdle_posted {s : State} (h : l.Posted s.link) :
    l.Posted s.takeOrIdle.link := by
  unfold State.takeOrIdle
  (repeat' split) <;> simp [h]

@[simp] theorem State.admitted_posted {s : State} (h : l.Posted s.link) :
    l.Posted s.admitted.link := by
  unfold State.admitted
  (repeat' split) <;> simp [h]

@[simp] theorem State.endCurrent_posted (j : Job) (reason : EndReason)
    {s : State} (h : l.Posted s.link) :
    l.Posted (s.endCurrent j reason).link := by
  unfold State.endCurrent
  simp [h]

@[simp] theorem State.decideAtFrame_posted (j : Job) {s : State} (h : l.Posted s.link) :
    l.Posted (s.decideAtFrame j).link := by
  unfold State.decideAtFrame
  (repeat' split) <;> simp [h]

@[simp] theorem State.frameEnds_posted (j : Job) (p : Position) {s : State} (h : l.Posted s.link) :
    l.Posted (s.frameEnds j p).link := by
  unfold State.frameEnds
  simp [h]

@[simp] theorem State.intervalEnds_posted {s : State} (h : l.Posted s.link) :
    l.Posted s.intervalEnds.link := by
  unfold State.intervalEnds
  (repeat' split) <;> simp [h]

@[simp] theorem State.park_posted (j u : Job) (rest : List Job) {s : State} (h : l.Posted s.link) :
    l.Posted (s.park j u rest).link := by
  unfold State.park
  simp [h]

@[simp] theorem State.parkOrGoOn_posted (j : Job) {s : State} (h : l.Posted s.link) :
    l.Posted (s.parkOrGoOn j).link := by
  unfold State.parkOrGoOn
  (repeat' split) <;> simp [h]

@[simp] theorem State.afterSpacingEnd_posted {s : State} (h : l.Posted s.link) :
    l.Posted s.afterSpacingEnd.link := by
  unfold State.afterSpacingEnd
  (repeat' split) <;> simp [h]

@[simp] theorem State.spacingEnds_posted {s : State} (h : l.Posted s.link) :
    l.Posted s.spacingEnds.link := by
  unfold State.spacingEnds
  (repeat' split) <;> simp [h]

@[simp] theorem State.cutCurrent_posted {s : State} (h : l.Posted s.link) :
    l.Posted s.cutCurrent.link := by
  unfold State.cutCurrent
  (repeat' split) <;> simp [h]

@[simp] theorem State.stopEngine_posted {s : State} (h : l.Posted s.link) :
    l.Posted s.stopEngine.link := by
  unfold State.stopEngine
  (repeat' split) <;> simp [h]

@[simp] theorem State.resumeEngine_posted {s : State} (h : l.Posted s.link) :
    l.Posted s.resumeEngine.link := by
  unfold State.resumeEngine
  (repeat' split) <;> simp [h]

/-! Jobs -/

@[simp] theorem State.send_posted (spec : JobSpec) {s : State} (h : l.Posted s.link) :
    l.Posted (s.send spec).1.link := by
  unfold State.send
  (repeat' split) <;> simp [h]

@[simp] theorem State.removeJob_posted (j : Job) (reason : EndReason) {s : State} (h : l.Posted s.link) :
    l.Posted (s.removeJob j reason).link := by
  unfold State.removeJob
  simp [h]

@[simp] theorem State.endSoon_posted (j : Job) (reason : PendingEnd) {s : State} (h : l.Posted s.link) :
    l.Posted (s.endSoon j reason).1.link := by
  unfold State.endSoon
  (repeat' split) <;> simp [h]

@[simp] theorem State.release_posted (id : Nat) {s : State} (h : l.Posted s.link) :
    l.Posted (s.release id).1.link := by
  unfold State.release
  (repeat' split) <;> simp [h]

@[simp] theorem State.cancel_posted (id : Nat) {s : State} (h : l.Posted s.link) :
    l.Posted (s.cancel id).1.link := by
  unfold State.cancel
  (repeat' split) <;> simp [h]

@[simp] theorem State.keyRelease_posted (k : Fin 8) (id : Nat) {s : State} (h : l.Posted s.link) :
    l.Posted (s.keyRelease k id).link := by
  unfold State.keyRelease
  (repeat' split) <;> simp [h]

@[simp] theorem State.holdExpires_posted (id : Nat) {s : State} (h : l.Posted s.link) :
    l.Posted (s.holdExpires id).link := by
  unfold State.holdExpires
  (repeat' split) <;> simp [h]

theorem flushJobs_posted (jobs : List Job) {s : State} (h : l.Posted s.link) :
    l.Posted (flushJobs jobs s).link := by
  induction jobs generalizing s with
  | nil => exact h
  | cons j rest ih => exact ih (by simp [h])

@[simp] theorem State.flush_posted {s : State} (h : l.Posted s.link) :
    l.Posted s.flush.1.link := by
  exact flushJobs_posted _ h

@[simp] theorem State.reportKey_posted (k : Fin 8) (down : Bool) {s : State} (h : l.Posted s.link) :
    l.Posted (s.reportKey k down).link := by
  unfold State.reportKey
  (repeat' split) <;> simp [h]

@[simp] theorem State.submitPress_posted (k : Fin 8) {s : State} (h : l.Posted s.link) :
    l.Posted (s.submitPress k).link := by
  unfold State.submitPress
  (repeat' split) <;> simp [h]

@[simp] theorem State.keyPress_posted (k : Fin 8) {s : State} (h : l.Posted s.link) :
    l.Posted (s.keyPress k).link := by
  unfold State.keyPress
  simp [h]

@[simp] theorem State.handRelease_posted (k : Fin 8) {s : State} (h : l.Posted s.link) :
    l.Posted (s.handRelease k).link := by
  unfold State.handRelease
  (repeat' split) <;> simp [h]

@[simp] theorem State.keyReleased_posted (k : Fin 8) {s : State} (h : l.Posted s.link) :
    l.Posted (s.keyReleased k).link := by
  unfold State.keyReleased
  simp [h]

@[simp] theorem State.debounceExpires_posted (k : Fin 8) {s : State} (h : l.Posted s.link) :
    l.Posted (s.debounceExpires k).link := by
  unfold State.debounceExpires
  (repeat' split) <;> simp [h]

/-! Library, store and supply -/

@[simp] theorem State.draftExpires_posted {s : State} (h : l.Posted s.link) :
    l.Posted s.draftExpires.link := by
  unfold State.draftExpires
  (repeat' split) <;> simp [h]

@[simp] theorem State.tplOpen_posted (t : Fin 16) (mode : DraftMode) {s : State} (h : l.Posted s.link) :
    l.Posted (s.tplOpen t mode).1.link := by
  unfold State.tplOpen
  (repeat' split) <;> simp [h]

@[simp] theorem State.tplErase_posted (t : Fin 16) {s : State} (h : l.Posted s.link) :
    l.Posted (s.tplErase t).1.link := by
  unfold State.tplErase
  (repeat' split) <;> simp [h]

@[simp] theorem State.writeCompletes_posted {s : State} (h : l.Posted s.link) :
    l.Posted s.writeCompletes.link := by
  unfold State.writeCompletes
  (repeat' split) <;> simp [h]

@[simp] theorem State.eraseEnds_posted {s : State} (h : l.Posted s.link) :
    l.Posted s.eraseEnds.link := by
  unfold State.eraseEnds
  (repeat' split) <;> simp [h]

@[simp] theorem State.abandonSave_posted {s : State} (h : l.Posted s.link) :
    l.Posted s.abandonSave.link := by
  unfold State.abandonSave
  (repeat' split) <;> simp [h]

@[simp] theorem State.supplyBecomes_posted (low : Bool) {s : State} (h : l.Posted s.link) :
    l.Posted (s.supplyBecomes low).link := by
  unfold State.supplyBecomes
  simp [h]

@[simp] theorem State.compareSupply_posted {s : State} (h : l.Posted s.link) :
    l.Posted s.compareSupply.link := by
  unfold State.compareSupply
  (repeat' split) <;> simp [h]

@[simp] theorem State.settingActs_posted (i : SettingId) (old : BitVec 8)
    {s : State} (h : l.Posted s.link) :
    l.Posted (s.settingActs i old).link := by
  unfold State.settingActs
  (repeat' split) <;> simp [h]

@[simp] theorem State.putSetting_posted (i : SettingId) (v : Nat) {s : State} (h : l.Posted s.link) :
    l.Posted (s.putSetting i v).link := by
  unfold State.putSetting
  (repeat' split) <;> simp [h]

@[simp] theorem State.setSetting_posted (id : Byte) (v : Nat) {s : State} (h : l.Posted s.link) :
    l.Posted (s.setSetting id v).1.link := by
  unfold State.setSetting
  (repeat' split) <;> simp [h]


/-! The requests -/

@[simp] theorem State.badValue_posted {s : State} (h : l.Posted s.link) : l.Posted s.badValue.1.link := h

theorem State.handleSet_posted (payload : List Byte) {s : State} (h : l.Posted s.link) :
    l.Posted (s.handleSet payload).1.link := by
  unfold State.handleSet
  split <;> simp [h]

theorem State.handleOpen_posted (payload : List Byte) {s : State} (h : l.Posted s.link) :
    l.Posted (s.handleOpen payload).1.link := by
  unfold State.handleOpen
  (repeat' split) <;> simp [h]

theorem State.handleErase_posted (payload : List Byte) {s : State} (h : l.Posted s.link) :
    l.Posted (s.handleErase payload).1.link := by
  unfold State.handleErase
  (repeat' split) <;> simp [h]

theorem State.handleSend_posted (payload : List Byte) {s : State} (h : l.Posted s.link) :
    l.Posted (s.handleSend payload).1.link := by
  unfold State.handleSend
  (repeat' split) <;> simp [h]

theorem State.handleRelease_posted (payload : List Byte) {s : State} (h : l.Posted s.link) :
    l.Posted (s.handleRelease payload).1.link := by
  unfold State.handleRelease
  split <;> simp [h]

theorem State.handleCancel_posted (payload : List Byte) {s : State} (h : l.Posted s.link) :
    l.Posted (s.handleCancel payload).1.link := by
  unfold State.handleCancel
  split <;> simp [h]

theorem State.handleResume_posted {s : State} (h : l.Posted s.link) :
    l.Posted s.handleResume.1.link := by
  unfold State.handleResume
  split <;> simp [h]

/-- 09 R167 step 4: a block that carries out a request does nothing to the link but post notices; RESTART
alone stops the handler (R175). -/
theorem State.dispatch_posted {k : RequestKind} (notRestart : k ≠ .restart) (payload : List Byte)
    {s : State} (h : l.Posted s.link) : l.Posted (s.dispatch k payload).1.link := by
  unfold State.dispatch
  cases k
  case restart => contradiction
  case set => exact State.handleSet_posted payload h
  case tplOpen => exact State.handleOpen_posted payload h
  case tplErase => exact State.handleErase_posted payload h
  case send => exact State.handleSend_posted payload h
  case release => exact State.handleRelease_posted payload h
  case cancel => exact State.handleCancel_posted payload h
  case flush => exact State.flush_posted h
  case stop => exact State.stopEngine_posted h
  case resume => exact State.handleResume_posted h
  all_goals simp [h]

theorem State.announce_posted (reason : ResetReason) (status : ImageStatus) {s : State}
    (h : l.Posted s.link) : l.Posted (s.announce reason status).link := by
  unfold State.announce
  split <;> simp [h]

end

/-! ### The queues of the link -/

/-- 09 R166, R167, R170: no queue of the link holds more than its room. -/
structure Link.Fits (l : Link) : Prop where
  intake : l.intake.length ≤ 3
  replies : l.replies.length ≤ 2
  notices : l.notices.length ≤ 12

theorem Link.Fits.post {l : Link} (n : Notice) (h : l.Fits) : (l.post n).Fits where
  intake := by simpa using h.intake
  replies := by simpa using h.replies
  notices := l.post_notices_length n h.notices

theorem Link.Fits.posted {l l' : Link} (h : l.Fits) (posted : l.Posted l') : l'.Fits :=
  posted.keeps (fun n _ fits => fits.post n) h

theorem Link.Fits.startNext {l : Link} (h : l.Fits) : l.startNext.Fits where
  intake := by simpa using h.intake
  replies := by simpa using h.replies
  notices := by simpa using h.notices

theorem Link.Fits.addReply {l : Link} (r : Reply) (h : l.Fits) (room : l.replies.length < 2) :
    (l.addReply r).Fits :=
  Link.Fits.startNext ⟨h.intake, by simpa using room, h.notices⟩

theorem Link.Fits.answer {l : Link} (r : Request) (body : ReplyBody) (h : l.Fits)
    (room : l.replies.length < 2) : (l.answer r body).Fits := by
  have filled : (l.fillCache r body).Fits :=
    ⟨h.intake, by simpa [Link.fillCache, Link.disown] using h.replies, h.notices⟩
  unfold Link.answer
  split
  · exact h.addReply _ room
  · exact filled.addReply _ (by simpa [Link.fillCache, Link.disown] using room)

theorem Link.Fits.resend {l : Link} (e : CacheEntry) (h : l.Fits) (room : l.replies.length < 2) :
    (l.resend e).Fits :=
  Link.Fits.addReply _ ⟨h.intake, h.replies, h.notices⟩ room

theorem State.dispatch_link_fits (k : RequestKind) (payload : List Byte) {s : State} (h : s.link.Fits) :
    (s.dispatch k payload).1.link.Fits := by
  by_cases restart : k = .restart
  · subst restart
    simp only [State.dispatch, State.handleRestart]
    split
    · exact ⟨h.intake, h.replies, h.notices⟩
    all_goals exact h
  · exact h.posted (State.dispatch_posted restart payload .refl)

theorem State.carryOut_link_fits (r : Request) {s : State} (h : s.link.Fits) :
    (s.carryOut r).1.link.Fits := by
  unfold State.carryOut
  split
  · exact h
  · split
    · exact State.dispatch_link_fits _ _ h
    · exact h

/-- Each request that the handler takes finds room for its reply (09 R167). -/
theorem State.handle_link_fits (r : Request) {s : State} (h : s.link.Fits)
    (room : s.link.replies.length < 2) : (s.handle r).link.Fits := by
  unfold State.handle
  split
  · exact h.resend _ room
  · exact (State.carryOut_link_fits r h).answer _ _ (by simpa using room)

theorem State.takeRequest_link_fits {s : State} (h : s.link.Fits) : s.takeRequest.link.Fits := by
  unfold State.takeRequest
  split
  · exact h
  · next r rest waits =>
    split
    · next may =>
      refine State.handle_link_fits r ⟨?_, h.replies, h.notices⟩ may.2
      have := h.intake
      rw [waits] at this
      exact Nat.le_of_succ_le this
    · exact h

theorem State.takeRequests_link_fits {s : State} (h : s.link.Fits) : s.takeRequests.link.Fits :=
  State.takeRequest_link_fits (State.takeRequest_link_fits (State.takeRequest_link_fits h))

theorem State.judge_link_fits (kind tag : Byte) (payload : List Byte) (check : Byte) {s : State}
    (h : s.link.Fits) : (s.judge kind tag payload check).link.Fits := by
  unfold State.judge
  split
  · exact h.post _
  split
  · exact h.post _
  split
  · exact h.post _
  · next room =>
    refine State.takeRequests_link_fits ⟨?_, h.replies, h.notices⟩
    simpa [Config.intakeRoom] using room

/-- A link whose frame receiver alone has changed. -/
theorem Link.Fits.listening {l : Link} (h : l.Fits) (receiver : HuntState) (timer : Timer) :
    Link.Fits { l with receiver := receiver, interByte := timer } :=
  ⟨h.intake, h.replies, h.notices⟩

theorem State.receiveFrame_link_fits (kind tag : Byte) (payload : List Byte) (check : Byte) {s : State}
    (h : s.link.Fits) : (s.receiveFrame kind tag payload check).link.Fits := by
  unfold State.receiveFrame
  split
  · exact h.listening _ _
  · exact State.judge_link_fits _ _ _ _ (h.listening _ _)

theorem State.character_link_fits (b : Byte) {s : State} (h : s.link.Fits) :
    (s.character b).link.Fits := by
  unfold State.character
  split
  case h_1 => split <;> [exact h.listening _ _; exact h]
  case h_2 => split <;> exact h.listening _ _
  case h_3 => exact h.listening _ _
  case h_4 => split <;> exact h.listening _ _
  case h_5 => split <;> exact h.listening _ _
  case h_6 => exact State.judge_link_fits _ _ _ _ (h.listening _ _)

theorem State.abandonFrame_link_fits {s : State} (h : s.link.Fits) : s.abandonFrame.link.Fits := by
  unfold State.abandonFrame
  split
  case h_1 => exact h
  case h_2 => exact h.listening _ _
  all_goals exact (h.listening _ _).post _

theorem State.takeCharacter_link_fits (b : Byte) (startAgo : Nat) (stopHigh : Bool) {s : State}
    (h : s.link.Fits) : (s.takeCharacter b startAgo stopHigh).link.Fits := by
  unfold State.takeCharacter
  split
  · exact h
  · split
    · exact State.character_link_fits b (State.abandonFrame_link_fits h)
    · exact State.character_link_fits b h

theorem State.interByteExpires_link_fits {s : State} (h : s.link.Fits) :
    s.interByteExpires.link.Fits := by
  unfold State.interByteExpires
  split
  · exact State.abandonFrame_link_fits h
  · exact h

/-- After a reset the link holds START and at most SUPPLY LOW (09 R177). -/
theorem State.announce_link_fits (reason : ResetReason) (status : ImageStatus) {s : State}
    {strap : Bool} {listenFrom : Nat} (fresh : s.link = Link.afterReset strap listenFrom) :
    (s.announce reason status).link.Fits := by
  have empty : s.link.Fits := by
    rw [fresh]
    exact ⟨Nat.zero_le _, Nat.zero_le _, Nat.zero_le _⟩
  exact empty.posted (State.announce_posted _ _ .refl)

theorem State.hardReset_link_fits (reason : ResetReason) (strap : Bool) (s : State) :
    (s.hardReset reason strap).link.Fits := State.announce_link_fits _ _ rfl

theorem State.softReset_link_fits (strap : Bool) (s : State) : (s.softReset strap).link.Fits :=
  State.announce_link_fits _ _ rfl

theorem Link.Fits.replySent {l : Link} {r : Reply} {rest : List Reply} (h : l.Fits) (now : Nat)
    (front : l.replies = r :: rest) : (l.replySent r rest now).Fits := by
  have fewer : rest.length ≤ 2 := by
    have all := h.replies
    rw [front] at all
    exact Nat.le_of_succ_le all
  exact Link.Fits.startNext ⟨by simpa using h.intake, fewer, by simpa using h.notices⟩

theorem Link.Fits.noticeSent {l : Link} {n : Notice} {rest : List Notice} (h : l.Fits)
    (front : l.notices = n :: rest) : (l.noticeSent rest).Fits := by
  have fewer : rest.length ≤ 12 := by
    have all := h.notices
    rw [front] at all
    exact Nat.le_of_succ_le all
  exact Link.Fits.startNext ⟨h.intake, h.replies, fewer⟩

theorem State.outboundEnds_link_fits (strap : Bool) {s : State} (h : s.link.Fits) :
    (s.outboundEnds strap).link.Fits := by
  unfold State.outboundEnds
  split
  · next replies =>
    split
    · exact State.softReset_link_fits strap s
    · exact State.takeRequests_link_fits (h.replySent s.now replies)
  · next notices =>
    exact State.takeRequests_link_fits (h.noticeSent notices)
  · exact h

theorem State.windowCloses_link_fits {s : State} (h : s.link.Fits) : s.windowCloses.link.Fits :=
  ⟨by simpa using h.intake, by simpa using h.replies, by simpa using h.notices⟩

theorem State.delayExpires_link_fits {s : State} (h : s.link.Fits) : s.delayExpires.link.Fits := by
  unfold State.delayExpires
  split
  · exact ⟨h.intake, h.replies, h.notices⟩
  · exact h

theorem State.latencyEnds_link_fits {s : State} (h : s.link.Fits) : s.latencyEnds.link.Fits := by
  have resumed : s.resumeTimers.link.Fits := ⟨h.intake, h.replies, h.notices⟩
  unfold State.latencyEnds
  split
  · next byRxin _ =>
    have same : (s.resumeTimers.receiverWakes byRxin).link = s.resumeTimers.link := by simp
    exact (same ▸ resumed).posted (State.compareSupply_posted .refl)
  all_goals exact h

theorem State.powerOn_link_fits (vdd : Nat) (strap : Bool) {s : State} (h : s.link.Fits) :
    (s.powerOn vdd strap).link.Fits := by
  obtain ⟨-, e⟩ | ⟨-, e⟩ := s.powerOn_cases vdd strap
  · rwa [e]
  · rw [e]
    exact State.hardReset_link_fits ..

theorem State.pinReset_link_fits (release : Option Bool) {s : State} (h : s.link.Fits) :
    (s.pinReset release).link.Fits := by
  obtain ⟨-, e⟩ | ⟨-, e⟩ | ⟨strap, -, -, e⟩ := s.pinReset_cases release
  · rwa [e]
  · rwa [e]
  · rw [e]
    exact State.hardReset_link_fits ..

theorem State.supplyMoves_link_fits (vdd : Nat) {s : State} (h : s.link.Fits) :
    (s.supplyMoves vdd).link.Fits := by
  obtain e | ⟨-, -, e⟩ := s.supplyMoves_cases vdd
  · rwa [e]
  · rw [e]
    exact Link.Fits.posted (l := (s.setVdd vdd).link) h (State.compareSupply_posted .refl)

theorem State.keyLineChanges_link (k : Fin 8) (high : Bool) (s : State) :
    (s.keyLineChanges k high).link = s.link := by simp

theorem State.rxinChanges_posted (high : Bool) (s : State) :
    s.link.Posted (s.rxinChanges high).link := by
  unfold State.rxinChanges
  (repeat' split) <;> simp [Link.Posted.refl]

theorem State.event_link_fits {s : State} {dt : Nat} {act : State → State}
    (keeps : ∀ u : State, u.link.Fits → (act u).link.Fits) (h : s.link.Fits) :
    (s.event dt act).link.Fits := by
  unfold State.event State.eventOr
  split
  · exact h
  · exact keeps _ h

theorem State.awakeEvent_link_fits {s : State} {dt : Nat} {act : State → State}
    (keeps : ∀ u : State, u.link.Fits → (act u).link.Fits) (h : s.link.Fits) :
    (s.event dt (State.whenAwake act)).link.Fits := by
  refine State.event_link_fits (fun u fits => ?_) h
  unfold State.whenAwake
  split
  · exact keeps u fits
  · exact fits

/-- No command fills a queue of the link beyond its room. -/
theorem exec_link_fits {c : Instr} {s t : State} (ran : exec c s = .next t) (h : s.link.Fits) :
    t.link.Fits := by
  have frame {dt : Nat} {kind tag : Byte} {payload : List Byte} {check : Byte} :
      (s.event dt (State.whenAwake (State.receiveFrame kind tag payload check))).link.Fits :=
    State.awakeEvent_link_fits (fun _ => State.receiveFrame_link_fits _ _ _ _) h
  have event {dt : Nat} {act : State → State} (posts : ∀ u, u.link.Posted (act u).link) :
      (s.event dt (State.whenAwake act)).link.Fits :=
    State.awakeEvent_link_fits (fun u fits => fits.posted (posts u)) h
  cases c <;> cases ran
  case powerOnReset => exact State.powerOn_link_fits _ _ h
  case pinReset => exact State.pinReset_link_fits _ h
  case interByteTimeout => exact State.awakeEvent_link_fits (fun _ => State.interByteExpires_link_fits) h
  case outboundFrameEnd => exact State.awakeEvent_link_fits (fun _ => State.outboundEnds_link_fits _) h
  case replyCacheWindowClose => exact State.awakeEvent_link_fits (fun _ => State.windowCloses_link_fits) h
  case characterReceived =>
    exact State.awakeEvent_link_fits (fun _ => State.takeCharacter_link_fits _ _ _) h
  case saveWriteComplete => exact event fun _ => State.writeCompletes_posted .refl
  case wipeEraseEnd => exact event fun _ => State.eraseEnds_posted .refl
  case draftExpiry => exact event fun _ => State.draftExpires_posted .refl
  case intervalEnd => exact event fun _ => State.intervalEnds_posted .refl
  case spacingEnd => exact event fun _ => State.spacingEnds_posted .refl
  case holdLimitExpiry => exact event fun _ => State.holdExpires_posted _ .refl
  case indTailExpiry => exact event fun u => by simp [Link.Posted.refl]
  case keyEdge =>
    unfold State.eventOr
    split
    · exact h
    · exact (State.keyLineChanges_link _ _ _).symm ▸ h
  case debounceExpiry => exact event fun _ => State.debounceExpires_posted _ .refl
  case rxinChange =>
    unfold State.eventOr
    split
    · exact h
    · exact Link.Fits.posted h (State.rxinChanges_posted _ (s.advance _))
  case glitchConfirm => exact event fun _ => State.confirmGlitch_posted .refl
  case burstEndTimer => exact event fun _ => State.burstEnds_posted .refl
  case markLimit => exact event fun _ => State.markTooLong_posted .refl
  case blankTailExpiry => exact event fun u => by simp [Link.Posted.refl]
  case matchingEnd => exact event fun _ => State.matchingEnds_posted .refl
  case rxWindowExpiry => exact event fun _ => State.windowExpires_posted .refl
  case learnTimerExpiry => exact event fun _ => State.learnExpires_posted .refl
  case supplyChange =>
    unfold State.eventOr
    split
    · exact State.powerOn_link_fits _ _ h
    · exact State.supplyMoves_link_fits _ h
  case dozeDelayExpiry => exact State.awakeEvent_link_fits (fun _ => State.delayExpires_link_fits) h
  case rxdWakeEdge => exact State.event_link_fits (fun u fits => by simpa using fits) h
  case wakeLatencyEnd => exact State.event_link_fits (fun _ => State.latencyEnds_link_fits) h
  all_goals exact frame

end Sys2Proof.Machine
end

section
/-! PROOF. What the steps do to the emission queue and the current job (04, 05): the room of the queue and
its order. -/

namespace Sys2Proof.Machine

/-! ### The job that the engine plays -/

/-- `j'` is the job `j`, as far as a SEND, a binding or a key knows it (04 R56). -/
structure Job.Same (j' j : Job) : Prop where
  id : j'.id = j.id
  source : j'.source = j.source
  spec : j'.spec = j.spec

/-- The engine has a current job that is `j`. -/
def State.Plays (s : State) (j : Job) : Prop :=
  ∃ j', s.engine.current = some j' ∧ j'.Same j ∧ j'.state = .current

@[simp] theorem State.activityOn_current (s : State) :
    s.activityOn.engine.current = s.engine.current := rfl

@[simp] theorem State.activityOff_current (s : State) :
    s.activityOff.engine.current = s.engine.current := rfl

@[simp] theorem State.startFrame_current (j : Job) (s : State) :
    (s.startFrame j).engine.current = some j := rfl

theorem State.startHold_same (s : State) (j : Job) : (s.startHold j).Same j := by
  unfold State.startHold
  split <;> exact ⟨rfl, rfl, rfl⟩

theorem State.startHold_state (s : State) (j : Job) : (s.startHold j).state = j.state := by
  unfold State.startHold
  split <;> rfl

theorem State.beginJob_plays (j : Job) (s : State) : (s.beginJob j).Plays j := by
  refine ⟨(s.startHold { j with state := .current, toggleBit := (s.flipToggle j).2 }), ?_, ?_,
    State.startHold_state s _⟩
  · simp [State.beginJob, State.startFirst]
  · obtain ⟨id, source, spec⟩ :=
      s.startHold_same { j with state := .current, toggleBit := (s.flipToggle j).2 }
    exact ⟨id, source, spec⟩

theorem State.takeJob_plays (j : Job) (s : State) : (s.takeJob j).Plays j := by
  unfold State.takeJob
  split
  · exact ⟨_, rfl, ⟨rfl, rfl, rfl⟩, rfl⟩
  all_goals exact s.beginJob_plays j

/-- 05 R91: what `takeOrIdle` does to the queue and the current job. -/
theorem State.takeOrIdle_cases (s : State) :
    (s.queue.jobs = [] ∧ s.takeOrIdle = { s with engine := { s.engine with state := .idle } })
      ∨ ∃ j rest, s.queue.jobs = j :: rest
          ∧ s.takeOrIdle = { s with queue := { s.queue with jobs := rest } }.takeJob j := by
  unfold State.takeOrIdle
  split
  · next empty => exact .inl ⟨empty, rfl⟩
  · next j rest jobs => exact .inr ⟨j, rest, jobs, by simp only [State.takeHead, jobs]⟩

/-- 05 R86, R87: what the end decision at a frame end does to the current job. -/
theorem State.decideAtFrame_cases (j : Job) (s : State) :
    s.decideAtFrame j = s
      ∨ ∃ reason, s.endAtFrame j = some reason ∧ s.decideAtFrame j = (s.endCurrent j reason).startTail := by
  unfold State.decideAtFrame
  split
  · next reason ends => exact .inr ⟨reason, ends, rfl⟩
  · exact .inl rfl

/-- 02 R34, 05 R85: what an INTERVAL_END can do: nothing, the next interval, or the end of the frame. -/
theorem State.intervalEnds_cases (s : State) :
    s.intervalEnds = s
      ∨ (s.engine.state = .emitting ∧ ∃ p, s.intervalEnds =
          { s with engine := { s.engine with position := some p } })
      ∨ ∃ j p, s.engine.state = .emitting ∧ s.engine.current = some j ∧ s.intervalEnds = s.frameEnds j p := by
  unfold State.intervalEnds
  split
  · next j p emitting current position =>
    split
    · split
      · exact .inr (.inl ⟨emitting, _, rfl⟩)
      · exact .inr (.inr ⟨j, p, emitting, current, rfl⟩)
    · exact .inl rfl
  · exact .inl rfl

/-- 05 R88 to R91: what a SPACING_END can do: nothing, a take or IDLE without a current job, the end of the
current job, a park, or the current job's next frame. -/
theorem State.spacingEnds_cases (s : State) :
    s.spacingEnds = s
      ∨ (s.engine.state = .spacing ∧ s.engine.current = none ∧ s.spacingEnds = s.takeOrIdle)
      ∨ ∃ j, s.engine.state = .spacing ∧ s.engine.current = some j ∧
          ((∃ reason, s.spacingEnds = (s.endCurrent j reason).afterSpacingEnd)
            ∨ (∃ u rest, s.queue.jobs = u :: rest ∧ u.urgent = true ∧ j.urgent = false
                ∧ s.spacingEnds = s.park j u rest)
            ∨ s.spacingEnds = s.startFrame j) := by
  unfold State.spacingEnds
  split
  · next due =>
    split
    · next none => exact .inr (.inl ⟨due.1, none, rfl⟩)
    · next j current =>
      refine .inr (.inr ⟨j, due.1, current, ?_⟩)
      split
      · next reason _ => exact .inl ⟨reason, rfl⟩
      · unfold State.parkOrGoOn
        split
        · next u rest jobs =>
          split
          · next parks => exact .inr (.inl ⟨u, rest, jobs, parks.1, by simpa using parks.2, rfl⟩)
          · exact .inr (.inr rfl)
        · exact .inr (.inr rfl)
  · exact .inl rfl

/-- 05 R88: what becomes of the engine when its current job has ended at a spacing end. -/
theorem State.afterSpacingEnd_cases (s : State) :
    (s.queue.jobs = [] ∧ s.afterSpacingEnd = s.takeOrIdle.startTail)
      ∨ ((∃ j rest, s.queue.jobs = j :: rest) ∧ s.afterSpacingEnd = s.takeOrIdle) := by
  unfold State.afterSpacingEnd
  split
  · next empty => exact .inl ⟨empty, rfl⟩
  · next j rest jobs => exact .inr ⟨⟨j, rest, jobs⟩, rfl⟩

/-- 05 R97, R96: a STOP cuts a frame in progress, ends the current job, and stops the engine. -/
theorem State.cutCurrent_cases (s : State) :
    (s.engine.current = none ∧ s.cutCurrent = s)
      ∨ ∃ j, s.engine.current = some j ∧ s.cutCurrent = s.endCurrent j .cut := by
  unfold State.cutCurrent
  split
  · next j current => exact .inr ⟨j, current, rfl⟩
  · next none => exact .inl ⟨none, rfl⟩

/-- 04 R67: what a reason on a live job does. -/
theorem State.endSoon_cases (j : Job) (reason : PendingEnd) (s : State) :
    (j.state = .parked ∧ (s.endSoon j reason).1 = s.removeJob j reason.reason)
      ∨ (s.endSoon j reason).1 = s.markJob j.id reason := by
  unfold State.endSoon
  split
  · next parked => exact .inl ⟨parked.1, rfl⟩
  · exact .inr rfl

/-! ### Properties of the queue and the current job -/

/-- What the blocks do to the entries of the queue and the current job, one rule for each: a property that
keeps all of them is kept by every step. -/
structure QueueRules (Q : List Job → Option Job → Prop) : Prop where
  reset : Q [] none
  flush : ∀ jobs c, Q jobs c → Q [] c
  ends : ∀ jobs c, Q jobs c → Q jobs none
  plays : ∀ jobs (c c' : Job), Q jobs (some c) → c'.Same c → c'.state = c.state → Q jobs (some c')
  take : ∀ (j j' : Job) rest c, Q (j :: rest) c → j'.Same j → j'.state = .current → Q rest (some j')
  park : ∀ (j u u' : Job) rest, Q (u :: rest) (some j) → u.urgent = true → j.urgent = false →
    u'.Same u → u'.state = .current → Q (insertAfterUrgent { j with state := .parked } rest) (some u')
  join : ∀ (j : Job) jobs c, Q jobs c → jobs.length < 8 → j.state = .waiting → Q (insertNew j jobs) c
  mark : ∀ jobs c id reason, Q jobs c → Q (jobs.map (Job.mark id reason)) c
  remove : ∀ jobs c id, Q jobs c → Q (jobs.filter fun k => decide (k.id ≠ id)) c

/-- A property of the entries of the queue and the current job. -/
def State.Holds (Q : List Job → Option Job → Prop) (s : State) : Prop :=
  Q s.queue.jobs s.engine.current

theorem State.Holds.same {Q : List Job → Option Job → Prop} {s t : State} (h : s.Holds Q)
    (queue : t.queue = s.queue) (engine : t.engine = s.engine) : t.Holds Q := by
  rw [State.Holds, queue, engine]
  exact h

theorem Job.mark_same (id : Nat) (reason : PendingEnd) (j : Job) : (j.mark id reason).Same j := by
  unfold Job.mark
  split <;> exact ⟨rfl, rfl, rfl⟩

theorem Job.mark_state (id : Nat) (reason : PendingEnd) (j : Job) :
    (j.mark id reason).state = j.state := by
  unfold Job.mark
  split <;> rfl

theorem newJob_state (id : Nat) (source : Source) (spec : JobSpec) :
    (newJob id source spec).state = .waiting := rfl

/-- 04 R61 check 5: admission finds room in the queue. -/
theorem State.room_of_admission {s : State} {spec : JobSpec} (admitted : s.admissionRefusal spec = none) :
    s.queue.jobs.length < 8 := by
  unfold State.admissionRefusal at admitted
  split at admitted
  · contradiction
  · split at admitted
    · contradiction
    · next room => exact Nat.not_le.1 room

theorem State.markJob_queue (id : Nat) (reason : PendingEnd) (s : State) :
    (s.markJob id reason).queue.jobs = s.queue.jobs.map (Job.mark id reason) := rfl

theorem State.removeJob_queue (j : Job) (reason : EndReason) (s : State) :
    (s.removeJob j reason).queue.jobs = s.queue.jobs.filter fun k => decide (k.id ≠ j.id) := rfl

@[simp] theorem flushJobs_queue_engine (jobs : List Job) (s : State) :
    (flushJobs jobs s).queue = s.queue ∧ (flushJobs jobs s).engine = s.engine := by
  induction jobs generalizing s with
  | nil => exact ⟨rfl, rfl⟩
  | cons j rest ih => exact ih (s.jobLeaves j .flushed)

namespace QueueRules

variable {Q : List Job → Option Job → Prop} (R : QueueRules Q)

include R

theorem takeJob {s : State} {j : Job} {c : Option Job} (h : Q (j :: s.queue.jobs) c) :
    (s.takeJob j).Holds Q := by
  obtain ⟨j', current, same, state⟩ := s.takeJob_plays j
  have next := R.take j j' _ c h same state
  simpa [State.Holds, current] using next

theorem takeOrIdle {s : State} (h : s.Holds Q) : s.takeOrIdle.Holds Q := by
  obtain ⟨-, e⟩ | ⟨j, rest, jobs, e⟩ := s.takeOrIdle_cases
  · rw [e]
    exact h
  · rw [e]
    unfold State.Holds at h
    rw [jobs] at h
    exact R.takeJob (s := { s with queue := { s.queue with jobs := rest } }) h

theorem admitted {s : State} (h : s.Holds Q) : s.admitted.Holds Q := by
  unfold State.admitted State.takeHead
  split
  · split
    · exact h
    · next j rest jobs =>
      unfold State.Holds at h
      rw [jobs] at h
      exact R.takeJob (s := { s with queue := { s.queue with jobs := rest } }) h
  all_goals exact h

theorem enrolled {s : State} (source : Source) {spec : JobSpec}
    (admits : s.admissionRefusal spec = none) (h : s.Holds Q) :
    (s.enrol source spec).admitted.Holds Q :=
  R.admitted (R.join _ _ _ h (State.room_of_admission admits) (newJob_state ..))

theorem endCurrent {s : State} (j : Job) (reason : EndReason) (h : s.Holds Q) :
    (s.endCurrent j reason).Holds Q := R.ends _ _ h

theorem cutCurrent {s : State} (h : s.Holds Q) : s.cutCurrent.Holds Q := by
  obtain ⟨-, e⟩ | ⟨j, -, e⟩ := s.cutCurrent_cases
  · rwa [e]
  · rw [e]
    exact R.endCurrent _ _ h

theorem endSoon {s : State} (j : Job) (reason : PendingEnd) (h : s.Holds Q) :
    (s.endSoon j reason).1.Holds Q := by
  obtain ⟨-, e⟩ | e := s.endSoon_cases j reason
  · rw [e]
    exact R.remove _ _ _ h
  · rw [e]
    have marked := R.mark _ _ j.id reason h
    cases current : s.engine.current with
    | none =>
      rw [current] at marked
      simpa [State.Holds, State.markJob, current] using marked
    | some c =>
      rw [current] at marked
      simpa [State.Holds, State.markJob, current] using
        R.plays _ c _ marked (Job.mark_same ..) (Job.mark_state ..)

theorem intervalEnds {s : State} (h : s.Holds Q) : s.intervalEnds.Holds Q := by
  obtain e | ⟨-, p, e⟩ | ⟨j, p, -, current, e⟩ := s.intervalEnds_cases
  · rwa [e]
  · rw [e]
    exact h
  · unfold State.Holds at h
    rw [current] at h
    have counted : (s.frameCounted j p).Holds Q := R.plays _ j j.frameSent h ⟨rfl, rfl, rfl⟩ rfl
    rw [e]
    obtain e | ⟨reason, -, e⟩ := (s.frameCounted j p).decideAtFrame_cases j.frameSent
    · rwa [State.frameEnds, e]
    · rw [State.frameEnds, e]
      exact R.endCurrent j.frameSent reason counted

theorem spacingEnds {s : State} (h : s.Holds Q) : s.spacingEnds.Holds Q := by
  obtain e | ⟨-, -, e⟩ | ⟨j, -, current, ⟨reason, e⟩ | ⟨u, rest, jobs, urgent, normal, e⟩ | e⟩ :=
    s.spacingEnds_cases
  · rwa [e]
  · rw [e]
    exact R.takeOrIdle h
  · rw [e]
    obtain ⟨-, e⟩ | ⟨-, e⟩ := (s.endCurrent j reason).afterSpacingEnd_cases
    all_goals
      rw [e]
      exact R.takeOrIdle (R.endCurrent _ _ h)
  · unfold State.Holds at h
    rw [current, jobs] at h
    rw [e]
    obtain ⟨u', plays, same, state⟩ := State.beginJob_plays u
      { s with queue := { s.queue with jobs := insertAfterUrgent { j with state := .parked } rest } }
    have parked := R.park j u u' rest h urgent normal same state
    simpa [State.Holds, State.park, plays] using parked
  · unfold State.Holds at h
    rw [current] at h
    rw [e]
    simpa [State.Holds] using h

theorem stopEngine {s : State} (h : s.Holds Q) : s.stopEngine.Holds Q := by
  unfold State.stopEngine
  split
  · exact R.cutCurrent (s := s.cutFrame) h
  · exact R.cutCurrent h
  · exact R.cutCurrent h
  · exact h

theorem resumeEngine {s : State} (h : s.Holds Q) : s.resumeEngine.Holds Q := by
  unfold State.resumeEngine
  split
  · exact h
  · exact R.takeOrIdle h

theorem keyRelease {s : State} (k : Fin 8) (id : Nat) (h : s.Holds Q) : (s.keyRelease k id).Holds Q := by
  unfold State.keyRelease
  split
  · exact h
  · split
    · exact R.endSoon _ _ h
    · exact h

theorem debounceExpires {s : State} (k : Fin 8) (h : s.Holds Q) : (s.debounceExpires k).Holds Q := by
  unfold State.debounceExpires State.keyPress State.keyReleased State.submitPress State.handRelease
  split
  · split
    · split
      · exact h
      · split
        · exact h
        · split
          · exact h
          · next admits => exact R.enrolled _ admits h
    · split
      · exact R.keyRelease _ _ h
      · exact h
    all_goals exact h
  · exact h

theorem holdExpires {s : State} (id : Nat) (h : s.Holds Q) : (s.holdExpires id).Holds Q := by
  unfold State.holdExpires
  split
  · exact h
  · split
    · exact h
    · split
      · exact R.endSoon _ _ h
      · exact h

theorem send {s : State} (spec : JobSpec) (h : s.Holds Q) : (s.send spec).1.Holds Q := by
  unfold State.send
  split
  · exact h
  · next admits => exact R.enrolled _ admits h

theorem release {s : State} (id : Nat) (h : s.Holds Q) : (s.release id).1.Holds Q := by
  unfold State.release
  split
  · exact h
  · (repeat' split) <;> first | exact h | exact R.endSoon _ _ h

theorem cancel {s : State} (id : Nat) (h : s.Holds Q) : (s.cancel id).1.Holds Q := by
  unfold State.cancel
  split
  · exact h
  · split
    · exact h
    · split
      · exact R.remove _ _ _ h
      · exact R.endSoon _ _ h

theorem dispatch {s : State} (k : RequestKind) (payload : List Byte) (h : s.Holds Q) :
    (s.dispatch k payload).1.Holds Q := by
  cases k
  case send =>
    change (s.handleSend payload).1.Holds Q
    unfold State.handleSend
    (repeat' split) <;> first | exact h | exact R.send _ h
  case release =>
    change (s.handleRelease payload).1.Holds Q
    unfold State.handleRelease
    split <;> first | exact h | exact R.release _ h
  case cancel =>
    change (s.handleCancel payload).1.Holds Q
    unfold State.handleCancel
    split <;> first | exact h | exact R.cancel _ h
  case flush =>
    have emptied : State.Holds Q { s with queue := { s.queue with jobs := [] } } := R.flush _ _ h
    exact State.Holds.same emptied (by simp [State.dispatch, State.flush]) (by simp [State.dispatch, State.flush])
  case stop => exact R.stopEngine h
  case resume =>
    change s.handleResume.1.Holds Q
    unfold State.handleResume
    split <;> first | exact h | exact R.resumeEngine h
  all_goals exact State.Holds.same h (by simp [State.dispatch]) (by simp [State.dispatch])

/-- A property of the queue and the current job that keeps the rules is kept by every step. -/
theorem kept : Kept (State.Holds Q) where
  pending _ _ h := h
  clock _ _ h := h
  delay _ _ h := h
  link _ _ h _ := h
  dispatch _ k payload h _ := R.dispatch k payload h
  softReset s strap _ _ := by simpa [State.Holds, State.softReset, State.blocksReset, Engine.afterReset] using R.reset
  hardReset s reason strap _ := by
    simpa [State.Holds, State.hardReset, State.load, State.blocksReset, Engine.afterReset] using R.reset
  setVdd _ _ h := h
  setReset _ _ h := h
  compareSupply _ h _ := State.Holds.same h (by simp) (by simp)
  writeCompletes _ h _ := State.Holds.same h (by simp) (by simp)
  eraseEnds _ h _ := State.Holds.same h (by simp) (by simp)
  draftExpires _ h _ := State.Holds.same h (by simp) (by simp)
  intervalEnds _ h _ := R.intervalEnds h
  spacingEnds _ h _ := R.spacingEnds h
  holdExpires _ id h _ := R.holdExpires id h
  tailExpires _ h _ := State.Holds.same h (by simp) (by simp)
  setKeyLine _ _ _ h := h
  keyLineChanges _ _ _ h := State.Holds.same h (by simp) (by simp)
  debounceExpires _ k h _ := R.debounceExpires k h
  setRxinLine _ _ h := h
  rxinChanges _ _ h := State.Holds.same h (by simp) (by simp)
  confirmGlitch _ h _ := State.Holds.same h (by simp) (by simp)
  burstEnds _ h _ := State.Holds.same h (by simp) (by simp)
  markTooLong _ h _ := State.Holds.same h (by simp) (by simp)
  blankTailExpires _ h _ := State.Holds.same h (by simp) (by simp)
  matchingEnds _ h _ := State.Holds.same h (by simp) (by simp)
  windowExpires _ h _ := State.Holds.same h (by simp) (by simp)
  learnExpires _ h _ := State.Holds.same h (by simp) (by simp)
  delayExpires s h _ := by
    unfold State.delayExpires
    split
    · exact h
    · exact h
  wake _ _ _ h := State.Holds.same h (by simp) (by simp)
  latencyEnds s h := by
    unfold State.latencyEnds State.becomeAwake
    split
    · simpa [State.Holds, State.resumeTimers, State.mapTimers] using h
    all_goals exact h

end QueueRules

/-! ### The room of the queues -/

theorem insertAfterUrgent_length (j : Job) (jobs : List Job) :
    (insertAfterUrgent j jobs).length = jobs.length + 1 := by
  have parts := congrArg List.length (List.takeWhile_append_dropWhile (p := Job.urgent) (l := jobs))
  simp only [insertAfterUrgent, List.length_append, List.length_cons] at parts ⊢
  omega

theorem insertNew_length (j : Job) (jobs : List Job) : (insertNew j jobs).length = jobs.length + 1 := by
  unfold insertNew
  split
  · exact insertAfterUrgent_length ..
  · simp

/-- 04 R58: the emission queue never holds more than 8 entries. -/
theorem queueRoom_rules : QueueRules fun jobs _ => jobs.length ≤ 8 where
  reset := Nat.zero_le _
  flush _ _ _ := Nat.zero_le _
  ends _ _ h := h
  plays _ _ _ h _ _ := h
  take _ _ _ _ h _ _ := Nat.le_of_succ_le h
  park j u u' rest h _ _ _ _ := by simpa [insertAfterUrgent_length] using h
  join j jobs _ _ room _ := by
    rw [insertNew_length]
    exact room
  mark _ _ _ _ h := by simpa using h
  remove _ _ _ h := (List.length_filter_le ..).trans h

/-- Settles O55: the emission queue by the rules of its entries, the queues of the link by what each
command does to them. -/
theorem stepKeepsTheRoom : Obligations.StepKeepsTheRoom := by
  intro s t stepped ⟨queue, intake, replies, notices⟩
  have fits : t.link.Fits := by
    unfold step at stepped
    split at stepped
    · cases stepped
      exact ⟨intake, replies, notices⟩
    · exact exec_link_fits stepped ⟨intake, replies, notices⟩
  exact ⟨queueRoom_rules.kept.step queue stepped, fits.intake, fits.replies, fits.notices⟩

/-! ### The order of the queue -/

/-- 04 R58: a queue in class order is its URGENT entries, then its NORMAL ones. -/
theorem classOrder_iff (jobs : List Job) :
    classOrder jobs = true ↔ ∀ j ∈ jobs.dropWhile Job.urgent, j.urgent = false := by
  induction jobs with
  | nil => simp [classOrder]
  | cons a rest ih =>
    cases rest with
    | nil => cases h : a.urgent <;> simp [classOrder, h]
    | cons b rest =>
      cases h : a.urgent with
      | true => simpa [classOrder, h] using ih
      | false =>
        cases h' : b.urgent with
        | true => simp [classOrder, h, h']
        | false => simpa [classOrder, h, h'] using ih

/-- 04 R56, R58: the order of the emission queue, its NORMAL part given as a list. -/
structure QueueOrder (jobs : List Job) (current : Option Job) : Prop where
  normals : ∀ j ∈ jobs.dropWhile Job.urgent, j.urgent = false
  states : ∀ j ∈ jobs, j.state = .waiting ∨ (j.state = .parked ∧ j.urgent = false)
  parkedFirst : ∀ j ∈ (jobs.dropWhile Job.urgent).tail, j.state = .waiting
  parkedWithUrgent : ∀ c ∈ current, c.urgent = false → ∀ j ∈ jobs, j.state = .waiting

theorem State.queueOrdered_iff (s : State) : s.QueueOrdered ↔ s.Holds QueueOrder := by
  unfold State.QueueOrdered State.Holds
  rw [classOrder_iff]
  exact ⟨fun ⟨a, b, c, d⟩ => ⟨a, b, c, d⟩, fun ⟨a, b, c, d⟩ => ⟨a, b, c, d⟩⟩

theorem Job.Same.urgent {j' j : Job} (same : j'.Same j) : j'.urgent = j.urgent := by
  rw [Job.urgent, Job.urgent, same.spec]

/-- The URGENT entries behind which a job stands. -/
theorem mem_takeWhile_urgent {j : Job} {jobs : List Job} (h : j ∈ jobs.takeWhile Job.urgent) :
    j.urgent = true := List.mem_takeWhile_imp h

theorem dropWhile_insertAfterUrgent_normal {j : Job} (normal : j.urgent = false) (jobs : List Job) :
    (insertAfterUrgent j jobs).dropWhile Job.urgent = j :: jobs.dropWhile Job.urgent := by
  rw [insertAfterUrgent, List.dropWhile_append_of_pos fun x h => mem_takeWhile_urgent h]
  simp [normal]

theorem dropWhile_insertAfterUrgent_urgent {j : Job} (urgent : j.urgent = true) (jobs : List Job) :
    (insertAfterUrgent j jobs).dropWhile Job.urgent = jobs.dropWhile Job.urgent := by
  rw [insertAfterUrgent, List.dropWhile_append_of_pos fun x h => mem_takeWhile_urgent h]
  simp [urgent, List.dropWhile_idempotent]

theorem mem_insertAfterUrgent {x j : Job} {jobs : List Job} :
    x ∈ insertAfterUrgent j jobs ↔ x = j ∨ x ∈ jobs := by
  have parts : x ∈ jobs ↔ x ∈ jobs.takeWhile Job.urgent ∨ x ∈ jobs.dropWhile Job.urgent := by
    rw [← List.mem_append, List.takeWhile_append_dropWhile]
  rw [insertAfterUrgent, parts]
  simp only [List.mem_append, List.mem_cons]
  tauto

/-- A WAITING entry joins a queue in order (04 R58). -/
theorem QueueOrder.insertNew {jobs : List Job} {c : Option Job} (h : QueueOrder jobs c) {j : Job}
    (waiting : j.state = .waiting) : QueueOrder (insertNew j jobs) c := by
  unfold Machine.insertNew
  split
  · next urgent =>
    have urgent : j.urgent = true := decide_eq_true urgent
    refine ⟨?_, fun x mem => ?_, ?_, fun d cur normal x mem => ?_⟩
    · rw [dropWhile_insertAfterUrgent_urgent urgent]
      exact h.normals
    · obtain rfl | mem := mem_insertAfterUrgent.1 mem
      · exact .inl waiting
      · exact h.states x mem
    · rw [dropWhile_insertAfterUrgent_urgent urgent]
      exact h.parkedFirst
    · obtain rfl | mem := mem_insertAfterUrgent.1 mem
      · exact waiting
      · exact h.parkedWithUrgent d cur normal x mem
  · next normal =>
    have normal : j.urgent = false := by simp [Job.urgent, normal]
    have drop : (jobs ++ [j]).dropWhile Job.urgent = jobs.dropWhile Job.urgent ++ [j] := by
      rw [List.dropWhile_append]
      split
      · next all =>
        simp [normal, List.isEmpty_iff.1 all]
      · rfl
    have joined {p : Job → Prop} (old : ∀ x ∈ jobs, p x) (new : p j) : ∀ x ∈ jobs ++ [j], p x := by
      simpa [or_imp, forall_and] using And.intro old new
    refine ⟨?_, joined h.states (.inl waiting), ?_, fun d cur n => joined (h.parkedWithUrgent d cur n) waiting⟩
    · rw [drop]
      simpa [or_imp, forall_and] using And.intro h.normals normal
    · rw [drop]
      cases dropped : jobs.dropWhile Job.urgent with
      | nil => simp
      | cons a rest =>
        have first := h.parkedFirst
        rw [dropped] at first
        simpa [or_imp, forall_and] using And.intro first waiting

/-- A queue from which entries are removed stays in order. -/
theorem QueueOrder.filter {jobs : List Job} {c : Option Job} (h : QueueOrder jobs c) (p : Job → Bool) :
    QueueOrder (jobs.filter p) c := by
  have rest {q : Job → Prop} (all : ∀ x ∈ jobs, q x) : ∀ x ∈ jobs.filter p, q x :=
    fun x mem => all x (List.mem_of_mem_filter mem)
  have drop : ((jobs.filter p).dropWhile Job.urgent).Sublist (jobs.dropWhile Job.urgent) := by
    have order := h.normals
    clear h rest
    induction jobs with
    | nil => exact List.Sublist.refl _
    | cons a jobs ih =>
      cases urgent : a.urgent with
      | true =>
        simp only [List.dropWhile_cons, urgent, if_true] at order ⊢
        have ih := ih order
        cases keep : p a <;> simp [keep, urgent, ih]
      | false =>
        have sub := (List.dropWhile_sublist Job.urgent).trans (List.filter_sublist (p := p) (l := a :: jobs))
        simpa [List.dropWhile_cons, urgent] using sub
  refine ⟨fun x mem => h.normals x (drop.subset mem), rest h.states,
    fun x mem => h.parkedFirst x (drop.tail.subset mem), fun d cur n => rest (h.parkedWithUrgent d cur n)⟩

theorem QueueOrder.cons {a : Job} {rest : List Job} {c : Option Job} (h : QueueOrder (a :: rest) c)
    {c' : Job} (same : c'.Same a) : QueueOrder rest (some c') := by
  have states := fun x mem => h.states x (List.mem_cons_of_mem _ mem)
  cases urgent : a.urgent with
  | true =>
    have normals := h.normals
    have parkedFirst := h.parkedFirst
    simp only [List.dropWhile_cons, urgent, if_true] at normals parkedFirst
    refine ⟨normals, states, parkedFirst, fun d cur normal => ?_⟩
    cases cur
    exact absurd (same.urgent.trans urgent) (by simp [normal])
  | false =>
    have normals := h.normals
    have waiting := h.parkedFirst
    simp only [List.dropWhile_cons, urgent, Bool.false_eq_true, if_false, List.tail_cons] at normals waiting
    have dropped := (List.dropWhile_sublist (l := rest) Job.urgent).subset
    exact ⟨fun x mem => normals x (List.mem_cons_of_mem _ (dropped mem)), states,
      fun x mem => waiting x (dropped (List.mem_of_mem_tail mem)), fun _ _ _ => waiting⟩

/-- The NORMAL current job is parked for an URGENT head: it is the only PARKED entry, and stands first among
the NORMAL ones (04 R59, 05 R89). -/
theorem QueueOrder.park {j u u' : Job} {rest : List Job} (h : QueueOrder (u :: rest) (some j))
    (urgent : u.urgent = true) (normal : j.urgent = false) (same : u'.Same u) :
    QueueOrder (insertAfterUrgent { j with state := .parked } rest) (some u') := by
  have waiting : ∀ x ∈ rest, x.state = .waiting :=
    fun x mem => h.parkedWithUrgent j rfl normal x (List.mem_cons_of_mem _ mem)
  have normals := h.normals
  simp only [List.dropWhile_cons, urgent, if_true] at normals
  have parked : Job.urgent { j with state := .parked } = false := normal
  refine ⟨?_, fun x mem => ?_, ?_, fun d cur n => ?_⟩
  · rw [dropWhile_insertAfterUrgent_normal parked]
    simpa [parked] using normals
  · obtain rfl | mem := mem_insertAfterUrgent.1 mem
    · exact .inr ⟨rfl, normal⟩
    · exact .inl (waiting x mem)
  · rw [dropWhile_insertAfterUrgent_normal parked]
    exact fun x mem => waiting x ((List.dropWhile_sublist Job.urgent).subset mem)
  · cases cur
    exact absurd (same.urgent.trans urgent) (by simp [n])

theorem QueueOrder.map {jobs : List Job} {c : Option Job} (h : QueueOrder jobs c) {f : Job → Job}
    (state : ∀ j, (f j).state = j.state) (urgent : ∀ j, (f j).urgent = j.urgent) :
    QueueOrder (jobs.map f) c := by
  have same : Job.urgent ∘ f = Job.urgent := funext urgent
  have drop : (jobs.map f).dropWhile Job.urgent = (jobs.dropWhile Job.urgent).map f := by
    rw [List.dropWhile_map, same]
  refine ⟨?_, ?_, ?_, fun d cur n => ?_⟩
  · simpa [drop, urgent] using h.normals
  · simpa [state, urgent] using h.states
  · simpa [drop, ← List.map_tail, state] using h.parkedFirst
  · simpa [state] using h.parkedWithUrgent d cur n

theorem queueOrder_rules : QueueRules QueueOrder where
  reset := ⟨by simp, by simp, by simp, by simp⟩
  flush _ _ _ := ⟨by simp, by simp, by simp, by simp⟩
  ends _ _ h := ⟨h.normals, h.states, h.parkedFirst, by simp⟩
  plays jobs c c' h same _ :=
    ⟨h.normals, h.states, h.parkedFirst, fun d cur n => by
      cases cur
      exact h.parkedWithUrgent c rfl (same.urgent ▸ n)⟩
  take _ _ _ _ h same _ := h.cons same
  park _ _ _ _ h urgent normal same _ := h.park urgent normal same
  join _ _ _ h _ waiting := h.insertNew waiting
  mark _ _ id reason h := h.map (Job.mark_state id reason) fun j => (Job.mark_same id reason j).urgent
  remove _ _ _ h := h.filter _

/-- Settles O56: the order is a property of the entries of the queue and the current job that keeps the
rules of the blocks. -/
theorem stepKeepsTheOrder : Obligations.StepKeepsTheOrder := by
  intro s t stepped ordered
  rw [State.queueOrdered_iff] at ordered ⊢
  exact queueOrder_rules.kept.step ordered stepped

end Sys2Proof.Machine
end

section
/-! PROOF. The states of the slots: no block but the Code Library and the resets changes them (01 R1). -/

namespace Sys2Proof.Machine

/-- The state of each slot (01 R1). -/
def Library.states (l : Library) (t : Fin 16) : SlotState := l.slots[t].state

/-- The reference count of each slot (01 R7). -/
def Library.refs (l : Library) (t : Fin 16) : Nat := l.slots[t].refs

/-- What a slot holds after one slot of a library has been replaced. -/
theorem Library.set_slot (l : Library) (t u : Fin 16) (slot : Slot) :
    (l.slots.set t slot)[u] = if u = t then slot else l.slots[u] := by
  by_cases same : u = t
  · subst same
    simp
  · have other : t.val ≠ u.val := fun e => same (Fin.ext e.symm)
    simp [same, other]

@[simp] theorem Library.claim_states (t : Fin 16) (l : Library) : (l.claim t).states = l.states :=
  funext fun u => Library.claim_state t u l

@[simp] theorem Library.unclaim_states (t : Fin 16) (l : Library) : (l.unclaim t).states = l.states :=
  funext fun u => Library.unclaim_state t u l

theorem Library.claim_refs (t u : Fin 16) (l : Library) :
    (l.claim t).refs u = if u = t then l.refs u + 1 else l.refs u := by
  rw [Library.refs, Library.claim_slot]
  split <;> rfl

theorem Library.unclaim_refs (t u : Fin 16) (l : Library) :
    (l.unclaim t).refs u = if u = t then l.refs u - 1 else l.refs u := by
  rw [Library.refs, Library.unclaim_slot]
  split <;> rfl

@[simp] theorem Library.flip_states (t : Fin 16) (l : Library) : (l.flip t).states = l.states := by
  funext u
  rw [Library.states, Library.flip, Library.set_slot]
  split
  · next same => subst same; rfl
  · rfl

@[simp] theorem Library.flip_refs (t : Fin 16) (l : Library) : (l.flip t).refs = l.refs := by
  funext u
  rw [Library.refs, Library.flip, Library.set_slot]
  split
  · next same => subst same; rfl
  · rfl

theorem Library.setState_states (t u : Fin 16) (st : SlotState) (l : Library) :
    (l.setState t st).states u = if u = t then st else l.states u := by
  rw [Library.states, Library.setState, Library.set_slot]
  split <;> rfl

@[simp] theorem Library.setState_refs (t : Fin 16) (st : SlotState) (l : Library) :
    (l.setState t st).refs = l.refs := by
  funext u
  rw [Library.refs, Library.setState, Library.set_slot]
  split
  · next same => subst same; rfl
  · rfl

theorem Library.setFresh_states (t u : Fin 16) (st : SlotState) (l : Library) :
    (l.setFresh t st).states u = if u = t then st else l.states u := by
  rw [Library.states, Library.setFresh, Library.set_slot]
  split <;> rfl

@[simp] theorem Library.setFresh_refs (t : Fin 16) (st : SlotState) (l : Library) :
    (l.setFresh t st).refs = l.refs := by
  funext u
  rw [Library.refs, Library.setFresh, Library.set_slot]
  split
  · next same => subst same; rfl
  · rfl

@[simp] theorem Library.mapExpiry_states (f : Timer → Timer) (l : Library) :
    (l.mapExpiry f).states = l.states := rfl

@[simp] theorem Library.mapExpiry_refs (f : Timer → Timer) (l : Library) :
    (l.mapExpiry f).refs = l.refs := rfl

@[simp] theorem Library.claimBinding_states (spec : JobSpec) (l : Library) :
    (l.claimBinding spec).states = l.states := l.claim_states spec.template

@[simp] theorem Library.unclaimBinding_states (old : Option JobSpec) (l : Library) :
    (l.unclaimBinding old).states = l.states := by
  unfold Library.unclaimBinding
  split <;> simp

/-- 01 R17: the slot of an abandoned draft is restored, every other slot stays as it is. -/
theorem Library.abandon_states (l : Library) (u : Fin 16) :
    l.abandon.states u =
      if l.draft.any (fun d => decide (d.slot = u)) then (l.states u).restored else l.states u := by
  unfold Library.abandon
  split
  · next none => simp [none]
  · next d draft =>
    have states : Library.states { l.setState d.slot l.slots[d.slot].state.restored with draft := none } u =
        (l.setState d.slot l.slots[d.slot].state.restored).states u := rfl
    rw [states, Library.setState_states]
    by_cases same : u = d.slot
    · subst same
      simp [draft, Library.states]
    · have other : ¬ d.slot = u := fun e => same e.symm
      simp [draft, same, other]

@[simp] theorem Library.abandon_refs (l : Library) : l.abandon.refs = l.refs := by
  unfold Library.abandon
  split
  · rfl
  · next d draft => exact Library.setState_refs ..

/-! ### The blocks of the jobs and of the keys -/

@[simp] theorem State.flipToggle_states (j : Job) (s : State) :
    (s.flipToggle j).1.lib.states = s.lib.states := by
  unfold State.flipToggle
  (repeat' split) <;> simp

@[simp] theorem State.flipToggle_refs (j : Job) (s : State) :
    (s.flipToggle j).1.lib.refs = s.lib.refs := by
  unfold State.flipToggle
  (repeat' split) <;> simp

@[simp] theorem State.takeJob_refs (j : Job) (s : State) : (s.takeJob j).lib.refs = s.lib.refs := by
  unfold State.takeJob State.beginJob State.startFirst
  split <;> simp

@[simp] theorem State.startFirst_states (j : Job) (s : State) :
    (s.startFirst j).lib.states = s.lib.states := by
  unfold State.startFirst
  simp

@[simp] theorem State.beginJob_states (j : Job) (s : State) :
    (s.beginJob j).lib.states = s.lib.states := by
  unfold State.beginJob
  simp

@[simp] theorem State.resumeJob_states (j : Job) (s : State) :
    (s.resumeJob j).lib.states = s.lib.states := by
  unfold State.resumeJob
  simp

@[simp] theorem State.takeJob_states (j : Job) (s : State) :
    (s.takeJob j).lib.states = s.lib.states := by
  unfold State.takeJob
  (repeat' split) <;> simp

@[simp] theorem State.takeHead_states (s : State) :
    s.takeHead.lib.states = s.lib.states := by
  unfold State.takeHead
  (repeat' split) <;> simp

@[simp] theorem State.takeOrIdle_states (s : State) :
    s.takeOrIdle.lib.states = s.lib.states := by
  unfold State.takeOrIdle
  (repeat' split) <;> simp

@[simp] theorem State.admitted_states (s : State) :
    s.admitted.lib.states = s.lib.states := by
  unfold State.admitted
  (repeat' split) <;> simp

@[simp] theorem State.jobLeaves_states (j : Job) (reason : EndReason) (s : State) :
    (s.jobLeaves j reason).lib.states = s.lib.states := by
  unfold State.jobLeaves
  simp

@[simp] theorem State.endCurrent_states (j : Job) (reason : EndReason) (s : State) :
    (s.endCurrent j reason).lib.states = s.lib.states := by
  unfold State.endCurrent
  simp

@[simp] theorem State.decideAtFrame_states (j : Job) (s : State) :
    (s.decideAtFrame j).lib.states = s.lib.states := by
  unfold State.decideAtFrame
  (repeat' split) <;> simp

@[simp] theorem State.frameEnds_states (j : Job) (p : Position) (s : State) :
    (s.frameEnds j p).lib.states = s.lib.states := by
  unfold State.frameEnds
  simp

@[simp] theorem State.intervalEnds_states (s : State) :
    s.intervalEnds.lib.states = s.lib.states := by
  unfold State.intervalEnds
  (repeat' split) <;> simp

@[simp] theorem State.park_states (j u : Job) (rest : List Job) (s : State) :
    (s.park j u rest).lib.states = s.lib.states := by
  unfold State.park
  simp

@[simp] theorem State.parkOrGoOn_states (j : Job) (s : State) :
    (s.parkOrGoOn j).lib.states = s.lib.states := by
  unfold State.parkOrGoOn
  (repeat' split) <;> simp

@[simp] theorem State.afterSpacingEnd_states (s : State) :
    s.afterSpacingEnd.lib.states = s.lib.states := by
  unfold State.afterSpacingEnd
  (repeat' split) <;> simp

@[simp] theorem State.spacingEnds_states (s : State) :
    s.spacingEnds.lib.states = s.lib.states := by
  unfold State.spacingEnds
  (repeat' split) <;> simp

@[simp] theorem State.cutCurrent_states (s : State) :
    s.cutCurrent.lib.states = s.lib.states := by
  unfold State.cutCurrent
  (repeat' split) <;> simp

@[simp] theorem State.stopEngine_states (s : State) :
    s.stopEngine.lib.states = s.lib.states := by
  unfold State.stopEngine
  (repeat' split) <;> simp

@[simp] theorem State.resumeEngine_states (s : State) :
    s.resumeEngine.lib.states = s.lib.states := by
  unfold State.resumeEngine
  (repeat' split) <;> simp

@[simp] theorem State.enrol_states (source : Source) (spec : JobSpec) (s : State) :
    (s.enrol source spec).lib.states = s.lib.states := by
  unfold State.enrol
  simp

@[simp] theorem State.send_states (spec : JobSpec) (s : State) :
    (s.send spec).1.lib.states = s.lib.states := by
  unfold State.send
  (repeat' split) <;> simp

@[simp] theorem State.removeJob_states (j : Job) (reason : EndReason) (s : State) :
    (s.removeJob j reason).lib.states = s.lib.states := by
  unfold State.removeJob
  simp

@[simp] theorem State.endSoon_states (j : Job) (reason : PendingEnd) (s : State) :
    (s.endSoon j reason).1.lib.states = s.lib.states := by
  unfold State.endSoon
  (repeat' split) <;> simp

@[simp] theorem State.release_states (id : Nat) (s : State) :
    (s.release id).1.lib.states = s.lib.states := by
  unfold State.release
  (repeat' split) <;> simp

@[simp] theorem State.cancel_states (id : Nat) (s : State) :
    (s.cancel id).1.lib.states = s.lib.states := by
  unfold State.cancel
  (repeat' split) <;> simp

@[simp] theorem State.keyRelease_states (k : Fin 8) (id : Nat) (s : State) :
    (s.keyRelease k id).lib.states = s.lib.states := by
  unfold State.keyRelease
  (repeat' split) <;> simp

@[simp] theorem State.holdExpires_states (id : Nat) (s : State) :
    (s.holdExpires id).lib.states = s.lib.states := by
  unfold State.holdExpires
  (repeat' split) <;> simp

@[simp] theorem flushJobs_states (jobs : List Job) (s : State) :
    (flushJobs jobs s).lib.states = s.lib.states := by
  induction jobs generalizing s with
  | nil => rfl
  | cons j rest ih => exact (ih _).trans (by simp)

@[simp] theorem State.flush_states (s : State) :
    s.flush.1.lib.states = s.lib.states := by
  unfold State.flush
  simp

@[simp] theorem State.submitPress_states (k : Fin 8) (s : State) :
    (s.submitPress k).lib.states = s.lib.states := by
  unfold State.submitPress
  (repeat' split) <;> simp

@[simp] theorem State.keyPress_states (k : Fin 8) (s : State) :
    (s.keyPress k).lib.states = s.lib.states := by
  unfold State.keyPress
  simp

@[simp] theorem State.handRelease_states (k : Fin 8) (s : State) :
    (s.handRelease k).lib.states = s.lib.states := by
  unfold State.handRelease
  (repeat' split) <;> simp

@[simp] theorem State.keyReleased_states (k : Fin 8) (s : State) :
    (s.keyReleased k).lib.states = s.lib.states := by
  unfold State.keyReleased
  simp

@[simp] theorem State.debounceExpires_states (k : Fin 8) (s : State) :
    (s.debounceExpires k).lib.states = s.lib.states := by
  unfold State.debounceExpires
  (repeat' split) <;> simp

@[simp] theorem State.bindKey_states (k : Fin 8) (spec : JobSpec) (s : State) :
    (s.bindKey k spec).1.lib.states = s.lib.states := by
  unfold State.bindKey
  (repeat' split) <;> simp

@[simp] theorem State.unbindKey_states (k : Fin 8) (s : State) :
    (s.unbindKey k).1.lib.states = s.lib.states := by
  unfold State.unbindKey
  (repeat' split) <;> simp

/-! ### The requests that change no slot's state -/

theorem Library.states_of_slots {l l' : Library} (same : l.slots = l'.slots) : l.states = l'.states := by
  unfold Library.states
  rw [same]

@[simp] theorem State.tplPut_states (data : Option PartData) (s : State) :
    (s.tplPut data).1.lib.states = s.lib.states := Library.states_of_slots (by simp)

@[simp] theorem State.readDraft_states (t : Fin 16) (p : Part) (s : State) :
    (s.readDraft t p).1.lib.states = s.lib.states := Library.states_of_slots (by simp)

@[simp] theorem State.handlePut_states (payload : List Byte) (s : State) :
    (s.handlePut payload).1.lib.states = s.lib.states := by
  unfold State.handlePut
  (repeat' split) <;> simp [State.badValue]

@[simp] theorem State.handleRead_states (payload : List Byte) (s : State) :
    (s.handleRead payload).1.lib.states = s.lib.states := by
  unfold State.handleRead
  (repeat' split) <;> simp [State.badValue]

@[simp] theorem State.handleSend_states (payload : List Byte) (s : State) :
    (s.handleSend payload).1.lib.states = s.lib.states := by
  unfold State.handleSend
  (repeat' split) <;> simp [State.badValue]

@[simp] theorem State.handleRelease_states (payload : List Byte) (s : State) :
    (s.handleRelease payload).1.lib.states = s.lib.states := by
  unfold State.handleRelease
  (repeat' split) <;> simp [State.badValue]

@[simp] theorem State.handleCancel_states (payload : List Byte) (s : State) :
    (s.handleCancel payload).1.lib.states = s.lib.states := by
  unfold State.handleCancel
  (repeat' split) <;> simp [State.badValue]

@[simp] theorem State.handleStop_states (s : State) :
    s.handleStop.1.lib.states = s.lib.states := by
  unfold State.handleStop
  simp

@[simp] theorem State.handleResume_states (s : State) :
    s.handleResume.1.lib.states = s.lib.states := by
  unfold State.handleResume
  (repeat' split) <;> simp

@[simp] theorem State.handleBind_states (payload : List Byte) (s : State) :
    (s.handleBind payload).1.lib.states = s.lib.states := by
  unfold State.handleBind
  (repeat' split) <;> simp [State.badValue]

@[simp] theorem State.handleUnbind_states (payload : List Byte) (s : State) :
    (s.handleUnbind payload).1.lib.states = s.lib.states := by
  unfold State.handleUnbind
  (repeat' split) <;> simp [State.badValue]

theorem State.draftExpires_lib (s : State) :
    s.draftExpires.lib = s.lib ∨ s.draftExpires.lib = s.lib.abandon := by
  unfold State.draftExpires
  split
  · exact .inl rfl
  · split
    · exact .inr (by simp)
    · exact .inl rfl

@[simp] theorem State.enterDoze_states (s : State) : s.enterDoze.lib.states = s.lib.states := rfl

@[simp] theorem State.delayExpires_states (s : State) : s.delayExpires.lib.states = s.lib.states := by
  unfold State.delayExpires
  split <;> simp

@[simp] theorem State.latencyEnds_states (s : State) : s.latencyEnds.lib.states = s.lib.states := by
  unfold State.latencyEnds State.becomeAwake
  split <;> simp [State.resumeTimers, State.mapTimers]

end Sys2Proof.Machine
end

section
/-! PROOF. The Image Store (10): what a step does to the banks and the operation in progress, and the invariants of
the banks, of the settings and of the definitions. -/

namespace Sys2Proof.Machine

/-! ### What the steps do to the store -/

/-- One change of the store, `img` the image that a save would write (10 R180, R181, R183, R184). -/
inductive Store.Moves (img : Image) (st : Store) : Store → Prop
  | stays : Store.Moves img st st
  | ends : Store.Moves img st { st with op := .idle }
  | saves (done : Nat) : st.highest < 4294967295 → Store.Moves img st
      { st.setBank st.target .invalid with op := .writing st.target (st.highest + 1) done img }
  | completes {target : BankName} {gen done : Nat} {written : Image} :
      st.op = .writing target gen done written →
      Store.Moves img st { st.setBank target (.valid gen written) with op := .idle }
  | wipes (done : Nat) : Store.Moves img st
      { st.setBank st.target .invalid with op := .wiping st.target done false }
  | erases {bank : BankName} {done : Nat} (later : Nat) : st.op = .wiping bank done false →
      Store.Moves img st { st.setBank bank.other .invalid with op := .wiping bank.other later true }

/-- The store of `t` is that of `s`, or has moved on from it. -/
def State.StoreMoves (s t : State) : Prop := s.store.Moves s.image t.store

theorem State.storeMoves_of_eq {s t : State} (same : t.store = s.store) : s.StoreMoves t := by
  rw [State.StoreMoves, same]
  exact .stays

theorem State.save_storeMoves (s : State) : s.StoreMoves s.save.1 := by
  unfold State.save
  split
  · exact .stays
  · split
    · exact .stays
    · exact .stays
    · split
      · exact .stays
      · next below => exact .saves _ (Nat.not_le.1 below)

theorem State.wipe_storeMoves (s : State) : s.StoreMoves s.wipe.1 := by
  unfold State.wipe
  split
  · exact .stays
  · exact .stays
  · exact .wipes _

theorem State.writeCompletes_storeMoves (s : State) : s.StoreMoves s.writeCompletes := by
  unfold State.writeCompletes
  split
  · next writing =>
    split
    · exact .completes writing
    · exact .stays
  · exact .stays
  · exact .stays

theorem State.eraseEnds_storeMoves (s : State) : s.StoreMoves s.eraseEnds := by
  unfold State.eraseEnds
  split
  · next bank done second wiping =>
    split
    · split
      · exact .ends
      · next first =>
        rw [Bool.not_eq_true] at first
        subst first
        exact .erases _ wiping
    · exact .stays
  · exact .stays
  · exact .stays

/-- A save is abandoned (10 R183), or the store stays as it is. -/
def State.StoreStopsOrStays (s t : State) : Prop :=
  t.store = s.store ∨ t.store = { s.store with op := .idle }

theorem State.StoreStopsOrStays.moves {s t : State} (h : s.StoreStopsOrStays t) : s.StoreMoves t := by
  obtain same | stopped := h
  · exact State.storeMoves_of_eq same
  · rw [State.StoreMoves, stopped]
    exact .ends

theorem State.abandonSave_store (s : State) : s.StoreStopsOrStays s.abandonSave := by
  unfold State.abandonSave
  split
  · exact .inr rfl
  · exact .inl rfl
  · exact .inl rfl

theorem State.compareSupply_store (s : State) : s.StoreStopsOrStays s.compareSupply := by
  unfold State.compareSupply
  split
  · exact .inl rfl
  · split
    · exact .inl rfl
    · exact (s.supplyBecomes true).abandonSave_store

theorem State.settingActs_store (i : SettingId) (old : BitVec 8) (s : State) :
    s.StoreStopsOrStays (s.settingActs i old) := by
  cases i
  case supplyThreshold => exact s.compareSupply_store
  case keyEnable => exact .inl (by simp [State.settingActs])
  case rxEnable =>
    change s.StoreStopsOrStays (if s.settings.rxEnable then s.receiverOn else s.receiverOff)
    split <;> exact .inl (by simp)
  case rxPolarity => exact .inl (by simp [State.settingActs])
  case rxBlank => exact .inl (by simp [State.settingActs])
  all_goals exact .inl rfl

theorem State.setSetting_store (id : Byte) (v : Nat) (s : State) :
    s.StoreStopsOrStays (s.setSetting id v).1 := by
  unfold State.setSetting State.putSetting
  (repeat' split) <;> try exact .inl rfl
  exact State.settingActs_store ..

theorem State.latencyEnds_store (s : State) : s.StoreStopsOrStays s.latencyEnds := by
  unfold State.latencyEnds State.becomeAwake
  split
  · next byRxin _ =>
    have same : (s.resumeTimers.receiverWakes byRxin).store = s.store := by simp
    simpa [State.StoreStopsOrStays, same] using (s.resumeTimers.receiverWakes byRxin).compareSupply_store
  all_goals exact .inl rfl

theorem State.handleSet_store (payload : List Byte) (s : State) :
    s.StoreStopsOrStays (s.handleSet payload).1 := by
  unfold State.handleSet
  split
  · exact State.setSetting_store ..
  · exact .inl rfl

theorem State.dispatch_storeMoves (k : RequestKind) (payload : List Byte) (s : State) :
    s.StoreMoves (s.dispatch k payload).1 := by
  cases k
  case set => exact (s.handleSet_store payload).moves
  case save => exact s.save_storeMoves
  case wipe => exact s.wipe_storeMoves
  all_goals exact State.storeMoves_of_eq (by simp [State.dispatch])

theorem State.hardReset_store (reason : ResetReason) (strap : Bool) (s : State) :
    (s.hardReset reason strap).store = { s.store with op := .idle } := by
  simp [State.hardReset, State.endStoreOp]

/-- A property of the store that its changes keep is kept by every step. -/
theorem Store.kept {P : Store → Prop} (closed : ∀ img st st', Store.Moves img st st' → P st → P st') :
    Kept fun s => P s.store where
  pending _ _ h := h
  clock _ _ h := h
  delay _ _ h := h
  link _ _ h _ := h
  dispatch s k payload h _ := closed _ _ _ (s.dispatch_storeMoves k payload) h
  softReset _ _ h _ := by simpa using h
  hardReset s reason strap h := by
    rw [State.hardReset_store]
    exact closed s.image _ _ .ends h
  setVdd _ _ h := h
  setReset _ _ h := h
  compareSupply s h _ := closed _ _ _ s.compareSupply_store.moves h
  writeCompletes s h _ := closed _ _ _ s.writeCompletes_storeMoves h
  eraseEnds s h _ := closed _ _ _ s.eraseEnds_storeMoves h
  draftExpires _ h _ := by simpa using h
  intervalEnds _ h _ := by simpa using h
  spacingEnds _ h _ := by simpa using h
  holdExpires _ _ h _ := by simpa using h
  tailExpires _ h _ := by simpa using h
  setKeyLine _ _ _ h := h
  keyLineChanges _ _ _ h := by simpa using h
  debounceExpires _ _ h _ := by simpa using h
  setRxinLine _ _ h := h
  rxinChanges _ _ h := by simpa using h
  confirmGlitch _ h _ := by simpa using h
  burstEnds _ h _ := by simpa using h
  markTooLong _ h _ := by simpa using h
  blankTailExpires _ h _ := by simpa using h
  matchingEnds _ h _ := by simpa using h
  windowExpires _ h _ := by simpa using h
  learnExpires _ h _ := by simpa using h
  delayExpires _ h _ := by simpa using h
  wake _ _ _ h := by simpa using h
  latencyEnds s h := closed _ _ _ s.latencyEnds_store.moves h

/-! ### The banks (10 R178, R180, R184) -/

/-- 10 R178: the generations run from 1 to 4,294,967,295 and differ; a bank under change is INVALID. -/
def Store.Sound (st : Store) : Prop :=
  st.bankA.generation ≤ 4294967295 ∧ st.bankB.generation ≤ 4294967295
    ∧ (st.bankA ≠ .invalid → 1 ≤ st.bankA.generation)
    ∧ (st.bankB ≠ .invalid → 1 ≤ st.bankB.generation)
    ∧ (st.bankA ≠ .invalid → st.bankA.generation ≠ st.bankB.generation)
    ∧ (match st.op with
      | .idle => True
      | .writing target gen _ _ =>
        st.bank target = .invalid ∧ gen = st.highest + 1 ∧ gen ≤ 4294967295
      | .wiping bank _ second =>
        st.bank bank = .invalid ∧ (second = true → st.bank bank.other = .invalid))

/-- With one bank INVALID, the other one holds the highest generation. -/
theorem Store.highest_of_invalid {st : Store} {n : BankName} (empty : st.bank n = .invalid) :
    st.highest = (st.bank n.other).generation := by
  obtain ⟨bankA, bankB, op⟩ := st
  cases n <;> simp only [Store.bank] at empty <;> subst empty
  · cases bankB <;> rfl
  · cases bankA <;> rfl

/-- The bank that a save or a wipe spares holds the highest generation (10 R180, R184). -/
theorem Store.generation_other_target (st : Store) :
    (st.bank st.target.other).generation = st.highest := by
  obtain ⟨bankA, bankB, op⟩ := st
  cases bankA with
  | invalid => cases bankB <;> rfl
  | valid genA _ =>
    cases bankB with
    | invalid => rfl
    | valid genB _ =>
      by_cases later : genA < genB <;> simp [Store.target, Store.highest, Store.newest, later] <;> rfl

/-- 10 R178: what the generation of a bank keeps to, next to the generation of the other bank. -/
def Bank.SoundBeside (b other : Bank) : Prop :=
  b.generation ≤ 4294967295 ∧ (b ≠ .invalid → 1 ≤ b.generation)
    ∧ (b ≠ .invalid → b.generation ≠ other.generation)

theorem Bank.soundBeside_invalid (other : Bank) : Bank.SoundBeside .invalid other :=
  ⟨Nat.zero_le _, fun h => absurd rfl h, fun h => absurd rfl h⟩

theorem Bank.SoundBeside.invalid {b other : Bank} (h : b.SoundBeside other) : b.SoundBeside .invalid :=
  ⟨h.1, h.2.1, fun valid => Nat.ne_of_gt (h.2.1 valid)⟩

theorem Bank.soundBeside_valid {gen : Nat} {img : Image} {other : Bank} (next : other.generation < gen)
    (last : gen ≤ 4294967295) : Bank.SoundBeside (.valid gen img) other :=
  ⟨last, fun _ => Nat.lt_of_le_of_lt (Nat.zero_le _) next, fun _ => Nat.ne_of_gt next⟩

theorem Bank.SoundBeside.other_ne {b other : Bank} (h : b.SoundBeside other) (valid : b ≠ .invalid) :
    other.generation ≠ b.generation := (h.2.2 valid).symm

/-- What a store under change keeps to (10 R180, R184). -/
def Store.ChangeSound (st : Store) : Prop :=
  match st.op with
  | .idle => True
  | .writing target gen _ _ => st.bank target = .invalid ∧ gen = st.highest + 1 ∧ gen ≤ 4294967295
  | .wiping bank _ second =>
    st.bank bank = .invalid ∧ (second = true → st.bank bank.other = .invalid)

theorem Store.sound_iff (st : Store) :
    st.Sound ↔ (∀ n, (st.bank n).SoundBeside (st.bank n.other)) ∧ st.ChangeSound := by
  constructor
  · rintro ⟨lastA, lastB, firstA, firstB, differ, change⟩
    refine ⟨fun n => ?_, change⟩
    cases n
    · exact ⟨lastA, firstA, differ⟩
    · refine ⟨lastB, firstB, fun valid same => ?_⟩
      by_cases other : st.bankA = .invalid
      · have first := firstB valid
        have zero : st.bankB.generation = 0 := same.trans (by simp [BankName.other, Store.bank, other, Bank.generation])
        omega
      · exact differ other same.symm
  · rintro ⟨beside, change⟩
    obtain ⟨lastA, firstA, differ⟩ := beside .a
    obtain ⟨lastB, firstB, -⟩ := beside .b
    exact ⟨lastA, lastB, firstA, firstB, differ, change⟩

theorem Store.bank_setBank (st : Store) (n : BankName) (b : Bank) (op : StoreOp) :
    Store.bank { st.setBank n b with op := op } n = b
      ∧ Store.bank { st.setBank n b with op := op } n.other = st.bank n.other := by
  cases n <;> exact ⟨rfl, rfl⟩

@[simp] theorem BankName.other_other (n : BankName) : n.other.other = n := by
  cases n <;> rfl

theorem BankName.forall_iff {P : BankName → Prop} (n : BankName) : (∀ m, P m) ↔ P n ∧ P n.other := by
  cases n <;> exact ⟨fun h => ⟨h _, h _⟩, fun ⟨x, y⟩ m => by cases m <;> assumption⟩

/-- A store in which one bank has been replaced. -/
theorem Store.sound_setBank {st : Store} {n : BankName} {b : Bank} {op : StoreOp}
    (new : b.SoundBeside (st.bank n.other)) (old : (st.bank n.other).SoundBeside b)
    (change : Store.ChangeSound { st.setBank n b with op := op }) :
    Store.Sound { st.setBank n b with op := op } := by
  obtain ⟨same, other⟩ := st.bank_setBank n b op
  rw [Store.sound_iff, BankName.forall_iff n, BankName.other_other, same, other]
  exact ⟨⟨new, old⟩, change⟩

/-- A store in which one bank has been made INVALID. -/
theorem Store.sound_setInvalid {st : Store} (sound : st.Sound) {n : BankName} {op : StoreOp}
    (change : Store.ChangeSound { st.setBank n .invalid with op := op }) :
    Store.Sound { st.setBank n .invalid with op := op } :=
  Store.sound_setBank (Bank.soundBeside_invalid _) ((st.sound_iff.1 sound).1 n.other).invalid change

/-- Every change of the store keeps the banks sound. -/
theorem Store.Sound.moves {img : Image} {st st' : Store} (sound : st.Sound) (moves : st.Moves img st') :
    st'.Sound := by
  have change := (st.sound_iff.1 sound).2
  cases moves with
  | stays => exact sound
  | ends => exact (Store.sound_iff _).2 ⟨(st.sound_iff.1 sound).1, trivial⟩
  | saves done below =>
    refine Store.sound_setInvalid sound ⟨(st.bank_setBank ..).1, ?_, below⟩
    rw [Store.highest_of_invalid (st.bank_setBank st.target .invalid _).1, (st.bank_setBank ..).2,
      Store.generation_other_target]
  | @completes target gen done written writing =>
    obtain ⟨empty, next, last⟩ : _ ∧ _ ∧ _ := by simpa [Store.ChangeSound, writing] using change
    have above : (st.bank target.other).generation < gen := by
      rw [next, Store.highest_of_invalid empty]
      exact Nat.lt_succ_self _
    have other := (st.sound_iff.1 sound).1 target.other
    exact Store.sound_setBank (Bank.soundBeside_valid above last)
      ⟨other.1, other.2.1, fun _ => Nat.ne_of_lt above⟩ trivial
  | wipes done => exact Store.sound_setInvalid sound ⟨(st.bank_setBank ..).1, nofun⟩
  | @erases bank done later wiping =>
    have empty : st.bank bank = .invalid := by simpa [Store.ChangeSound, wiping] using change
    refine Store.sound_setInvalid sound ⟨(st.bank_setBank ..).1, fun _ => ?_⟩
    rw [(st.bank_setBank ..).2, BankName.other_other]
    exact empty

theorem State.banksSound_kept : Kept State.BanksSound := Store.kept fun _ _ _ moves sound =>
  Store.Sound.moves sound moves

/-! ### The images of the store -/

/-- Every image of the store, the one being written among them, has a property. -/
def Store.All (P : Image → Prop) (st : Store) : Prop :=
  (∀ img ∈ st.bankA.image, P img) ∧ (∀ img ∈ st.bankB.image, P img)
    ∧ (match st.op with
      | .writing _ _ _ img => P img
      | .idle | .wiping .. => True)

/-- What a store under change writes has the property. -/
def StoreOp.All (P : Image → Prop) (op : StoreOp) : Prop :=
  match op with
  | .writing _ _ _ img => P img
  | .idle | .wiping .. => True

theorem Store.all_iff {P : Image → Prop} (st : Store) :
    st.All P ↔ (∀ n, ∀ img ∈ (st.bank n).image, P img) ∧ st.op.All P :=
  ⟨fun ⟨a, b, op⟩ => ⟨fun n => by cases n <;> assumption, op⟩, fun ⟨banks, op⟩ => ⟨banks .a, banks .b, op⟩⟩

theorem Store.all_setBank {P : Image → Prop} {st : Store} (all : st.All P) {n : BankName} {b : Bank}
    {op : StoreOp} (new : ∀ img ∈ b.image, P img) (change : op.All P) :
    Store.All P { st.setBank n b with op := op } := by
  obtain ⟨same, other⟩ := st.bank_setBank n b op
  rw [Store.all_iff, BankName.forall_iff n, same, other]
  exact ⟨⟨new, (st.all_iff.1 all).1 _⟩, change⟩

/-- An image that is written has been the working image. -/
theorem Store.All.moves {P : Image → Prop} {img : Image} {st st' : Store} (all : st.All P) (now : P img)
    (moves : st.Moves img st') : st'.All P := by
  have none : ∀ img ∈ Bank.invalid.image, P img := by simp [Bank.image]
  have change := (st.all_iff.1 all).2
  cases moves with
  | stays => exact all
  | ends => exact (Store.all_iff _).2 ⟨(st.all_iff.1 all).1, trivial⟩
  | saves => exact Store.all_setBank all none now
  | completes writing =>
    rw [writing] at change
    exact Store.all_setBank all (by simpa [Bank.image, StoreOp.All] using change) trivial
  | wipes => exact Store.all_setBank all none trivial
  | erases => exact Store.all_setBank all none trivial

/-- The image that a reset takes is one of the store or the blank one (10 R179). -/
theorem Store.All.boot {P : Image → Prop} {st : Store} (all : st.All P) (blank : P Image.blank) :
    P st.boot.1 := by
  unfold Store.boot Store.loaded
  split
  · next loaded =>
    split at loaded
    · contradiction
    · split at loaded
      · next image =>
        cases loaded
        exact (st.all_iff.1 all).1 _ _ image
      · contradiction
  · exact blank

/-! ### The settings (09 R176) -/

/-- The values that a line setting carries (03 R49). -/
theorem lineSettingOf_value {v : Nat} (h : lineValueOk v = true) : (lineSettingOf v).value = v := by
  obtain ⟨b0, b1, b2, b3⟩ := of_decide_eq_true h
  have bit {n : Nat} (small : n ≤ 1) : (decide (n = 1)).toNat = n := by
    interval_cases n <;> rfl
  simp only [LineSetting.value, lineSettingOf, bit b0, bit b1, bit b2]
  omega

/-- A setting that has been put reads back. -/
theorem Settings.get_put_self (c : Settings) {i : SettingId} {v : Nat} (h : i.inRange v = true) :
    (c.put i v).get i = v := by
  have flag (small : decide (v ≤ 1) = true) : (decide (v = 1)).toNat = v := by
    have small := of_decide_eq_true small
    interval_cases v <;> rfl
  cases i
  case keyEnable => exact Nat.mod_eq_of_lt (Nat.lt_succ_of_le (of_decide_eq_true h))
  case lineE0 => exact lineSettingOf_value h
  case lineE1 => exact lineSettingOf_value h
  case lineE2 => exact lineSettingOf_value h
  case keyReport => exact flag h
  case rxEnable => exact flag h
  case rxPolarity => exact flag h
  case rxBlank => exact flag h
  case rxReportRepeats => exact flag h
  case rxReportUnknown => exact flag h
  case rxWake => exact flag h
  case doze => exact flag h
  all_goals rfl

/-- Every other setting is as before. -/
theorem Settings.get_put_other (c : Settings) {i j : SettingId} (other : j ≠ i) (v : Nat) :
    (c.put i v).get j = c.get j := by
  cases i <;> cases j <;> first | rfl | contradiction

theorem Settings.InRange.put {c : Settings} (ok : c.InRange) {i : SettingId} {v : Nat}
    (h : i.inRange v = true) : (c.put i v).InRange := by
  intro j
  by_cases same : j = i
  · subst same
    rwa [c.get_put_self h]
  · rw [c.get_put_other same]
    exact ok j

theorem Settings.defaults_inRange : Settings.defaults.InRange := by
  intro i
  cases i <;> decide

/-- 09 R176: what a SET does to the settings: nothing, or one setting takes a value in its range. -/
theorem State.setSetting_settings (id : Byte) (v : Nat) (s : State) :
    (s.setSetting id v).1.settings = s.settings
      ∨ ∃ i : SettingId, i.inRange v = true ∧ (s.setSetting id v).1.settings = s.settings.put i v := by
  unfold State.setSetting State.putSetting
  split
  · exact .inl rfl
  · next i _ =>
    split
    · exact .inl rfl
    · next ok =>
      (repeat' split) <;> try exact .inl rfl
      refine .inr ⟨i, by simpa using ok, ?_⟩
      cases i
      case rxEnable =>
        change (if _ then State.receiverOn _ else State.receiverOff _).settings = _
        split <;> simp
      all_goals simp [State.settingActs]

theorem State.dispatch_settings (k : RequestKind) (payload : List Byte) {s : State}
    (ok : s.settings.InRange) : (s.dispatch k payload).1.settings.InRange := by
  cases k
  case set =>
    change (s.handleSet payload).1.settings.InRange
    unfold State.handleSet
    split
    · next id b0 b1 b2 b3 =>
      obtain same | ⟨i, range, put⟩ := s.setSetting_settings id (word32 b0 b1 b2 b3)
      · rwa [same]
      · rw [put]
        exact ok.put range
    · exact ok
  all_goals simpa [State.dispatch] using ok

/-- A property of the working state that an image takes along, with every image of the store. -/
def State.WithImages (P : State → Prop) (Q : Image → Prop) (s : State) : Prop := P s ∧ s.store.All Q

theorem State.WithImages.moves {P : State → Prop} {Q : Image → Prop} {s t : State}
    (h : s.WithImages P Q) (image : P s → Q s.image) (new : P t) (moves : s.StoreMoves t) :
    t.WithImages P Q :=
  ⟨new, h.2.moves (image h.1) moves⟩

theorem State.hardReset_settings (reason : ResetReason) (strap : Bool) (s : State) :
    (s.hardReset reason strap).settings = s.store.boot.1.settings := by
  simp [State.hardReset, State.load, State.blocksReset]

theorem State.softReset_settings (strap : Bool) (s : State) :
    (s.softReset strap).settings = s.settings := by
  simp [State.softReset, State.blocksReset]

/-- The settings of the part and of every image are in their ranges. -/
def State.SettingsOk : State → Prop := State.WithImages (fun s => s.settings.InRange) fun img => img.settings.InRange

theorem State.SettingsOk.moves {s t : State} (h : s.SettingsOk) (same : t.settings = s.settings)
    (moves : s.StoreMoves t) : t.SettingsOk :=
  State.WithImages.moves h id (by simpa [same] using h.1) moves

theorem State.SettingsOk.same {s t : State} (h : s.SettingsOk) (settings : t.settings = s.settings)
    (store : t.store = s.store) : t.SettingsOk := h.moves settings (State.storeMoves_of_eq store)

theorem State.SettingsOk.hardReset {s : State} (h : s.SettingsOk) (reason : ResetReason) (strap : Bool) :
    (s.hardReset reason strap).SettingsOk := by
  have booted : s.store.boot.1.settings.InRange := h.2.boot Settings.defaults_inRange
  refine ⟨by simpa [State.hardReset_settings] using booted, ?_⟩
  rw [State.hardReset_store]
  exact h.2.moves (img := s.image) h.1 .ends

theorem State.settingsOk_kept : Kept State.SettingsOk where
  pending _ _ h := h
  clock _ _ h := h
  delay _ _ h := h
  link _ _ h _ := h
  dispatch s k payload h _ :=
    State.WithImages.moves h id (State.dispatch_settings k payload h.1) (s.dispatch_storeMoves k payload)
  softReset s strap h _ := h.same (s.softReset_settings strap) (by simp)
  hardReset _ reason strap h := h.hardReset reason strap
  setVdd _ _ h := h
  setReset _ _ h := h
  compareSupply s h _ := h.moves (by simp) s.compareSupply_store.moves
  writeCompletes s h _ := h.moves (by simp) s.writeCompletes_storeMoves
  eraseEnds s h _ := h.moves (by simp) s.eraseEnds_storeMoves
  draftExpires _ h _ := h.same (by simp) (by simp)
  intervalEnds _ h _ := h.same (by simp) (by simp)
  spacingEnds _ h _ := h.same (by simp) (by simp)
  holdExpires _ _ h _ := h.same (by simp) (by simp)
  tailExpires _ h _ := h.same (by simp) (by simp)
  setKeyLine _ _ _ h := h
  keyLineChanges _ _ _ h := h.same (by simp) (by simp)
  debounceExpires _ _ h _ := h.same (by simp) (by simp)
  setRxinLine _ _ h := h
  rxinChanges _ _ h := h.same (by simp) (by simp)
  confirmGlitch _ h _ := h.same (by simp) (by simp)
  burstEnds _ h _ := h.same (by simp) (by simp)
  markTooLong _ h _ := h.same (by simp) (by simp)
  blankTailExpires _ h _ := h.same (by simp) (by simp)
  matchingEnds _ h _ := h.same (by simp) (by simp)
  windowExpires _ h _ := h.same (by simp) (by simp)
  learnExpires _ h _ := h.same (by simp) (by simp)
  delayExpires _ h _ := h.same (by simp) (by simp)
  wake _ _ _ h := h.same (by simp) (by simp)
  latencyEnds s h := h.moves (by simp) s.latencyEnds_store.moves

/-! ### The definitions (01 R14, R16) -/

/-- Every definition that a library holds has passed the commit. -/
def Library.Committed (l : Library) : Prop := ∀ t, ∀ d ∈ (l.states t).definition, d.Committed

def State.DefinitionsOk : State → Prop := State.WithImages (fun s => s.lib.Committed) Image.Committed

theorem State.image_committed {s : State} (h : s.lib.Committed) : s.image.Committed := by
  intro t d mem
  exact h t d (by simpa [State.image, Library.states] using mem)

theorem Library.Committed.of_states {l l' : Library} (h : l.Committed) (same : l'.states = l.states) :
    l'.Committed := by
  intro t d mem
  rw [same] at mem
  exact h t d mem

/-- A slot takes a new state that holds no definition but a committed one. -/
theorem Library.Committed.replaced {l l' : Library} (h : l.Committed) {t : Fin 16} {st : SlotState}
    (new : ∀ d ∈ st.definition, d.Committed)
    (states : ∀ u, l'.states u = if u = t then st else l.states u) : l'.Committed := by
  intro u d mem
  rw [states] at mem
  split at mem
  · exact new d mem
  · exact h u d mem

theorem SlotState.restored_definition (st : SlotState) : st.restored.definition = st.definition := by
  cases st <;> rfl

theorem Library.Committed.abandon {l : Library} (h : l.Committed) : l.abandon.Committed := by
  intro u d mem
  rw [Library.abandon_states] at mem
  split at mem
  · exact h u d (by rwa [SlotState.restored_definition] at mem)
  · exact h u d mem

theorem State.openDraft_states (t u : Fin 16) (mode : DraftMode) (work : Template) (st : SlotState)
    (s : State) : (s.openDraft t mode work st).lib.states u = if u = t then st else s.lib.states u :=
  Library.setState_states t u st s.lib

theorem State.install_states (d : Draft) (u : Fin 16) (s : State) :
    (s.install d).lib.states u = if u = d.slot then .ready d.work else s.lib.states u :=
  Library.setFresh_states d.slot u (.ready d.work) s.lib

/-- 01 R9: what TPL_OPEN does to the library: nothing, or the draft of a NEW slot or of a READY one. -/
theorem State.tplOpen_cases (t : Fin 16) (mode : DraftMode) (s : State) :
    (s.tplOpen t mode).1 = s
      ∨ (s.lib.draft = none ∧ s.lib.states t = .empty
          ∧ (s.tplOpen t mode).1 = s.openDraft t .new newDraft .draft)
      ∨ ∃ d, s.lib.draft = none ∧ s.lib.states t = .ready d ∧ s.lib.refs t = 0
          ∧ (s.tplOpen t mode).1 = (s.slotLeavesReady t).openDraft t .revise d (.revising d) := by
  unfold State.tplOpen
  split
  · exact .inl rfl
  · split
    · exact .inl rfl
    · next free =>
      have free : s.lib.draft = none := by simpa using free
      split
      · next empty => exact .inr (.inl ⟨free, empty, rfl⟩)
      · next d ready =>
        split
        · exact .inl rfl
        · next unused => exact .inr (.inr ⟨d, free, ready, not_not.1 unused, rfl⟩)
      · exact .inl rfl

/-- 01 R19: what TPL_ERASE does: nothing, or a READY slot that nothing uses becomes EMPTY. -/
theorem State.tplErase_cases (t : Fin 16) (s : State) :
    (s.tplErase t).1 = s
      ∨ ∃ d, s.lib.states t = .ready d ∧ s.lib.refs t = 0
          ∧ (s.tplErase t).1 =
              { s.slotLeavesReady t with lib := (s.slotLeavesReady t).lib.setFresh t .empty } := by
  unfold State.tplErase
  split
  · exact .inl rfl
  · split
    · next d ready =>
      split
      · exact .inl rfl
      · next unused => exact .inr ⟨d, ready, not_not.1 unused, rfl⟩
    all_goals exact .inl rfl

/-- 01 R14, R16: what TPL_COMMIT does: nothing, or a draft that has passed is installed. -/
theorem State.tplCommit_cases (s : State) :
    s.tplCommit.1 = s
      ∨ ∃ d, s.lib.draft = some d ∧ d.work.Committed ∧ s.tplCommit.1 = s.install d := by
  unfold State.tplCommit
  split
  · exact .inl rfl
  · split
    · exact .inl rfl
    · next d draft =>
      split
      · exact .inl rfl
      · next valid => exact .inr ⟨d, draft, valid, rfl⟩

/-- 01 R17: what TPL_ABORT does. -/
theorem State.tplAbort_cases (s : State) :
    s.tplAbort.1 = s ∨ s.tplAbort.1 = { s with lib := s.lib.abandon } := by
  unfold State.tplAbort
  split
  · exact .inl rfl
  · exact .inr rfl

theorem State.dispatch_committed (k : RequestKind) (payload : List Byte) {s : State}
    (h : s.lib.Committed) : (s.dispatch k payload).1.lib.Committed := by
  have same {t : State} (states : t.lib.states = s.lib.states) : t.lib.Committed := h.of_states states
  cases k
  case tplOpen =>
    change (s.handleOpen payload).1.lib.Committed
    unfold State.handleOpen
    (repeat' split) <;> try exact h
    next t mode _ _ =>
    obtain e | ⟨-, -, e⟩ | ⟨d, -, ready, -, e⟩ := s.tplOpen_cases t mode
    · rwa [e]
    · rw [e]
      exact h.replaced (by simp [SlotState.definition]) fun u => State.openDraft_states ..
    · rw [e]
      have kept : d.Committed := h t d (by simp [ready, SlotState.definition])
      refine h.replaced (t := t) (st := .revising d) (by simpa [SlotState.definition] using kept) fun u => ?_
      simpa using State.openDraft_states t u .revise d (.revising d) (s.slotLeavesReady t)
  case tplErase =>
    change (s.handleErase payload).1.lib.Committed
    unfold State.handleErase
    (repeat' split) <;> try exact h
    next t _ =>
    obtain e | ⟨d, -, -, e⟩ := s.tplErase_cases t
    · rwa [e]
    · rw [e]
      refine h.replaced (t := t) (st := .empty) (by simp [SlotState.definition]) fun u => ?_
      simpa using Library.setFresh_states t u .empty (s.slotLeavesReady t).lib
  case tplCommit =>
    obtain e | ⟨d, -, valid, e⟩ := s.tplCommit_cases
    · rwa [State.dispatch, e]
    · rw [State.dispatch, e]
      exact h.replaced (by simpa [SlotState.definition] using valid) fun u => State.install_states ..
  case tplAbort =>
    obtain e | e := s.tplAbort_cases
    · rwa [State.dispatch, e]
    · rw [State.dispatch, e]
      exact h.abandon
  all_goals exact same (by simp [State.dispatch])

theorem Library.afterReset_states (slots : Vector SlotState 16) (bindings : Vector (Option JobSpec) 8)
    (t : Fin 16) : (Library.afterReset slots bindings).states t = slots[t] := by
  simp [Library.states, Library.afterReset]

/-- 10 R178: the slots of a loaded image. -/
theorem State.load_states (img : Image) (strap : Bool) (s : State) (t : Fin 16) :
    (s.load img strap).lib.states t = slotLoaded img.slots[t] :=
  (Library.afterReset_states ..).trans (by simp)

theorem slotLoaded_definition (stored : Option Template) : (slotLoaded stored).definition = stored := by
  cases stored <;> rfl

theorem State.load_committed {img : Image} (ok : img.Committed) (strap : Bool) (s : State) :
    (s.load img strap).lib.Committed := by
  intro t d mem
  rw [State.load_states, slotLoaded_definition] at mem
  exact ok t d mem

theorem State.softReset_states (strap : Bool) (s : State) :
    (s.softReset strap).lib.states = s.lib.abandon.states := by
  funext t
  have kept := Library.afterReset_states (Vector.ofFn fun t : Fin 16 => s.lib.abandon.slots[t].state)
    (Vector.ofFn fun k : Fin 8 => s.keys[k].binding) t
  simpa [State.softReset, State.blocksReset, Library.states] using kept

theorem State.DefinitionsOk.moves {s t : State} (h : s.DefinitionsOk) (same : t.lib.states = s.lib.states)
    (moves : s.StoreMoves t) : t.DefinitionsOk :=
  State.WithImages.moves h State.image_committed (h.1.of_states same) moves

theorem State.DefinitionsOk.same {s t : State} (h : s.DefinitionsOk) (states : t.lib.states = s.lib.states)
    (store : t.store = s.store) : t.DefinitionsOk := h.moves states (State.storeMoves_of_eq store)

theorem Image.blank_committed : Image.blank.Committed := by
  intro t d mem
  simp [Image.blank] at mem

theorem State.DefinitionsOk.hardReset {s : State} (h : s.DefinitionsOk) (reason : ResetReason)
    (strap : Bool) : (s.hardReset reason strap).DefinitionsOk := by
  have booted : s.store.boot.1.Committed := h.2.boot Image.blank_committed
  refine ⟨by simpa [State.hardReset] using State.load_committed booted strap s.endStoreOp, ?_⟩
  rw [State.hardReset_store]
  exact h.2.moves (State.image_committed h.1) .ends

theorem State.definitionsOk_kept : Kept State.DefinitionsOk where
  pending _ _ h := h
  clock _ _ h := h
  delay _ _ h := h
  link _ _ h _ := h
  dispatch s k payload h _ :=
    State.WithImages.moves h State.image_committed (State.dispatch_committed k payload h.1)
      (s.dispatch_storeMoves k payload)
  softReset s strap h _ :=
    State.WithImages.moves h State.image_committed
      (h.1.abandon.of_states (s.softReset_states strap)) (State.storeMoves_of_eq (by simp))
  hardReset _ reason strap h := h.hardReset reason strap
  setVdd _ _ h := h
  setReset _ _ h := h
  compareSupply s h _ := h.moves (by simp) s.compareSupply_store.moves
  writeCompletes s h _ := h.moves (by simp) s.writeCompletes_storeMoves
  eraseEnds s h _ := h.moves (by simp) s.eraseEnds_storeMoves
  draftExpires s h _ := by
    obtain same | abandoned := s.draftExpires_lib
    · exact h.same (by rw [same]) (by simp)
    · exact State.WithImages.moves h State.image_committed
        (h.1.abandon.of_states (by rw [abandoned])) (State.storeMoves_of_eq (by simp))
  intervalEnds _ h _ := h.same (by simp) (by simp)
  spacingEnds _ h _ := h.same (by simp) (by simp)
  holdExpires _ _ h _ := h.same (by simp) (by simp)
  tailExpires _ h _ := h.same (by simp) (by simp)
  setKeyLine _ _ _ h := h
  keyLineChanges _ _ _ h := h.same (by simp) (by simp)
  debounceExpires _ _ h _ := h.same (by simp) (by simp)
  setRxinLine _ _ h := h
  rxinChanges _ _ h := h.same (by simp) (by simp)
  confirmGlitch _ h _ := h.same (by simp) (by simp)
  burstEnds _ h _ := h.same (by simp) (by simp)
  markTooLong _ h _ := h.same (by simp) (by simp)
  blankTailExpires _ h _ := h.same (by simp) (by simp)
  matchingEnds _ h _ := h.same (by simp) (by simp)
  windowExpires _ h _ := h.same (by simp) (by simp)
  learnExpires _ h _ := h.same (by simp) (by simp)
  delayExpires s h _ := h.same (s.delayExpires_states) (by simp)
  wake _ _ _ h := h.same (by simp) (by simp)
  latencyEnds s h := h.moves (s.latencyEnds_states) s.latencyEnds_store.moves

/-- Settles O59: three invariants of the images and of the working state that they take along. -/
theorem stepKeepsTheImages : Obligations.StepKeepsTheImages := by
  intro s t stepped
  refine ⟨fun sound => State.banksSound_kept.step sound stepped, fun ⟨working, store⟩ => ?_,
    fun ⟨working, store⟩ => ?_⟩
  · exact State.settingsOk_kept.step (P := State.SettingsOk) ⟨working, store⟩ stepped
  · exact State.definitionsOk_kept.step (P := State.DefinitionsOk) ⟨working, store⟩ stepped

end Sys2Proof.Machine
end

section
/-! PROOF. The books of the jobs (01 R7, 04 R57, R63, R74, 05 R79, 06 R114): job ids, reference counts and the
live job ids of the keys. -/

namespace Sys2Proof.Machine

/-! ### The engine -/

/-- 05 R79, R80: the engine agrees with itself. -/
def Engine.Coherent (e : Engine) : Prop :=
  (e.state = .emitting → e.current.isSome ∧ e.position.isSome)
    ∧ (e.state = .idle ∨ e.state = .stopped → e.current = none)
    ∧ e.emitting = decide (e.state = .emitting)

theorem Engine.coherent_emitting {e : Engine} (state : e.state = .emitting) (current : e.current.isSome)
    (position : e.position.isSome) (emits : e.emitting = true) : e.Coherent :=
  ⟨fun _ => ⟨current, position⟩, by simp [state], by simp [state, emits]⟩

theorem Engine.coherent_spacing {e : Engine} (state : e.state = .spacing) (still : e.emitting = false) :
    e.Coherent := ⟨by simp [state], by simp [state], by simp [state, still]⟩

theorem Engine.coherent_without {e : Engine} (state : e.state ≠ .emitting) (current : e.current = none)
    (still : e.emitting = false) : e.Coherent :=
  ⟨fun h => absurd h state, fun _ => current, by simp [state, still]⟩

theorem Engine.Coherent.still {e : Engine} (h : e.Coherent) (state : e.state ≠ .emitting) :
    e.emitting = false := by
  rw [h.2.2]
  exact decide_eq_false state

theorem Engine.Coherent.same {s t : State} (h : s.engine.Coherent) (engine : t.engine = s.engine) :
    t.engine.Coherent := engine ▸ h

theorem State.startFrame_coherent (j : Job) (s : State) : (s.startFrame j).engine.Coherent :=
  Engine.coherent_emitting rfl rfl rfl rfl

theorem State.postJobStart_engine (j : Job) (s : State) : (s.postJobStart j).engine = s.engine := by simp

theorem State.beginJob_coherent (j : Job) (s : State) : (s.beginJob j).engine.Coherent := by
  rw [State.beginJob, State.startFirst, State.postJobStart_engine]
  exact State.startFrame_coherent ..

/-- Whatever the engine was, a taken job plays its frame. -/
theorem State.takeJob_coherent (j : Job) (s : State) : (s.takeJob j).engine.Coherent := by
  unfold State.takeJob
  split
  · exact State.startFrame_coherent ..
  all_goals exact s.beginJob_coherent j

theorem State.takeOrIdle_coherent {s : State} (current : s.engine.current = none)
    (still : s.engine.emitting = false) : s.takeOrIdle.engine.Coherent := by
  obtain ⟨-, e⟩ | ⟨j, rest, -, e⟩ := s.takeOrIdle_cases
  · rw [e]
    exact Engine.coherent_without (by simp) current still
  · rw [e]
    exact State.takeJob_coherent ..

theorem State.takeHead_coherent {s : State} (h : s.engine.Coherent) : s.takeHead.engine.Coherent := by
  unfold State.takeHead
  split
  · exact h
  · exact State.takeJob_coherent ..

theorem State.admitted_coherent {s : State} (h : s.engine.Coherent) : s.admitted.engine.Coherent := by
  unfold State.admitted
  split
  · exact State.takeHead_coherent h
  all_goals exact h

theorem State.endCurrent_coherent {s : State} {j : Job} {reason : EndReason}
    (state : s.engine.state ≠ .emitting) (still : s.engine.emitting = false) :
    (s.endCurrent j reason).engine.Coherent := Engine.coherent_without state rfl still

theorem State.intervalEnds_coherent {s : State} (h : s.engine.Coherent) :
    s.intervalEnds.engine.Coherent := by
  obtain e | ⟨emitting, p, e⟩ | ⟨j, p, -, -, e⟩ := s.intervalEnds_cases
  · rwa [e]
  · rw [e]
    exact ⟨fun _ => ⟨(h.1 emitting).1, rfl⟩, h.2⟩
  · rw [e, State.frameEnds]
    obtain e | ⟨reason, -, e⟩ := (s.frameCounted j p).decideAtFrame_cases j.frameSent
    · rw [e]
      exact Engine.coherent_spacing rfl rfl
    · rw [e]
      exact State.endCurrent_coherent (s := s.frameCounted j p) (j := j.frameSent) (reason := reason)
        nofun rfl

theorem State.afterSpacingEnd_coherent {s : State} (current : s.engine.current = none)
    (still : s.engine.emitting = false) : s.afterSpacingEnd.engine.Coherent := by
  obtain ⟨-, e⟩ | ⟨-, e⟩ := s.afterSpacingEnd_cases
  all_goals
    rw [e]
    exact State.takeOrIdle_coherent current still

theorem State.spacingEnds_coherent {s : State} (h : s.engine.Coherent) :
    s.spacingEnds.engine.Coherent := by
  have still (spacing : s.engine.state = .spacing) : s.engine.emitting = false :=
    h.still (by simp [spacing])
  obtain e | ⟨spacing, none, e⟩ | ⟨j, spacing, -, ⟨reason, e⟩ | ⟨u, rest, -, -, -, e⟩ | e⟩ :=
    s.spacingEnds_cases
  · rwa [e]
  · rw [e]
    exact State.takeOrIdle_coherent none (still spacing)
  · rw [e]
    exact State.afterSpacingEnd_coherent (s := s.endCurrent j reason) rfl (still spacing)
  · rw [e]
    exact State.beginJob_coherent ..
  · rw [e]
    exact State.startFrame_coherent ..

theorem State.markJob_coherent {s : State} (id : Nat) (reason : PendingEnd) (h : s.engine.Coherent) :
    (s.markJob id reason).engine.Coherent := by
  obtain ⟨emits, quiet, same⟩ := h
  exact ⟨fun e => by simpa [State.markJob] using emits e,
    fun e => by simpa [State.markJob] using quiet e, same⟩

theorem State.endSoon_coherent {s : State} (j : Job) (reason : PendingEnd) (h : s.engine.Coherent) :
    (s.endSoon j reason).1.engine.Coherent := by
  obtain ⟨-, e⟩ | e := s.endSoon_cases j reason
  · rw [e]
    exact h
  · rw [e]
    exact State.markJob_coherent _ _ h

theorem State.stopEngine_coherent {s : State} (h : s.engine.Coherent) : s.stopEngine.engine.Coherent := by
  have stops (t : State) (still : t.engine.emitting = false) :
      t.cutCurrent.enterStopped.engine.Coherent := by
    obtain ⟨none, e⟩ | ⟨j, -, e⟩ := t.cutCurrent_cases
    · rw [e]
      exact Engine.coherent_without nofun none still
    · rw [e]
      exact Engine.coherent_without nofun rfl still
  unfold State.stopEngine
  split
  · exact stops s.cutFrame rfl
  · next spacing => exact stops s (h.still (by simp [spacing]))
  · next idle => exact stops s (h.still (by simp [idle]))
  · exact h

theorem State.resumeEngine_coherent {s : State} (h : s.engine.Coherent)
    (stopped : s.engine.state = .stopped) : s.resumeEngine.engine.Coherent := by
  have still := h.still (by simp [stopped])
  unfold State.resumeEngine
  split
  · exact Engine.coherent_spacing rfl still
  · exact State.takeOrIdle_coherent (h.2.1 (.inr stopped)) still

theorem State.keyRelease_coherent {s : State} (k : Fin 8) (id : Nat) (h : s.engine.Coherent) :
    (s.keyRelease k id).engine.Coherent := by
  unfold State.keyRelease
  (repeat' split) <;> first | exact h | exact State.endSoon_coherent _ _ h

theorem State.holdExpires_coherent {s : State} (id : Nat) (h : s.engine.Coherent) :
    (s.holdExpires id).engine.Coherent := by
  unfold State.holdExpires
  (repeat' split) <;> first | exact h | exact State.endSoon_coherent _ _ h

theorem State.debounceExpires_coherent {s : State} (k : Fin 8) (h : s.engine.Coherent) :
    (s.debounceExpires k).engine.Coherent := by
  unfold State.debounceExpires State.keyPress State.keyReleased State.submitPress State.handRelease
  (repeat' split) <;>
    first
      | exact h
      | exact State.admitted_coherent h
      | exact State.keyRelease_coherent _ _ h

theorem State.dispatch_coherent (k : RequestKind) (payload : List Byte) {s : State}
    (h : s.engine.Coherent) : (s.dispatch k payload).1.engine.Coherent := by
  cases k
  case send =>
    change (s.handleSend payload).1.engine.Coherent
    unfold State.handleSend State.send
    (repeat' split) <;> first | exact h | exact State.admitted_coherent h
  case release =>
    change (s.handleRelease payload).1.engine.Coherent
    unfold State.handleRelease State.release
    (repeat' split) <;> first | exact h | exact State.endSoon_coherent _ _ h
  case cancel =>
    change (s.handleCancel payload).1.engine.Coherent
    unfold State.handleCancel State.cancel
    (repeat' split) <;> first | exact h | exact State.endSoon_coherent _ _ h
  case flush =>
    have same : s.flush.1.engine = s.engine := by simp [State.flush]
    exact same ▸ h
  case stop => exact State.stopEngine_coherent h
  case resume =>
    change s.handleResume.1.engine.Coherent
    unfold State.handleResume
    split
    · next stopped => exact State.resumeEngine_coherent h stopped
    all_goals exact h
  all_goals exact Engine.Coherent.same h (by simp [State.dispatch])

theorem State.engineCoherent_kept : Kept State.EngineCoherent where
  pending _ _ h := h
  clock _ _ h := h
  delay _ _ h := h
  link _ _ h _ := h
  dispatch _ k payload h _ := State.dispatch_coherent k payload h
  softReset s strap _ _ := by
    have fresh : (s.softReset strap).engine = Engine.afterReset := by
      simp [State.softReset, State.blocksReset]
    exact (Engine.coherent_without (e := Engine.afterReset) nofun rfl rfl).same
      (s := { s with engine := Engine.afterReset }) fresh
  hardReset s reason strap _ := by
    have fresh : (s.hardReset reason strap).engine = Engine.afterReset := by
      simp [State.hardReset, State.load, State.blocksReset]
    exact (Engine.coherent_without (e := Engine.afterReset) nofun rfl rfl).same
      (s := { s with engine := Engine.afterReset }) fresh
  setVdd _ _ h := h
  setReset _ _ h := h
  compareSupply _ h _ := Engine.Coherent.same h (by simp)
  writeCompletes _ h _ := Engine.Coherent.same h (by simp)
  eraseEnds _ h _ := Engine.Coherent.same h (by simp)
  draftExpires _ h _ := Engine.Coherent.same h (by simp)
  intervalEnds _ h _ := State.intervalEnds_coherent h
  spacingEnds _ h _ := State.spacingEnds_coherent h
  holdExpires _ id h _ := State.holdExpires_coherent id h
  tailExpires _ h _ := Engine.Coherent.same h (by simp)
  setKeyLine _ _ _ h := h
  keyLineChanges _ _ _ h := Engine.Coherent.same h (by simp)
  debounceExpires _ k h _ := State.debounceExpires_coherent k h
  setRxinLine _ _ h := h
  rxinChanges _ _ h := Engine.Coherent.same h (by simp)
  confirmGlitch _ h _ := Engine.Coherent.same h (by simp)
  burstEnds _ h _ := Engine.Coherent.same h (by simp)
  markTooLong _ h _ := Engine.Coherent.same h (by simp)
  blankTailExpires _ h _ := Engine.Coherent.same h (by simp)
  matchingEnds _ h _ := Engine.Coherent.same h (by simp)
  windowExpires _ h _ := Engine.Coherent.same h (by simp)
  learnExpires _ h _ := Engine.Coherent.same h (by simp)
  delayExpires s h _ := by
    unfold State.delayExpires
    split
    · exact h
    · exact h
  wake _ _ _ h := Engine.Coherent.same h (by simp)
  latencyEnds s h := by
    unfold State.latencyEnds State.becomeAwake
    split
    · have same (t : State) (byRxin : Bool) :
          (t.receiverWakes byRxin).compareSupply.engine = t.engine := by simp
      exact Engine.Coherent.same (s := s.resumeTimers) h (same ..)
    all_goals exact h

end Sys2Proof.Machine
end

section
/-! PROOF. The ledger of the live jobs (01 R7, 04 R57, R63, R74, 06 R114): which jobs live, what the library counts of
them, and which of them the keys know. -/

namespace Sys2Proof.Machine

/-! ### The roster -/

/-- What the books know of a live job. -/
structure JobEntry where
  id : Nat
  source : Source
  spec : JobSpec
  deriving DecidableEq

def Job.entry (j : Job) : JobEntry := ⟨j.id, j.source, j.spec⟩

theorem Job.Same.entry {j' j : Job} (same : j'.Same j) : j'.entry = j.entry := by
  rw [Job.entry, Job.entry, same.id, same.source, same.spec]

/-- The live jobs, in no order (04 R57). -/
def State.roster (s : State) : Multiset JobEntry :=
  (s.queue.jobs.map Job.entry : Multiset JobEntry) + (s.engine.current.toList.map Job.entry : Multiset JobEntry)

theorem State.roster_eq (s : State) : s.roster = (s.liveJobs.map Job.entry : List JobEntry) := by
  simp [State.roster, State.liveJobs]

theorem entries_insertAfterUrgent (j : Job) (jobs : List Job) :
    ((insertAfterUrgent j jobs).map Job.entry : Multiset JobEntry) =
      j.entry ::ₘ (jobs.map Job.entry : Multiset JobEntry) := by
  have moved : (insertAfterUrgent j jobs).Perm (j :: (jobs.takeWhile Job.urgent ++ jobs.dropWhile Job.urgent)) :=
    List.perm_middle
  rw [List.takeWhile_append_dropWhile] at moved
  exact Multiset.coe_eq_coe.2 (moved.map Job.entry)

theorem entries_insertNew (j : Job) (jobs : List Job) :
    ((insertNew j jobs).map Job.entry : Multiset JobEntry) =
      j.entry ::ₘ (jobs.map Job.entry : Multiset JobEntry) := by
  unfold insertNew
  split
  · exact entries_insertAfterUrgent j jobs
  · rw [Multiset.cons_coe, Multiset.coe_eq_coe]
    simp

/-- An entry taken out of a queue whose ids are distinct. -/
theorem entries_remove {j : Job} {jobs : List Job} (mem : j ∈ jobs) (distinct : (jobs.map Job.id).Nodup) :
    (jobs.map Job.entry : Multiset JobEntry) =
      j.entry ::ₘ ((jobs.filter fun k => decide (k.id ≠ j.id)).map Job.entry : List JobEntry) := by
  induction jobs with
  | nil => cases mem
  | cons a rest ih =>
    obtain ⟨fresh, distinct⟩ := List.nodup_cons.1 distinct
    obtain rfl | mem := List.mem_cons.1 mem
    · have others : (rest.filter fun k => decide (k.id ≠ j.id)) = rest :=
        List.filter_eq_self.2 fun k hk => by
          simpa using fun same : k.id = j.id => fresh (same ▸ List.mem_map_of_mem hk)
      rw [List.filter_cons_of_neg (by simp), others]
      rfl
    · have other : a.id ≠ j.id := fun same => fresh (same ▸ List.mem_map_of_mem mem)
      have ih := ih mem distinct
      simp only [← Multiset.cons_coe, List.map_cons, ih]
      rw [Multiset.cons_swap]
      simp [other]

theorem entries_mark (id : Nat) (reason : PendingEnd) (jobs : List Job) :
    (jobs.map (Job.mark id reason)).map Job.entry = jobs.map Job.entry := by
  simp only [List.map_map]
  exact List.map_congr_left fun j _ => (Job.mark_same id reason j).entry

/-! ### What the keys know -/

def keyLives (keys : Vector KeyRec 8) (k : Fin 8) : Option Nat := keys[k].live

def keyBindings (keys : Vector KeyRec 8) (k : Fin 8) : Option JobSpec := keys[k].binding

theorem keys_set (keys : Vector KeyRec 8) (k m : Fin 8) (r : KeyRec) :
    (keys.set k r)[m] = if m = k then r else keys[m] := by
  by_cases same : m = k
  · subst same
    simp
  · have other : k.val ≠ m.val := fun e => same (Fin.ext e.symm)
    simp [same, other]

theorem keyLives_set (keys : Vector KeyRec 8) (k : Fin 8) (r : KeyRec) :
    keyLives (keys.set k r) = fun m => if m = k then r.live else keyLives keys m := by
  funext m
  rw [keyLives, keys_set]
  split <;> rfl

theorem keyBindings_set (keys : Vector KeyRec 8) (k : Fin 8) (r : KeyRec) :
    keyBindings (keys.set k r) = fun m => if m = k then r.binding else keyBindings keys m := by
  funext m
  rw [keyBindings, keys_set]
  split <;> rfl

@[simp] theorem keyBindings_clearLive (j : Job) (keys : Vector KeyRec 8) :
    keyBindings (clearLive j keys) = keyBindings keys :=
  funext fun k => clearLive_binding j keys k

/-- 06 R114: the live job id of the key that started the job is cleared. -/
theorem keyLives_clearLive (j : Job) (keys : Vector KeyRec 8) (k : Fin 8) :
    keyLives (clearLive j keys) k =
      if j.source = .key k ∧ keyLives keys k = some j.id then none else keyLives keys k := by
  unfold clearLive
  split
  · next host => simp [host]
  · next m key =>
    split
    · next mine =>
      rw [keyLives_set]
      by_cases same : k = m
      · subst same
        have mine : keyLives keys k = some j.id := mine
        simp [key, mine]
      · have other : ¬ m = k := fun e => same e.symm
        simp [key, same, other]
    · next other =>
      by_cases same : m = k
      · subst same
        have other : ¬ keyLives keys m = some j.id := other
        simp [other]
      · simp [key, same]

@[simp] theorem keyBindings_giveLive (source : Source) (id : Nat) (keys : Vector KeyRec 8) :
    keyBindings (giveLive source id keys) = keyBindings keys := by
  unfold giveLive
  split
  · rfl
  · next k =>
    rw [keyBindings_set]
    funext m
    split
    · next same => subst same; rfl
    · rfl

theorem keyLives_giveLive (source : Source) (id : Nat) (keys : Vector KeyRec 8) (k : Fin 8) :
    keyLives (giveLive source id keys) k = if source = .key k then some id else keyLives keys k := by
  unfold giveLive
  split
  · simp
  · next m =>
    rw [keyLives_set]
    by_cases same : k = m
    · subst same
      simp
    · have other : ¬ m = k := fun e => same e.symm
      simp [same, other]

/-! ### The ledger -/

/-- 01 R7, 04 R57, R63, 06 R114: the library and the keys agree with a roster of live jobs. -/
structure Ledger (r : Multiset JobEntry) (refs : Fin 16 → Nat) (states : Fin 16 → SlotState)
    (live : Fin 8 → Option Nat) (bindings : Fin 8 → Option JobSpec) : Prop where
  distinct : (r.map JobEntry.id).Nodup
  range : ∀ e ∈ r, 1 ≤ e.id ∧ e.id ≤ 255
  counts : ∀ t, refs t = r.countP (fun e => e.spec.template = t) + namedBy bindings t
  inUse : ∀ t, refs t ≠ 0 → (states t).usable.isSome
  named : ∀ k id, live k = some id → ∃ e ∈ r, e.id = id ∧ e.source = .key k
  owns : ∀ k, ∀ e ∈ r, e.source = .key k → live k = some e.id

/-- The part's library and keys agree with a roster of live jobs. -/
def State.Ledger (s : State) (r : Multiset JobEntry) : Prop :=
  Machine.Ledger r s.lib.refs s.lib.states (keyLives s.keys) (keyBindings s.keys)

theorem State.Ledger.same {s t : State} {r : Multiset JobEntry} (h : s.Ledger r) (refs : t.lib.refs = s.lib.refs)
    (states : t.lib.states = s.lib.states) (lives : keyLives t.keys = keyLives s.keys)
    (bindings : keyBindings t.keys = keyBindings s.keys) : t.Ledger r := by
  rw [State.Ledger, refs, states, lives, bindings]
  exact h

/-- A job leaves the live set (04 R74). -/
theorem State.Ledger.leaves {s : State} {r : Multiset JobEntry} {j : Job}
    (h : s.Ledger (j.entry ::ₘ r)) (reason : EndReason) : (s.jobLeaves j reason).Ledger r := by
  obtain ⟨fresh, distinct⟩ := Multiset.nodup_cons.1 (Multiset.map_cons .. ▸ h.distinct)
  have counts (t : Fin 16) : (s.jobLeaves j reason).lib.refs t =
      r.countP (fun e => e.spec.template = t) + namedBy (keyBindings s.keys) t := by
    have before := h.counts t
    rw [Multiset.countP_cons] at before
    rw [State.jobLeaves_lib, Library.unclaim_refs]
    by_cases mine : t = j.spec.template
    · have mine' : j.entry.spec.template = t := mine.symm
      rw [if_pos mine'] at before
      rw [if_pos mine]
      omega
    · have other : ¬ j.entry.spec.template = t := fun e => mine e.symm
      rw [if_neg other] at before
      rw [if_neg mine]
      omega
  refine ⟨distinct, fun e mem => h.range e (Multiset.mem_cons_of_mem mem), fun t => ?_, fun t used => ?_,
    fun k id lives => ?_, fun k e mem source => ?_⟩
  · rw [counts, State.jobLeaves_keys, keyBindings_clearLive]
  · rw [State.jobLeaves_states]
    refine h.inUse t fun zero => used ?_
    rw [State.jobLeaves_lib, Library.unclaim_refs, zero]
    simp
  · rw [State.jobLeaves_keys, keyLives_clearLive] at lives
    split at lives
    · contradiction
    · next other =>
      obtain ⟨e, mem, same, source⟩ := h.named k id lives
      obtain rfl | mem := Multiset.mem_cons.1 mem
      · exact absurd ⟨source, lives.trans (congrArg some same.symm)⟩ other
      · exact ⟨e, mem, same, source⟩
  · rw [State.jobLeaves_keys, keyLives_clearLive]
    have lives := h.owns k e (Multiset.mem_cons_of_mem mem) source
    rw [if_neg]
    · exact lives
    · rintro ⟨-, mine⟩
      refine fresh ?_
      have same : e.id = j.entry.id := Option.some.inj (lives.symm.trans mine)
      exact same ▸ Multiset.mem_map_of_mem _ mem

/-- Several jobs leave the live set, one after the other (04 R72). -/
theorem flushJobs_ledger (jobs : List Job) {s : State} {r : Multiset JobEntry}
    (h : s.Ledger ((jobs.map Job.entry : List JobEntry) + r)) : (flushJobs jobs s).Ledger r := by
  induction jobs generalizing s with
  | nil => simpa [flushJobs] using h
  | cons j rest ih =>
    refine ih (State.Ledger.leaves (j := j) ?_ _)
    rwa [← Multiset.cons_add, Multiset.cons_coe]

/-! ### Free ids (04 R63) -/

theorem nextIdAfter_mod {id : Nat} (low : 1 ≤ id) (high : id ≤ 255) : nextIdAfter id = id % 255 + 1 := by
  unfold nextIdAfter
  split <;> omega

/-- The candidates from the counter on: the ids from 1 to 255 in turn. -/
theorem nextIdAfter_iterate {id : Nat} (low : 1 ≤ id) (high : id ≤ 255) (n : Nat) :
    nextIdAfter^[n] id = (id - 1 + n) % 255 + 1 := by
  induction n with
  | zero => simp; omega
  | succ n ih =>
    rw [Function.iterate_succ_apply', ih, nextIdAfter_mod (by omega) (by omega)]
    omega

/-- 04 R63: the first candidate that is not in use, or the last one tried. -/
theorem freeId_cases (used : List Nat) (fuel id : Nat) :
    (∃ n < fuel, freeId used fuel id = nextIdAfter^[n] id ∧ nextIdAfter^[n] id ∉ used
        ∧ ∀ m < n, nextIdAfter^[m] id ∈ used)
      ∨ (freeId used fuel id = nextIdAfter^[fuel] id ∧ ∀ m < fuel, nextIdAfter^[m] id ∈ used) := by
  induction fuel generalizing id with
  | zero => exact .inr ⟨rfl, by simp⟩
  | succ fuel ih =>
    unfold freeId
    split
    · next busy =>
      have all {n : Nat} (later : ∀ m < n, nextIdAfter^[m] (nextIdAfter id) ∈ used) :
          ∀ m < n + 1, nextIdAfter^[m] id ∈ used := by
        rintro (_ | m) lt
        · exact busy
        · exact later m (Nat.lt_of_succ_lt_succ lt)
      obtain ⟨n, lt, result, unused, before⟩ | ⟨result, before⟩ := ih (nextIdAfter id)
      · exact .inl ⟨n + 1, Nat.succ_lt_succ lt, result, unused, all before⟩
      · exact .inr ⟨result, all before⟩
    · next free => exact .inl ⟨0, Nat.succ_pos _, rfl, free, by simp⟩

/-- At most 8 ids are in use when a job is admitted, so that one of the first 9 candidates is free. -/
theorem freeId_first {used : List Nat} {id : Nat} (low : 1 ≤ id) (high : id ≤ 255) (few : used.length ≤ 8) :
    ∃ n, freeId used 9 id = nextIdAfter^[n] id ∧ nextIdAfter^[n] id ∉ used
      ∧ ∀ m < n, nextIdAfter^[m] id ∈ used := by
  obtain ⟨n, -, found⟩ | ⟨-, all⟩ := freeId_cases used 9 id
  · exact ⟨n, found⟩
  · exfalso
    have distinct : ((List.range 9).map fun m => nextIdAfter^[m] id).Nodup := by
      refine List.Nodup.map_on (fun a ha b hb same => ?_) List.nodup_range
      rw [nextIdAfter_iterate low high, nextIdAfter_iterate low high] at same
      rw [List.mem_range] at ha hb
      omega
    have sub : ((List.range 9).map fun m => nextIdAfter^[m] id) ⊆ used := by
      intro x mem
      obtain ⟨m, lt, rfl⟩ := List.mem_map.1 mem
      exact all m (List.mem_range.1 lt)
    have := (distinct.subperm sub).length_le
    simp at this
    omega

theorem State.liveJobs_length (s : State) : s.liveJobs.length ≤ s.queue.jobs.length + 1 := by
  simp only [State.liveJobs, List.length_append]
  cases s.engine.current <;> simp

/-- 04 R63: the id that an admission allocates is free, and runs from 1 to 255. -/
theorem State.allocate_spec {s : State} (counter : 1 ≤ s.queue.nextId ∧ s.queue.nextId ≤ 255)
    (room : s.queue.jobs.length < 8) :
    s.allocate ∉ s.liveJobs.map Job.id ∧ 1 ≤ s.allocate ∧ s.allocate ≤ 255 := by
  have few : (s.liveJobs.map Job.id).length ≤ 8 := by
    rw [List.length_map]
    exact (s.liveJobs_length).trans (Nat.succ_le_of_lt room)
  obtain ⟨n, result, unused, -⟩ := freeId_first counter.1 counter.2 few
  have range := nextIdAfter_iterate counter.1 counter.2 n
  rw [State.allocate, result]
  exact ⟨unused, by omega, by omega⟩

theorem nextIdAfter_range {id : Nat} (high : id ≤ 255) : 1 ≤ nextIdAfter id ∧ nextIdAfter id ≤ 255 := by
  unfold nextIdAfter
  split <;> omega

end Sys2Proof.Machine
end

section
/-! PROOF. The books of the jobs, block by block (04 sections 4.1 to 4.5, 05 R82 to R93, 06 sections 6.4 and 6.5). -/

namespace Sys2Proof.Machine

/-! ### What leaves the books as they are -/

/-- `t` has the live jobs, the id counter, the reference counts, the slot states and the keys' live job ids and
bindings of `s`. -/
structure State.SameBooks (t s : State) : Prop where
  roster : t.roster = s.roster
  nextId : t.queue.nextId = s.queue.nextId
  refs : t.lib.refs = s.lib.refs
  states : t.lib.states = s.lib.states
  lives : keyLives t.keys = keyLives s.keys
  bindings : keyBindings t.keys = keyBindings s.keys

theorem State.SameBooks.trans {u t s : State} (h : u.SameBooks t) (h' : t.SameBooks s) : u.SameBooks s :=
  ⟨h.roster.trans h'.roster, h.nextId.trans h'.nextId, h.refs.trans h'.refs, h.states.trans h'.states,
    h.lives.trans h'.lives, h.bindings.trans h'.bindings⟩

theorem State.roster_congr {t s : State} (queue : t.queue = s.queue)
    (current : t.engine.current = s.engine.current) : t.roster = s.roster := by
  rw [State.roster, State.roster, queue, current]

/-- A step that touches neither the queue, nor the current job, nor the library, nor the keys. -/
theorem State.sameBooks {t s : State} (queue : t.queue = s.queue)
    (current : t.engine.current = s.engine.current) (lib : t.lib = s.lib) (keys : t.keys = s.keys) :
    t.SameBooks s :=
  ⟨State.roster_congr queue current, by rw [queue], by rw [lib], by rw [lib], by rw [keys], by rw [keys]⟩

/-- A step that touches of all this only the states and the debounces of the keys. -/
theorem State.sameBooks_keys {t s : State} (queue : t.queue = s.queue)
    (engine : t.engine = s.engine) (lib : t.lib = s.lib) (lives : keyLives t.keys = keyLives s.keys)
    (bindings : keyBindings t.keys = keyBindings s.keys) : t.SameBooks s :=
  ⟨State.roster_congr queue (by rw [engine]), by rw [queue], by rw [lib], by rw [lib], lives, bindings⟩

theorem State.roster_some {s : State} {j : Job} (current : s.engine.current = some j) :
    s.roster = j.entry ::ₘ (s.queue.jobs.map Job.entry : List JobEntry) := by
  rw [State.roster, current, Option.toList_some, List.map_singleton, Multiset.coe_singleton, add_comm,
    Multiset.singleton_add]

theorem State.roster_none {s : State} (current : s.engine.current = none) :
    s.roster = (s.queue.jobs.map Job.entry : List JobEntry) := by
  simp [State.roster, current]

/-- The engine takes the head of the queue: the live jobs stay (04 R59). -/
theorem State.takeJob_sameBooks {s : State} {j : Job} {rest : List Job} (jobs : s.queue.jobs = j :: rest)
    (none : s.engine.current = none) :
    ({ s with queue := { s.queue with jobs := rest } }.takeJob j).SameBooks s := by
  obtain ⟨j', current, same, -⟩ := State.takeJob_plays j { s with queue := { s.queue with jobs := rest } }
  refine ⟨?_, by simp, by simp, by simp, by simp, by simp⟩
  rw [State.roster_some current, State.roster_none none, jobs]
  simp [same.entry]

theorem State.takeHead_sameBooks {s : State} (none : s.engine.current = none) : s.takeHead.SameBooks s := by
  unfold State.takeHead
  split
  · exact State.sameBooks rfl rfl rfl rfl
  · next j rest jobs => exact State.takeJob_sameBooks jobs none

theorem State.takeOrIdle_sameBooks {s : State} (none : s.engine.current = none) :
    s.takeOrIdle.SameBooks s := by
  obtain ⟨-, e⟩ | ⟨j, rest, jobs, e⟩ := s.takeOrIdle_cases
  · rw [e]
    exact State.sameBooks rfl rfl rfl rfl
  · rw [e]
    exact State.takeJob_sameBooks jobs none

theorem State.admitted_sameBooks {s : State} (coherent : s.engine.Coherent) : s.admitted.SameBooks s := by
  unfold State.admitted
  split
  · next idle => exact State.takeHead_sameBooks (coherent.2.1 (.inl idle))
  all_goals exact State.sameBooks rfl rfl rfl rfl

theorem State.markJob_sameBooks (id : Nat) (reason : PendingEnd) (s : State) :
    (s.markJob id reason).SameBooks s := by
  refine ⟨?_, rfl, rfl, rfl, rfl, rfl⟩
  rw [State.roster, State.roster, State.markJob_queue, entries_mark]
  cases current : s.engine.current with
  | none => simp [State.markJob, current]
  | some c => simp [State.markJob, current, (Job.mark_same id reason c).entry]

/-- A NORMAL current job makes way for an URGENT head: the live jobs stay (05 R89). -/
theorem State.park_sameBooks {s : State} {j u : Job} {rest : List Job} (jobs : s.queue.jobs = u :: rest)
    (current : s.engine.current = some j) : (s.park j u rest).SameBooks s := by
  obtain ⟨u', plays, same, -⟩ := State.beginJob_plays u
    { s with queue := { s.queue with jobs := insertAfterUrgent { j with state := .parked } rest } }
  have parked : Job.entry { j with state := .parked } = j.entry := rfl
  refine ⟨?_, by simp [State.park], ?_, by simp, by simp [State.park], by simp [State.park]⟩
  · have queue : (s.park j u rest).queue.jobs = insertAfterUrgent { j with state := .parked } rest := by
      simp [State.park]
    rw [State.roster_some (s := s.park j u rest) plays, State.roster_some current, jobs, queue,
      entries_insertAfterUrgent, parked, same.entry, Multiset.cons_swap]
    rfl
  · simp [State.park, State.beginJob, State.startFirst]

/-! ### Ledger and counter -/

/-- 01 R7, 04 R57, R63, 06 R114: the id counter is a job id, and the library and the keys agree with the live
jobs. -/
structure State.Accounts (s : State) : Prop where
  low : 1 ≤ s.queue.nextId
  high : s.queue.nextId ≤ 255
  ledger : s.Ledger s.roster

theorem State.Accounts.same {t s : State} (h : s.Accounts) (same : t.SameBooks s) : t.Accounts := by
  refine ⟨same.nextId ▸ h.low, same.nextId ▸ h.high, ?_⟩
  rw [same.roster]
  exact h.ledger.same same.refs same.states same.lives same.bindings

/-- The current job leaves the live set (05 R87). -/
theorem State.Accounts.endCurrent {s : State} {j : Job} (h : s.Accounts)
    (current : s.engine.current = some j) (reason : EndReason) : (s.endCurrent j reason).Accounts := by
  have before := h.ledger
  rw [State.roster_some current] at before
  refine ⟨h.low, h.high, ?_⟩
  rw [State.roster_none (s := s.endCurrent j reason) rfl]
  exact State.Ledger.same (before.leaves reason) rfl rfl rfl rfl

/-- An entry leaves the queue and the live set (04 R67, R69). -/
theorem State.Accounts.removeJob {s : State} {j : Job} (h : s.Accounts) (mem : j ∈ s.queue.jobs)
    (reason : EndReason) : (s.removeJob j reason).Accounts := by
  have ids : (s.queue.jobs.map Job.id).Nodup := by
    have all := h.ledger.distinct
    rw [State.roster, Multiset.map_add, Multiset.map_coe, List.map_map] at all
    exact (Multiset.nodup_add.1 all).1
  have before := h.ledger
  rw [State.roster, entries_remove mem ids, Multiset.cons_add] at before
  refine ⟨h.low, h.high, ?_⟩
  exact State.Ledger.same (before.leaves reason) rfl rfl rfl rfl

theorem State.findJob_mem {s : State} {id : Nat} {j : Job} (found : s.findJob id = some j) :
    j ∈ s.queue.jobs ∨ s.engine.current = some j := by
  have mem : j ∈ s.liveJobs := List.mem_of_find?_eq_some found
  rw [State.liveJobs, List.mem_append, Option.mem_toList] at mem
  exact mem

/-- 04 R56: a job is CURRENT exactly while the engine holds it, and the queue has its room. -/
def Placed (jobs : List Job) (current : Option Job) : Prop :=
  (∀ j ∈ current, j.state = .current) ∧ (∀ j ∈ jobs, j.state ≠ .current)

theorem placed_rules : QueueRules Placed where
  reset := ⟨by simp, by simp⟩
  flush _ _ h := ⟨h.1, by simp⟩
  ends _ _ h := ⟨by simp, h.2⟩
  plays _ c c' h _ state := ⟨by simpa [state] using h.1 c rfl, h.2⟩
  take _ _ _ _ h _ state := ⟨by simpa using state, fun x mem => h.2 x (List.mem_cons_of_mem _ mem)⟩
  park j u u' rest h _ _ _ state := by
    refine ⟨by simpa using state, fun x mem => ?_⟩
    obtain rfl | mem := mem_insertAfterUrgent.1 mem
    · simp
    · exact h.2 x (List.mem_cons_of_mem _ mem)
  join j jobs _ h _ waiting := by
    refine ⟨h.1, fun x mem => ?_⟩
    have mem : x = j ∨ x ∈ jobs := by
      unfold insertNew at mem
      split at mem
      · exact mem_insertAfterUrgent.1 mem
      · simpa [or_comm] using mem
    obtain rfl | mem := mem
    · simp [waiting]
    · exact h.2 x mem
  mark jobs _ id reason h := ⟨h.1, by simpa [Job.mark_state] using h.2⟩
  remove _ _ _ h := ⟨h.1, fun x mem => h.2 x (List.mem_of_mem_filter mem)⟩

theorem State.queued_of_find {s : State} {id : Nat} {j : Job} (placed : s.Holds Placed)
    (found : s.findJob id = some j) (state : j.state ≠ .current) : j ∈ s.queue.jobs := by
  obtain mem | current := State.findJob_mem found
  · exact mem
  · exact absurd (placed.1 j current) state

theorem State.Accounts.endSoon {s : State} {id : Nat} {j : Job} (h : s.Accounts) (placed : s.Holds Placed)
    (found : s.findJob id = some j) (reason : PendingEnd) : (s.endSoon j reason).1.Accounts := by
  obtain ⟨parked, e⟩ | e := s.endSoon_cases j reason
  · rw [e]
    exact h.removeJob (State.queued_of_find placed found (by simp [parked])) _
  · rw [e]
    exact h.same (s.markJob_sameBooks ..)

/-- FLUSH: every entry of the queue leaves the live set (04 R72). -/
theorem State.Accounts.flush {s : State} (h : s.Accounts) : s.flush.1.Accounts := by
  have emptied : s.flush.1.queue = { s.queue with jobs := [] } := by simp [State.flush]
  have roster : s.flush.1.roster = (s.engine.current.toList.map Job.entry : List JobEntry) := by
    simp [State.roster, State.flush]
  refine ⟨by simpa [emptied] using h.low, by simpa [emptied] using h.high, ?_⟩
  rw [roster]
  exact flushJobs_ledger _ h.ledger

/-! ### Admission (04 R61, R62) -/

/-- 04 R61 check 1: an admitted job names a usable template. -/
theorem State.usable_of_spec {s : State} {spec : JobSpec} (fits : s.specRefusal spec = none) :
    (s.lib.states spec.template).usable.isSome := by
  unfold State.specRefusal at fits
  split at fits
  · contradiction
  · next t template => exact Option.isSome_iff_exists.2 ⟨t, template⟩

theorem State.spec_of_admission {s : State} {spec : JobSpec} (admits : s.admissionRefusal spec = none) :
    s.specRefusal spec = none := by
  unfold State.admissionRefusal at admits
  split at admits
  · contradiction
  · assumption

/-- A job joins the live set: its id is free, its template usable, and its key has no live job. -/
theorem State.Accounts.enrol {s : State} {source : Source} {spec : JobSpec} (h : s.Accounts)
    (admits : s.admissionRefusal spec = none) (idle : ∀ k, source = .key k → keyLives s.keys k = none) :
    (s.enrol source spec).Accounts := by
  obtain ⟨fresh, low, high⟩ := State.allocate_spec ⟨h.low, h.high⟩ (State.room_of_admission admits)
  obtain ⟨nextLow, nextHigh⟩ := nextIdAfter_range high
  have roster : (s.enrol source spec).roster = ⟨s.allocate, source, spec⟩ ::ₘ s.roster := by
    rw [State.roster, State.roster, ← Multiset.cons_add]
    exact congrArg (· + _) (entries_insertNew ..)
  have unused : ∀ e ∈ s.roster, e.id ≠ s.allocate := by
    intro e mem same
    rw [State.roster_eq] at mem
    obtain ⟨j, live, rfl⟩ := List.mem_map.1 (Multiset.mem_coe.1 mem)
    exact fresh (List.mem_map.2 ⟨j, live, same⟩)
  have idle' : ∀ e ∈ s.roster, ∀ k, source = .key k → e.source ≠ .key k := by
    intro e mem k key same
    have lives := h.ledger.owns k e mem same
    rw [idle k key] at lives
    contradiction
  refine ⟨nextLow, nextHigh, ?_⟩
  rw [roster]
  refine ⟨?_, fun e mem => ?_, fun t => ?_, fun t used => ?_, fun k id lives => ?_, fun k e mem key => ?_⟩
  · rw [Multiset.map_cons, Multiset.nodup_cons]
    refine ⟨fun mem => ?_, h.ledger.distinct⟩
    obtain ⟨e, mem, same⟩ := Multiset.mem_map.1 mem
    exact unused e mem same
  · obtain rfl | mem := Multiset.mem_cons.1 mem
    · exact ⟨low, high⟩
    · exact h.ledger.range e mem
  · have counts := h.ledger.counts t
    have refs : (s.enrol source spec).lib.refs t = _ := Library.claim_refs spec.template t s.lib
    have keys : keyBindings (s.enrol source spec).keys = keyBindings s.keys := keyBindings_giveLive ..
    rw [refs, keys, Multiset.countP_cons]
    by_cases mine : t = spec.template
    · simp only [mine] at counts ⊢
      simp only [if_true]
      omega
    · have other : ¬ spec.template = t := fun e => mine e.symm
      simp only [if_neg mine, if_neg other]
      omega
  · have states : (s.enrol source spec).lib.states t = s.lib.states t := by simp
    rw [states]
    by_cases mine : t = spec.template
    · rw [mine]
      exact State.usable_of_spec (State.spec_of_admission admits)
    · refine h.ledger.inUse t fun zero => used ?_
      have refs : (s.enrol source spec).lib.refs t = _ := Library.claim_refs spec.template t s.lib
      rw [refs, if_neg mine, zero]
  · have given : keyLives (s.enrol source spec).keys k = _ := keyLives_giveLive source s.allocate s.keys k
    rw [given] at lives
    split at lives
    · next key => exact ⟨_, Multiset.mem_cons_self _ _, Option.some.inj lives, key⟩
    · obtain ⟨e, mem, found⟩ := h.ledger.named k id lives
      exact ⟨e, Multiset.mem_cons_of_mem mem, found⟩
  · have given : keyLives (s.enrol source spec).keys k = _ := keyLives_giveLive source s.allocate s.keys k
    rw [given]
    obtain rfl | mem := Multiset.mem_cons.1 mem
    · exact if_pos key
    · rw [if_neg fun mine => idle' e mem k mine key]
      exact h.ledger.owns k e mem key

end Sys2Proof.Machine
end

section
/-! PROOF. The books of the jobs: bindings, library requests and resets, and the invariant (01 R7, R23, 06 R111,
R112). -/

namespace Sys2Proof.Machine

/-! ### Bindings that name a template -/

/-- The claim of a binding on a template, 0 or 1 (01 R7). -/
def bindingClaim (b : Option JobSpec) (t : Fin 16) : Nat :=
  (b.any fun spec => decide (spec.template = t)).toNat

theorem bindingClaim_some (spec : JobSpec) (t : Fin 16) :
    bindingClaim (some spec) t = if t = spec.template then 1 else 0 := by
  by_cases same : t = spec.template
  · simp [bindingClaim, same]
  · simp [bindingClaim, same, Ne.symm same]

theorem namedBy_eq_sum (bindings : Fin 8 → Option JobSpec) (t : Fin 16) :
    namedBy bindings t = ∑ k, bindingClaim (bindings k) t := by
  have all : List.finRange 8 = [0, 1, 2, 3, 4, 5, 6, 7] := rfl
  rw [namedBy, all, Fin.sum_univ_eight]
  simp only [List.countP_cons, List.countP_nil, bindingClaim, Bool.toNat, Bool.cond_eq_ite]
  omega

/-- What one key's binding adds to the claims of the others. -/
theorem namedBy_replace (bindings : Fin 8 → Option JobSpec) (k : Fin 8) (t : Fin 16) :
    ∃ others, ∀ b, namedBy (fun m => if m = k then b else bindings m) t = bindingClaim b t + others := by
  refine ⟨∑ m ∈ Finset.univ.erase k, bindingClaim (bindings m) t, fun b => ?_⟩
  rw [namedBy_eq_sum, ← Finset.add_sum_erase _ _ (Finset.mem_univ k), if_pos rfl]
  refine congrArg _ (Finset.sum_congr rfl fun m mem => ?_)
  rw [if_neg (Finset.ne_of_mem_erase mem)]

theorem namedBy_self (bindings : Fin 8 → Option JobSpec) (k : Fin 8) :
    (fun m => if m = k then bindings k else bindings m) = bindings := by
  funext m
  split
  · next same => rw [same]
  · rfl

/-- A binding that names a template is counted. -/
theorem namedBy_ne_zero {bindings : Fin 8 → Option JobSpec} {k : Fin 8} {spec : JobSpec}
    (bound : bindings k = some spec) : namedBy bindings spec.template ≠ 0 := by
  obtain ⟨others, split⟩ := namedBy_replace bindings k spec.template
  have total := split (bindings k)
  rw [namedBy_self, bound, bindingClaim_some, if_pos rfl] at total
  omega

theorem exists_of_namedBy {bindings : Fin 8 → Option JobSpec} {t : Fin 16} (named : namedBy bindings t ≠ 0) :
    ∃ k, ∃ spec ∈ bindings k, spec.template = t := by
  obtain ⟨k, -, names⟩ := List.countP_pos_iff.1 (Nat.pos_of_ne_zero named)
  cases bound : bindings k with
  | none => simp [bound] at names
  | some spec => exact ⟨k, spec, bound, by simpa [bound] using names⟩

theorem bindingsOn_eq (bindings : Vector (Option JobSpec) 8) (t : Fin 16) :
    bindingsOn bindings t = namedBy (fun k => bindings[k]) t := by
  have all : bindings.toList = (List.finRange 8).map fun k => bindings[k] := by
    apply List.ext_getElem <;> simp
  rw [bindingsOn, all, List.countP_map]
  refine List.countP_congr fun k _ => ?_
  simp only [Function.comp]
  cases bindings[k] <;> simp

theorem Library.unclaimBinding_refs (old : Option JobSpec) (l : Library) (t : Fin 16) :
    (l.unclaimBinding old).refs t = l.refs t - bindingClaim old t := by
  unfold Library.unclaimBinding
  split
  · next spec =>
    rw [Library.unclaim_refs, bindingClaim_some]
    split <;> rfl
  · rfl

theorem Library.claimBinding_refs (spec : JobSpec) (l : Library) (t : Fin 16) :
    (l.claimBinding spec).refs t = l.refs t + bindingClaim (some spec) t := by
  rw [Library.claimBinding, Library.claim_refs, bindingClaim_some]
  split <;> rfl

/-! ### Rules of the ledger -/

/-- The states of the slots change, and a template in use stays usable (01 R7). -/
theorem State.Ledger.restate {s t : State} {r : Multiset JobEntry} (h : s.Ledger r)
    (refs : t.lib.refs = s.lib.refs) (lives : keyLives t.keys = keyLives s.keys)
    (bindings : keyBindings t.keys = keyBindings s.keys)
    (usable : ∀ u, s.lib.refs u ≠ 0 → (s.lib.states u).usable.isSome → (t.lib.states u).usable.isSome) :
    t.Ledger r := by
  rw [State.Ledger, refs, lives, bindings]
  exact { h with inUse := fun u used => usable u used (h.inUse u used) }

/-- The binding of one key changes, and the claims on the templates with it (06 R111, R112). -/
theorem State.Ledger.rebind {s t : State} {r : Multiset JobEntry} (h : s.Ledger r) (k : Fin 8)
    (new : Option JobSpec) (states : t.lib.states = s.lib.states) (lives : keyLives t.keys = keyLives s.keys)
    (bindings : keyBindings t.keys = fun m => if m = k then new else keyBindings s.keys m)
    (refs : ∀ u, t.lib.refs u = s.lib.refs u - bindingClaim (keyBindings s.keys k) u + bindingClaim new u)
    (usable : ∀ spec ∈ new, (s.lib.states spec.template).usable.isSome) : t.Ledger r := by
  rw [State.Ledger, states, lives, bindings]
  refine { h with counts := fun u => ?_, inUse := fun u used => ?_ }
  · obtain ⟨others, split⟩ := namedBy_replace (keyBindings s.keys) k u
    have before := h.counts u
    have old := split (keyBindings s.keys k)
    rw [namedBy_self] at old
    rw [refs, split]
    omega
  · by_cases claimed : bindingClaim new u = 0
    · exact h.inUse u fun zero => used (by rw [refs, claimed, zero]; simp)
    · cases new with
      | none => exact absurd rfl claimed
      | some spec =>
        rw [bindingClaim_some] at claimed
        have same : u = spec.template := by
          by_contra other
          exact claimed (if_neg other)
        rw [same]
        exact usable spec rfl

/-- A bound template is usable (01 R7). -/
theorem State.Ledger.bound {s : State} {r : Multiset JobEntry} (h : s.Ledger r) {k : Fin 8} {spec : JobSpec}
    (bound : keyBindings s.keys k = some spec) : (s.lib.states spec.template).usable.isSome := by
  refine h.inUse _ ?_
  rw [h.counts]
  exact Nat.ne_of_gt (Nat.add_pos_right _ (Nat.pos_of_ne_zero (namedBy_ne_zero bound)))

/-- Books without live jobs (01 R23). -/
theorem State.ledger_empty {t : State} (refs : ∀ u, t.lib.refs u = namedBy (keyBindings t.keys) u)
    (lives : ∀ k, keyLives t.keys k = none)
    (usable : ∀ k, ∀ spec ∈ keyBindings t.keys k, (t.lib.states spec.template).usable.isSome) : t.Ledger 0 where
  distinct := by simp
  range := by simp
  counts u := by simpa using refs u
  inUse u used := by
    rw [refs] at used
    obtain ⟨k, spec, bound, rfl⟩ := exists_of_namedBy used
    exact usable k spec bound
  named k id live := by
    rw [lives] at live
    contradiction
  owns := by simp

/-! ### Images (10 R178) -/

theorem SlotState.definition_of_usable {st : SlotState} (usable : st.usable.isSome) : st.definition.isSome := by
  cases st <;> simp_all [SlotState.usable, SlotState.definition]

theorem State.Ledger.image_closed {s : State} {r : Multiset JobEntry} (h : s.Ledger r) : s.image.Closed := by
  intro k spec mem
  have bound : keyBindings s.keys k = some spec := by simpa [State.image, keyBindings] using mem
  have stored := SlotState.definition_of_usable (h.bound bound)
  rw [Library.states] at stored
  simpa [State.image] using stored

theorem Image.blank_closed : Image.blank.Closed := by
  intro k spec mem
  simp [Image.blank] at mem

theorem slotLoaded_usable (stored : Option Template) : (slotLoaded stored).usable = stored := by
  cases stored <;> rfl

theorem SlotState.restored_usable {st : SlotState} (usable : st.usable.isSome) : st.restored.usable.isSome := by
  cases st <;> simp_all [SlotState.usable, SlotState.restored]

/-! ### Resets -/

@[simp] theorem State.keysAfterReset_lives (bindings : Vector (Option JobSpec) 8) (c : Settings) (s : State)
    (k : Fin 8) : keyLives (s.keysAfterReset bindings c) k = none := by
  simp [keyLives, State.keysAfterReset, KeyRec.afterReset]

@[simp] theorem State.keysAfterReset_bindings (bindings : Vector (Option JobSpec) 8) (c : Settings) (s : State) :
    keyBindings (s.keysAfterReset bindings c) = fun k => bindings[k] := by
  funext k
  simp [keyBindings, State.keysAfterReset, KeyRec.afterReset]

theorem Library.afterReset_refs (slots : Vector SlotState 16) (bindings : Vector (Option JobSpec) 8)
    (t : Fin 16) : (Library.afterReset slots bindings).refs t = namedBy (fun k => bindings[k]) t := by
  rw [← bindingsOn_eq]
  simp [Library.refs, Library.afterReset]

/-- 01 R23: a reset leaves no live job, and counts the bindings that it keeps. -/
theorem State.blocksReset_accounts {slots : Vector SlotState 16} {bindings : Vector (Option JobSpec) 8}
    (c : Settings) (link : Link) (s : State)
    (usable : ∀ k : Fin 8, ∀ spec ∈ bindings[k], (slots[spec.template]).usable.isSome) :
    (s.blocksReset slots bindings c link).Accounts := by
  have roster : (s.blocksReset slots bindings c link).roster = 0 := rfl
  refine ⟨Nat.le_refl 1, show 1 ≤ 255 by decide, ?_⟩
  rw [roster]
  have keys : keyBindings (s.blocksReset slots bindings c link).keys = fun k => bindings[k] :=
    State.keysAfterReset_bindings ..
  have states (u : Fin 16) : (s.blocksReset slots bindings c link).lib.states u = slots[u] :=
    Library.afterReset_states ..
  refine State.ledger_empty (fun u => ?_) (fun k => State.keysAfterReset_lives ..) fun k spec mem => ?_
  · rw [keys]
    exact Library.afterReset_refs ..
  · rw [keys] at mem
    rw [states]
    exact usable k spec mem

theorem State.announce_sameBooks (reason : ResetReason) (status : ImageStatus) (s : State) :
    (s.announce reason status).SameBooks s :=
  State.sameBooks (by simp) (by simp) (by simp) (by simp)

theorem State.hardReset_accounts {s : State} (reason : ResetReason) (strap : Bool)
    (closed : s.store.boot.1.Closed) : (s.hardReset reason strap).Accounts := by
  refine State.Accounts.same (State.blocksReset_accounts _ _ _ fun k spec mem => ?_)
    (State.announce_sameBooks ..)
  rw [show (Vector.ofFn fun t : Fin 16 => slotLoaded s.store.boot.1.slots[t])[spec.template]
      = slotLoaded s.store.boot.1.slots[spec.template] by simp, slotLoaded_usable]
  exact closed k spec mem

theorem State.softReset_accounts {s : State} (h : s.Accounts) (strap : Bool) :
    (s.softReset strap).Accounts := by
  refine State.Accounts.same (State.blocksReset_accounts _ _ _ fun k spec mem => ?_)
    (State.announce_sameBooks ..)
  have bound : keyBindings s.keys k = some spec := by simpa [keyBindings] using mem
  have usable := h.ledger.bound bound
  rw [show (Vector.ofFn fun t : Fin 16 => s.lib.abandon.slots[t].state)[spec.template]
      = s.lib.abandon.states spec.template by simp [Library.states], Library.abandon_states]
  split
  · exact SlotState.restored_usable usable
  · exact usable

end Sys2Proof.Machine
end

section
/-! PROOF. The books of the jobs: every command keeps them. -/

namespace Sys2Proof.Machine

/-- 01 R7, 04 R57, 06 R114, 10 R178: what the books of the jobs rest on. -/
structure State.Books (s : State) : Prop where
  coherent : s.EngineCoherent
  placed : s.Holds Placed
  accounts : s.Accounts
  images : s.store.All Image.Closed

theorem State.Books.same {t s : State} (h : s.Books) (same : t.SameBooks s) : t.Accounts :=
  h.accounts.same same

/-! ### The engine -/

theorem State.Accounts.intervalEnds {s : State} (h : s.Accounts) : s.intervalEnds.Accounts := by
  obtain e | ⟨-, p, e⟩ | ⟨j, p, -, current, e⟩ := s.intervalEnds_cases
  · rwa [e]
  · rw [e]
    exact h.same (State.sameBooks rfl rfl rfl rfl)
  · have counted : (s.frameCounted j p).Accounts := by
      refine h.same ⟨?_, rfl, rfl, rfl, rfl, rfl⟩
      rw [State.roster_some current, State.roster_some (s := s.frameCounted j p) rfl]
      rfl
    rw [e, State.frameEnds]
    obtain e | ⟨reason, -, e⟩ := (s.frameCounted j p).decideAtFrame_cases j.frameSent
    · rwa [e]
    · rw [e]
      exact (counted.endCurrent rfl reason).same (State.sameBooks rfl rfl rfl rfl)

theorem State.Accounts.spacingEnds {s : State} (h : s.Accounts) : s.spacingEnds.Accounts := by
  obtain e | ⟨-, none, e⟩ | ⟨j, -, current, ⟨reason, e⟩ | ⟨u, rest, jobs, -, -, e⟩ | e⟩ := s.spacingEnds_cases
  · rwa [e]
  · rw [e]
    exact h.same (State.takeOrIdle_sameBooks none)
  · rw [e]
    have taken : (s.endCurrent j reason).takeOrIdle.Accounts :=
      (h.endCurrent current reason).same (State.takeOrIdle_sameBooks rfl)
    obtain ⟨-, e⟩ | ⟨-, e⟩ := (s.endCurrent j reason).afterSpacingEnd_cases
    · rw [e]
      exact taken.same (State.sameBooks rfl rfl rfl rfl)
    · rwa [e]
  · rw [e]
    exact h.same (State.park_sameBooks jobs current)
  · rw [e]
    exact h.same (State.sameBooks rfl (by simp [current]) rfl rfl)

theorem State.Accounts.cutCurrent {s : State} (h : s.Accounts) : s.cutCurrent.Accounts := by
  obtain ⟨-, e⟩ | ⟨j, current, e⟩ := s.cutCurrent_cases
  · rwa [e]
  · rw [e]
    exact h.endCurrent current _

theorem State.Accounts.stopEngine {s : State} (h : s.Accounts) : s.stopEngine.Accounts := by
  have stops (t : State) (ok : t.Accounts) : t.cutCurrent.enterStopped.Accounts :=
    ok.cutCurrent.same (State.sameBooks rfl rfl rfl rfl)
  unfold State.stopEngine
  split
  · exact stops s.cutFrame (h.same (State.sameBooks rfl rfl rfl rfl))
  · exact stops s h
  · exact stops s h
  · exact h

theorem State.Books.resume {s : State} (h : s.Books) : s.handleResume.1.Accounts := by
  unfold State.handleResume State.resumeEngine
  split
  · next stopped =>
    split
    · exact h.same (State.sameBooks rfl rfl rfl rfl)
    · exact h.same (State.takeOrIdle_sameBooks (h.coherent.2.1 (.inr stopped)))
  all_goals exact h.accounts

/-! ### Jobs and keys -/

theorem State.Books.enrolled {s : State} (h : s.Books) {source : Source} {spec : JobSpec}
    (admits : s.admissionRefusal spec = none) (idle : ∀ k, source = .key k → keyLives s.keys k = none) :
    (s.enrol source spec).admitted.Accounts := by
  have coherent : (s.enrol source spec).engine.Coherent := h.coherent
  exact (h.accounts.enrol admits idle).same (State.admitted_sameBooks coherent)

theorem State.Books.send {s : State} (h : s.Books) (spec : JobSpec) : (s.send spec).1.Accounts := by
  unfold State.send
  split
  · exact h.accounts
  · next admits => exact h.enrolled admits (by simp)

theorem State.Books.release {s : State} (h : s.Books) (id : Nat) : (s.release id).1.Accounts := by
  unfold State.release
  split
  · exact h.accounts
  · next j found =>
    split
    · exact h.accounts
    · split
      · exact h.accounts
      · exact h.accounts.endSoon h.placed found _

theorem State.Books.cancel {s : State} (h : s.Books) (id : Nat) : (s.cancel id).1.Accounts := by
  unfold State.cancel
  split
  · exact h.accounts
  · next j found =>
    split
    · exact h.accounts
    · split
      · next waiting =>
        exact h.accounts.removeJob (State.queued_of_find h.placed found (by simp [waiting])) _
      · exact h.accounts.endSoon h.placed found _

theorem State.Books.keyRelease {s : State} (h : s.Books) (k : Fin 8) (id : Nat) :
    (s.keyRelease k id).Accounts := by
  unfold State.keyRelease
  split
  · exact h.accounts
  · next j found =>
    split
    · exact h.accounts.endSoon h.placed found _
    · exact h.accounts

theorem State.Books.holdExpires {s : State} (h : s.Books) (id : Nat) : (s.holdExpires id).Accounts := by
  unfold State.holdExpires
  split
  · exact h.accounts
  · next j found =>
    split
    · exact h.accounts
    · split
      · exact h.accounts.endSoon h.placed found _
      · exact h.accounts

/-- A key record that keeps its live job id and its binding is replaced. -/
theorem State.setKey_sameBooks {s : State} {k : Fin 8} {r : KeyRec} (live : r.live = keyLives s.keys k)
    (binding : r.binding = keyBindings s.keys k) : (s.setKey k r).SameBooks s := by
  refine State.sameBooks_keys rfl rfl rfl ?_ ?_
  · rw [State.setKey, keyLives_set]
    funext m
    split
    · next same => rw [same, live]
    · rfl
  · rw [State.setKey, keyBindings_set]
    funext m
    split
    · next same => rw [same, binding]
    · rfl

theorem KeyRec.edge_keeps (r : KeyRec) (high : Bool) (due : Timer) :
    (r.edge high due).live = r.live ∧ (r.edge high due).binding = r.binding := by
  unfold KeyRec.edge
  split <;> exact ⟨rfl, rfl⟩

theorem State.keyEdge_sameBooks (k : Fin 8) (high : Bool) (s : State) : (s.keyEdge k high).SameBooks s := by
  unfold State.keyEdge
  split
  · obtain ⟨live, binding⟩ := s.keys[k].edge_keeps high (debounceFrom s.settings s.now)
    exact State.SameBooks.trans (State.setKey_sameBooks (s := s.setKeyLine k high) live binding)
      (State.sameBooks rfl rfl rfl rfl)
  · exact State.sameBooks rfl rfl rfl rfl

theorem State.reportKey_sameBooks (k : Fin 8) (down : Bool) (s : State) :
    (s.reportKey k down).SameBooks s := State.sameBooks rfl rfl rfl rfl

/-- What a debounce does first: the key takes a state, and its notice is posted (06 R107, R109). -/
theorem State.Books.debounced {s : State} (h : s.Books) (k : Fin 8) (state : KeyState) (down : Bool) :
    ((s.setKey k { s.keys[k] with state := state, expiry := .stopped }).reportKey k down).Books where
  coherent := h.coherent
  placed := h.placed
  accounts := h.same ((State.reportKey_sameBooks ..).trans (State.setKey_sameBooks rfl rfl))
  images := h.images

theorem State.Books.submitPress {s : State} (h : s.Books) (k : Fin 8) : (s.submitPress k).Accounts := by
  unfold State.submitPress
  split
  · exact h.accounts
  · split
    · exact h.same (State.sameBooks rfl rfl rfl rfl)
    · next idle =>
      split
      · exact h.same (State.sameBooks rfl rfl rfl rfl)
      · next admits =>
        refine h.enrolled admits fun m same => ?_
        obtain rfl : k = m := by simpa using same
        exact idle

theorem State.Books.debounceExpires {s : State} (h : s.Books) (k : Fin 8) :
    (s.debounceExpires k).Accounts := by
  unfold State.debounceExpires
  split
  · split
    · exact (h.debounced k .down true).submitPress k
    · unfold State.keyReleased State.handRelease
      split
      · exact (h.debounced k .up false).keyRelease k _
      · exact (h.debounced k .up false).accounts
    · exact h.same (State.setKey_sameBooks rfl rfl)
    · exact h.accounts
    · exact h.accounts
  · exact h.accounts

/-! ### Bindings, settings and the library -/

theorem State.Books.bindKey {s : State} (h : s.Books) (k : Fin 8) (spec : JobSpec) :
    (s.bindKey k spec).1.Accounts := by
  unfold State.bindKey
  split
  · exact h.accounts
  all_goals
    split
    · exact h.accounts
    · next fits =>
      refine ⟨h.accounts.low, h.accounts.high, ?_⟩
      refine State.Ledger.rebind h.accounts.ledger k (some spec) (by simp) ?_ (by rw [keyBindings_set])
        (fun u => ?_) fun spec' mem => ?_
      · rw [keyLives_set]
        funext m
        split
        · next same => rw [same]; rfl
        · rfl
      · rw [Library.claimBinding_refs, Library.unclaimBinding_refs]
        rfl
      · obtain rfl : spec = spec' := by simpa using mem
        exact State.usable_of_spec fits

theorem State.Books.unbindKey {s : State} (h : s.Books) (k : Fin 8) : (s.unbindKey k).1.Accounts := by
  unfold State.unbindKey
  split
  · exact h.accounts
  all_goals
    refine ⟨h.accounts.low, h.accounts.high, ?_⟩
    refine State.Ledger.rebind h.accounts.ledger k none (by simp) ?_ (by rw [keyBindings_set])
      (fun u => ?_) (by simp)
    · rw [keyLives_set]
      funext m
      split
      · next same => rw [same]; rfl
      · rfl
    · rw [Library.unclaimBinding_refs]
      rfl

theorem KeyRec.enableChanged_keeps (r : KeyRec) (enabled high : Bool) :
    (r.enableChanged enabled high).live = r.live ∧ (r.enableChanged enabled high).binding = r.binding := by
  unfold KeyRec.enableChanged
  split <;> exact ⟨rfl, rfl⟩

theorem State.enableChanged_sameBooks (old : BitVec 8) (s : State) : (s.enableChanged old).SameBooks s := by
  refine State.sameBooks_keys rfl rfl rfl (funext fun k => ?_) (funext fun k => ?_)
  · simp only [keyLives, State.enableChanged, Fin.getElem_fin, Vector.getElem_ofFn]
    split
    · rfl
    · exact (KeyRec.enableChanged_keeps ..).1
  · simp only [keyBindings, State.enableChanged, Fin.getElem_fin, Vector.getElem_ofFn]
    split
    · rfl
    · exact (KeyRec.enableChanged_keeps ..).2

theorem State.settingActs_sameBooks (i : SettingId) (old : BitVec 8) (s : State) :
    (s.settingActs i old).SameBooks s := by
  cases i
  case keyEnable => exact s.enableChanged_sameBooks old
  case rxEnable =>
    change State.SameBooks (if s.settings.rxEnable then s.receiverOn else s.receiverOff) s
    split <;> exact State.sameBooks (by simp) (by simp) (by simp) (by simp)
  all_goals
    exact State.sameBooks (by simp) (by simp) (by simp) (by simp [State.settingActs])

theorem State.setSetting_sameBooks (id : Byte) (v : Nat) (s : State) : (s.setSetting id v).1.SameBooks s := by
  unfold State.setSetting State.putSetting
  (repeat' split) <;> try exact State.sameBooks rfl rfl rfl rfl
  exact (State.settingActs_sameBooks ..).trans (State.sameBooks rfl rfl rfl rfl)

/-- The states of the slots change, no template in use among them. -/
theorem State.Accounts.restate {s t : State} (h : s.Accounts) (queue : t.queue = s.queue)
    (engine : t.engine = s.engine) (keys : t.keys = s.keys) (refs : t.lib.refs = s.lib.refs)
    (usable : ∀ u, s.lib.refs u ≠ 0 → (s.lib.states u).usable.isSome → (t.lib.states u).usable.isSome) :
    t.Accounts := by
  refine ⟨queue ▸ h.low, queue ▸ h.high, ?_⟩
  rw [State.roster_congr queue (by rw [engine])]
  exact h.ledger.restate refs (by rw [keys]) (by rw [keys]) usable

theorem State.Accounts.abandon {s t : State} (h : s.Accounts) (queue : t.queue = s.queue)
    (engine : t.engine = s.engine) (keys : t.keys = s.keys) (lib : t.lib = s.lib.abandon) : t.Accounts := by
  refine h.restate queue engine keys (by rw [lib, Library.abandon_refs]) fun u _ usable => ?_
  rw [lib, Library.abandon_states]
  split
  · exact SlotState.restored_usable usable
  · exact usable

theorem State.Accounts.tplOpen {s : State} (h : s.Accounts) (t : Fin 16) (mode : DraftMode) :
    (s.tplOpen t mode).1.Accounts := by
  obtain e | ⟨-, empty, e⟩ | ⟨d, -, -, unused, e⟩ := s.tplOpen_cases t mode
  · rwa [e]
  · rw [e]
    refine h.restate rfl rfl rfl (Library.setState_refs ..) fun u _ usable => ?_
    rw [State.openDraft_states]
    split
    · next same =>
      rw [same, empty] at usable
      contradiction
    · exact usable
  · rw [e]
    refine h.restate (by simp [State.openDraft]) (by simp [State.openDraft]) (by simp [State.openDraft]) ?_
      fun u used usable => ?_
    · exact (Library.setState_refs ..).trans (by simp)
    · rw [State.openDraft_states]
      split
      · next same => exact absurd (same ▸ unused) used
      · simpa using usable

theorem State.Accounts.tplErase {s : State} (h : s.Accounts) (t : Fin 16) : (s.tplErase t).1.Accounts := by
  obtain e | ⟨d, -, unused, e⟩ := s.tplErase_cases t
  · rwa [e]
  · rw [e]
    refine h.restate (by simp) (by simp) (by simp) (by simp) fun u used usable => ?_
    have states := Library.setFresh_states t u .empty (s.slotLeavesReady t).lib
    rw [states]
    split
    · next same => exact absurd (same ▸ unused) used
    · simpa using usable

theorem State.Accounts.tplCommit {s : State} (h : s.Accounts) : s.tplCommit.1.Accounts := by
  obtain e | ⟨d, -, -, e⟩ := s.tplCommit_cases
  · rwa [e]
  · rw [e]
    refine h.restate rfl rfl rfl (Library.setFresh_refs ..) fun u _ usable => ?_
    rw [State.install_states]
    split
    · rfl
    · exact usable

theorem State.Accounts.tplAbort {s : State} (h : s.Accounts) : s.tplAbort.1.Accounts := by
  obtain e | e := s.tplAbort_cases
  · rwa [e]
  · rw [e]
    exact h.abandon rfl rfl rfl rfl

theorem State.Accounts.draftExpires {s : State} (h : s.Accounts) : s.draftExpires.Accounts := by
  obtain e | e := s.draftExpires_lib
  · exact h.same (State.sameBooks (by simp) (by simp) e (by simp))
  · exact h.abandon (by simp) (by simp) (by simp) e

theorem State.tplPut_sameBooks (data : Option PartData) (s : State) : (s.tplPut data).1.SameBooks s := by
  unfold State.tplPut
  (repeat' split) <;> exact ⟨rfl, rfl, rfl, rfl, rfl, rfl⟩

theorem State.readDraft_sameBooks (t : Fin 16) (p : Part) (s : State) : (s.readDraft t p).1.SameBooks s := by
  unfold State.readDraft
  (repeat' split) <;> exact ⟨rfl, rfl, rfl, rfl, rfl, rfl⟩

theorem State.Books.dispatch {s : State} (h : s.Books) (k : RequestKind) (payload : List Byte) :
    (s.dispatch k payload).1.Accounts := by
  cases k
  case send =>
    change (s.handleSend payload).1.Accounts
    unfold State.handleSend
    (repeat' split) <;> first | exact h.accounts | exact h.send _
  case release =>
    change (s.handleRelease payload).1.Accounts
    unfold State.handleRelease
    split <;> first | exact h.accounts | exact h.release _
  case cancel =>
    change (s.handleCancel payload).1.Accounts
    unfold State.handleCancel
    split <;> first | exact h.accounts | exact h.cancel _
  case flush => exact h.accounts.flush
  case stop => exact h.accounts.stopEngine
  case resume => exact h.resume
  case bind =>
    change (s.handleBind payload).1.Accounts
    unfold State.handleBind
    (repeat' split) <;> first | exact h.accounts | exact h.bindKey ..
  case unbind =>
    change (s.handleUnbind payload).1.Accounts
    unfold State.handleUnbind
    (repeat' split) <;> first | exact h.accounts | exact h.unbindKey ..
  case set =>
    change (s.handleSet payload).1.Accounts
    unfold State.handleSet
    (repeat' split) <;> first | exact h.accounts | exact h.same (State.setSetting_sameBooks ..)
  case tplOpen =>
    change (s.handleOpen payload).1.Accounts
    unfold State.handleOpen
    (repeat' split) <;> first | exact h.accounts | exact h.accounts.tplOpen ..
  case tplPut =>
    change (s.handlePut payload).1.Accounts
    unfold State.handlePut
    (repeat' split) <;> first | exact h.accounts | exact h.same (State.tplPut_sameBooks ..)
  case tplCommit => exact h.accounts.tplCommit
  case tplAbort => exact h.accounts.tplAbort
  case tplErase =>
    change (s.handleErase payload).1.Accounts
    unfold State.handleErase
    (repeat' split) <;> first | exact h.accounts | exact h.accounts.tplErase ..
  case tplRead =>
    change (s.handleRead payload).1.Accounts
    unfold State.handleRead
    (repeat' split) <;>
      first
        | exact h.accounts
        | exact h.same (State.readDraft_sameBooks ..)
        | exact h.same (State.sameBooks (by simp) (by simp) (by simp) (by simp))
  all_goals
    exact h.same (State.sameBooks (by simp [State.dispatch]) (by simp [State.dispatch])
      (by simp [State.dispatch]) (by simp [State.dispatch]))

/-! ### The invariant -/

theorem State.resumeTimers_sameBooks (s : State) : s.resumeTimers.SameBooks s := by
  refine ⟨?_, rfl, rfl, rfl, ?_, ?_⟩
  · simp [State.roster, State.resumeTimers, State.mapTimers]
  · funext k
    simp [State.resumeTimers, State.mapTimers, keyLives]
  · funext k
    simp [State.resumeTimers, State.mapTimers, keyBindings]

theorem State.latencyEnds_sameBooks (s : State) : s.latencyEnds.SameBooks s := by
  unfold State.latencyEnds State.becomeAwake
  split
  · next byRxin _ =>
    exact State.SameBooks.trans (State.sameBooks (by simp) (by simp) (by simp) (by simp))
      s.resumeTimers_sameBooks
  all_goals exact State.sameBooks rfl rfl rfl rfl

theorem State.delayExpires_sameBooks (s : State) : s.delayExpires.SameBooks s := by
  unfold State.delayExpires
  split
  · refine ⟨?_, rfl, rfl, rfl, ?_, ?_⟩
    · simp [State.roster, State.enterDoze, State.mapTimers]
    · funext k
      simp [State.enterDoze, State.mapTimers, keyLives]
    · funext k
      simp [State.enterDoze, State.mapTimers, keyBindings]
  · exact State.sameBooks rfl rfl rfl rfl

end Sys2Proof.Machine
end

section
/-! PROOF. The books of the jobs: the invariant (O57). -/

namespace Sys2Proof.Machine

/-- The two parts of the books that are kept for reasons of their own. -/
theorem State.Books.of {s t : State} (h : s.Books) (coherent : t.EngineCoherent) (placed : t.Holds Placed)
    (accounts : t.Accounts) (moves : s.StoreMoves t) : t.Books :=
  ⟨coherent, placed, accounts, h.images.moves h.accounts.ledger.image_closed moves⟩

/-- A step that leaves queue, engine and store as they are. -/
theorem State.Books.still {s t : State} (h : s.Books) (queue : t.queue = s.queue) (engine : t.engine = s.engine)
    (accounts : t.Accounts) (moves : s.StoreMoves t) : t.Books :=
  h.of (Engine.Coherent.same h.coherent engine) (h.placed.same queue engine) accounts moves

/-- A step that leaves queue, engine, library, keys and store as they are. -/
theorem State.Books.beyond {s t : State} (h : s.Books) (queue : t.queue = s.queue) (engine : t.engine = s.engine)
    (lib : t.lib = s.lib) (keys : t.keys = s.keys) (store : t.store = s.store) : t.Books :=
  h.still queue engine (h.same (State.sameBooks queue (by rw [engine]) lib keys)) (State.storeMoves_of_eq store)

theorem State.Books.hardReset {s : State} (h : s.Books) (reason : ResetReason) (strap : Bool) :
    (s.hardReset reason strap).Books := by
  refine h.of (State.engineCoherent_kept.hardReset _ _ _ h.coherent) (placed_rules.kept.hardReset _ _ _ h.placed)
    (State.hardReset_accounts _ _ (h.images.boot Image.blank_closed)) ?_
  rw [State.StoreMoves, State.hardReset_store]
  exact .ends

theorem State.keyLineChanges_sameBooks (k : Fin 8) (high : Bool) (s : State) :
    (s.keyLineChanges k high).SameBooks s := by
  unfold State.keyLineChanges
  split
  · exact State.sameBooks rfl rfl rfl rfl
  · split
    · exact State.SameBooks.trans (State.sameBooks (by simp) (by simp) (by simp) (by simp))
        (s.keyEdge_sameBooks k high)
    · exact s.keyEdge_sameBooks k high

theorem State.books_kept : Kept State.Books where
  pending _ _ h := h.beyond rfl rfl rfl rfl rfl
  clock _ _ h := h.beyond rfl rfl rfl rfl rfl
  delay _ _ h := h.beyond rfl rfl rfl rfl rfl
  link _ _ h _ := h.beyond rfl rfl rfl rfl rfl
  dispatch s k payload h awake :=
    h.of (State.engineCoherent_kept.dispatch _ _ _ h.coherent awake)
      (placed_rules.kept.dispatch _ _ _ h.placed awake) (h.dispatch k payload) (s.dispatch_storeMoves k payload)
  softReset s strap h awake :=
    h.of (State.engineCoherent_kept.softReset _ _ h.coherent awake)
      (placed_rules.kept.softReset _ _ h.placed awake) (State.softReset_accounts h.accounts strap)
      (State.storeMoves_of_eq (by simp))
  hardReset _ reason strap h := h.hardReset reason strap
  setVdd _ _ h := h.beyond rfl rfl rfl rfl rfl
  setReset _ _ h := h.beyond rfl rfl rfl rfl rfl
  compareSupply s h _ :=
    h.still (by simp) (by simp) (h.same (State.sameBooks (by simp) (by simp) (by simp) (by simp)))
      s.compareSupply_store.moves
  writeCompletes s h _ :=
    h.still (by simp) (by simp) (h.same (State.sameBooks (by simp) (by simp) (by simp) (by simp)))
      s.writeCompletes_storeMoves
  eraseEnds s h _ :=
    h.still (by simp) (by simp) (h.same (State.sameBooks (by simp) (by simp) (by simp) (by simp)))
      s.eraseEnds_storeMoves
  draftExpires s h _ :=
    h.still (by simp) (by simp) h.accounts.draftExpires (State.storeMoves_of_eq (by simp))
  intervalEnds s h awake :=
    h.of (State.engineCoherent_kept.intervalEnds _ h.coherent awake)
      (placed_rules.kept.intervalEnds _ h.placed awake) h.accounts.intervalEnds
      (State.storeMoves_of_eq (by simp))
  spacingEnds s h awake :=
    h.of (State.engineCoherent_kept.spacingEnds _ h.coherent awake)
      (placed_rules.kept.spacingEnds _ h.placed awake) h.accounts.spacingEnds
      (State.storeMoves_of_eq (by simp))
  holdExpires s id h awake :=
    h.of (State.engineCoherent_kept.holdExpires _ _ h.coherent awake)
      (placed_rules.kept.holdExpires _ _ h.placed awake) (h.holdExpires id)
      (State.storeMoves_of_eq (by simp))
  tailExpires _ h _ := h.beyond (by simp) (by simp) (by simp) (by simp) (by simp)
  setKeyLine _ _ _ h := h.beyond rfl rfl rfl rfl rfl
  keyLineChanges s k high h :=
    h.still (by simp) (by simp) (h.same (s.keyLineChanges_sameBooks k high)) (State.storeMoves_of_eq (by simp))
  debounceExpires s k h awake :=
    h.of (State.engineCoherent_kept.debounceExpires _ _ h.coherent awake)
      (placed_rules.kept.debounceExpires _ _ h.placed awake) (h.debounceExpires k)
      (State.storeMoves_of_eq (by simp))
  setRxinLine _ _ h := h.beyond rfl rfl rfl rfl rfl
  rxinChanges _ _ h := h.beyond (by simp) (by simp) (by simp) (by simp) (by simp)
  confirmGlitch _ h _ := h.beyond (by simp) (by simp) (by simp) (by simp) (by simp)
  burstEnds _ h _ := h.beyond (by simp) (by simp) (by simp) (by simp) (by simp)
  markTooLong _ h _ := h.beyond (by simp) (by simp) (by simp) (by simp) (by simp)
  blankTailExpires _ h _ := h.beyond (by simp) (by simp) (by simp) (by simp) (by simp)
  matchingEnds _ h _ := h.beyond (by simp) (by simp) (by simp) (by simp) (by simp)
  windowExpires _ h _ := h.beyond (by simp) (by simp) (by simp) (by simp) (by simp)
  learnExpires _ h _ := h.beyond (by simp) (by simp) (by simp) (by simp) (by simp)
  delayExpires s h awake :=
    h.of (State.engineCoherent_kept.delayExpires _ h.coherent awake)
      (placed_rules.kept.delayExpires _ h.placed awake) (h.same s.delayExpires_sameBooks)
      (State.storeMoves_of_eq (by simp))
  wake _ _ _ h := h.beyond (by simp) (by simp) (by simp) (by simp) (by simp)
  latencyEnds s h :=
    h.of (State.engineCoherent_kept.latencyEnds _ h.coherent) (placed_rules.kept.latencyEnds _ h.placed)
      (h.same s.latencyEnds_sameBooks) s.latencyEnds_store.moves

/-! ### The books as the spec writes them -/

theorem State.claims_eq (s : State) (t : Fin 16) :
    s.claims t = s.roster.countP (fun e => e.spec.template = t) + namedBy (keyBindings s.keys) t := by
  rw [State.claims, State.roster_eq, Multiset.coe_countP, List.countP_map]
  rfl

theorem State.mem_roster {s : State} {e : JobEntry} : e ∈ s.roster ↔ ∃ j ∈ s.liveJobs, j.entry = e := by
  rw [State.roster_eq, Multiset.mem_coe, List.mem_map]

/-- 01 R7, 04 R57, R63, 06 R114: the accounts, spelled out. -/
theorem State.accounts_iff (s : State) :
    s.Accounts ↔ s.IdsDistinct ∧ s.CountsExact ∧ s.KeysFollowJobs := by
  have ids : s.roster.map JobEntry.id = ((s.liveJobs.map Job.id : List Nat) : Multiset Nat) := by
    rw [State.roster_eq, Multiset.map_coe, List.map_map]
    rfl
  constructor
  · intro h
    refine ⟨⟨?_, fun j live => ?_, h.low, h.high⟩, fun t => ⟨?_, h.ledger.inUse t⟩, fun k => ⟨fun id lives => ?_,
      fun j live source => ?_⟩⟩
    · exact Multiset.coe_nodup.1 (ids ▸ h.ledger.distinct)
    · exact h.ledger.range j.entry (State.mem_roster.2 ⟨j, live, rfl⟩)
    · rw [State.claims_eq]
      exact h.ledger.counts t
    · obtain ⟨e, mem, same, source⟩ := h.ledger.named k id lives
      obtain ⟨j, live, rfl⟩ := State.mem_roster.1 mem
      exact ⟨j, live, same, source⟩
    · exact h.ledger.owns k j.entry (State.mem_roster.2 ⟨j, live, rfl⟩) source
  · rintro ⟨⟨distinct, range, low, high⟩, counts, keys⟩
    refine ⟨low, high, ids ▸ Multiset.coe_nodup.2 distinct, fun e mem => ?_, fun t => ?_, fun t => (counts t).2,
      fun k id lives => ?_, fun k e mem source => ?_⟩
    · obtain ⟨j, live, rfl⟩ := State.mem_roster.1 mem
      exact range j live
    · rw [← State.claims_eq]
      exact (counts t).1
    · obtain ⟨j, live, same, source⟩ := (keys k).1 id lives
      exact ⟨j.entry, State.mem_roster.2 ⟨j, live, rfl⟩, same, source⟩
    · obtain ⟨j, live, rfl⟩ := State.mem_roster.1 mem
      exact (keys k).2 j live source

/-- Settles O57: the books as a ledger of the live jobs, kept by each command. -/
theorem stepKeepsTheBooks : Obligations.StepKeepsTheBooks := by
  rintro s t stepped ⟨coherent, placed, room, ids, counts, keys, images⟩
  have before : s.Books := ⟨coherent, placed, s.accounts_iff.2 ⟨ids, counts, keys⟩, images⟩
  have after : t.Books := State.books_kept.step before stepped
  obtain ⟨ids, counts, keys⟩ := t.accounts_iff.1 after.accounts
  exact ⟨after.coherent, after.placed, queueRoom_rules.kept.step room stepped, ids, counts, keys, after.images⟩

end Sys2Proof.Machine
end

section
/-! PROOF. The draft and DOZE (01 R2, 10 R189 to R191): two of the invariants of reception. -/

namespace Sys2Proof.Machine

/-! ### The draft -/

/-- The slot and the mode of the Draft Record. -/
def Library.bound (l : Library) : Option (Fin 16 × DraftMode) := l.draft.map fun d => (d.slot, d.mode)

/-- 01 R2: the bound slot, and no other, is DRAFT or REVISING, as the mode says. -/
def BoundSlots (bound : Option (Fin 16 × DraftMode)) (states : Fin 16 → SlotState) : Prop :=
  match bound with
  | none => ∀ t, (states t).isBound = false
  | some (slot, mode) => (∀ t, (states t).isBound = decide (t = slot)) ∧ (states slot = .draft ↔ mode = .new)

theorem State.draftBound_iff (s : State) : s.DraftBound ↔ BoundSlots s.lib.bound s.lib.states := by
  unfold State.DraftBound Library.bound
  cases s.lib.draft <;> exact Iff.rfl

theorem Library.bound_of_draft {l l' : Library} (draft : l'.draft = l.draft) : l'.bound = l.bound := by
  rw [Library.bound, Library.bound, draft]

theorem State.DraftBound.same {s t : State} (h : s.DraftBound) (bound : t.lib.bound = s.lib.bound)
    (states : t.lib.states = s.lib.states) : t.DraftBound := by
  rw [State.draftBound_iff] at h ⊢
  rw [bound, states]
  exact h

theorem State.DraftBound.lib {s t : State} (h : s.DraftBound) (lib : t.lib = s.lib) : t.DraftBound :=
  State.DraftBound.same h (by rw [lib]) (by rw [lib])

/-- A slot that is not bound takes a state that is not bound either. -/
theorem State.DraftBound.replaced {s t : State} (h : s.DraftBound) (bound : t.lib.bound = s.lib.bound) {u : Fin 16}
    {st : SlotState} (old : (s.lib.states u).isBound = false) (new : st.isBound = false)
    (states : ∀ v, t.lib.states v = if v = u then st else s.lib.states v) : t.DraftBound := by
  have kinds (v : Fin 16) : (t.lib.states v).isBound = (s.lib.states v).isBound := by
    rw [states]
    split
    · next same => rw [same, new, old]
    · rfl
  rw [State.draftBound_iff] at h ⊢
  rw [bound]
  cases draft : s.lib.bound with
  | none =>
    rw [draft] at h
    exact fun v => (kinds v).trans (h v)
  | some d =>
    obtain ⟨slot, mode⟩ := d
    rw [draft] at h
    obtain ⟨bounds, drafts⟩ := h
    refine ⟨fun v => (kinds v).trans (bounds v), ?_⟩
    rw [states]
    split
    · next same =>
      have self := bounds slot
      rw [same, old] at self
      simp at self
    · exact drafts

/-- The draft of a slot begins (01 R9). -/
theorem State.DraftBound.opened {s t : State} (h : s.DraftBound) (free : s.lib.draft = none) {u : Fin 16}
    {mode : DraftMode} {st : SlotState} (bound : t.lib.bound = some (u, mode)) (new : st.isBound = true)
    (fits : st = .draft ↔ mode = .new)
    (states : ∀ v, t.lib.states v = if v = u then st else s.lib.states v) : t.DraftBound := by
  rw [State.draftBound_iff] at h ⊢
  rw [show s.lib.bound = none by rw [Library.bound, free]; rfl] at h
  rw [bound]
  refine ⟨fun v => ?_, by rw [states, if_pos rfl]; exact fits⟩
  rw [states]
  split
  · next same => simp [new, same]
  · next other => simpa [other] using h v

/-- The draft ends: its slot is bound no longer (01 R16, R17). -/
theorem State.DraftBound.closed {s t : State} (h : s.DraftBound) {d : Draft} (draft : s.lib.draft = some d)
    (bound : t.lib.bound = none) (new : (t.lib.states d.slot).isBound = false)
    (others : ∀ v, v ≠ d.slot → t.lib.states v = s.lib.states v) : t.DraftBound := by
  rw [State.draftBound_iff] at h ⊢
  rw [show s.lib.bound = some (d.slot, d.mode) by rw [Library.bound, draft]; rfl] at h
  rw [bound]
  intro v
  by_cases same : v = d.slot
  · rw [same, new]
  · rw [others v same, h.1 v]
    exact decide_eq_false same

theorem SlotState.restored_isBound (st : SlotState) : st.restored.isBound = false := by cases st <;> rfl

theorem Library.abandon_draft (l : Library) : l.abandon.draft = none := by
  unfold Library.abandon
  split
  · assumption
  · rfl

/-- 01 R17: the draft is abandoned. -/
theorem State.DraftBound.abandon {s t : State} (h : s.DraftBound)
    (states : t.lib.states = s.lib.abandon.states) (draft : t.lib.draft = none) : t.DraftBound := by
  cases old : s.lib.draft with
  | none =>
    refine State.DraftBound.same h (Library.bound_of_draft (draft.trans old.symm)) ?_
    rw [states]
    funext u
    rw [Library.abandon_states]
    simp [old]
  | some d =>
    refine State.DraftBound.closed h old (by rw [Library.bound, draft]; rfl) ?_ fun v other => ?_
    · rw [states, Library.abandon_states]
      simp [old, SlotState.restored_isBound]
    · rw [states, Library.abandon_states]
      simp [old, other.symm]

@[simp] theorem State.tplPut_bound (data : Option PartData) (s : State) :
    (s.tplPut data).1.lib.bound = s.lib.bound := by
  unfold State.tplPut
  split
  · rfl
  · next d draft =>
    simp only [Library.bound, draft]
    (repeat' split) <;> rfl

@[simp] theorem State.readDraft_bound (t : Fin 16) (p : Part) (s : State) :
    (s.readDraft t p).1.lib.bound = s.lib.bound := by
  unfold State.readDraft
  split
  · rfl
  · next d draft =>
    simp only [Library.bound, draft]
    split
    · simp [draft]
    · rfl

theorem State.DraftBound.dispatch {s : State} (h : s.DraftBound) (k : RequestKind) (payload : List Byte) :
    (s.dispatch k payload).1.DraftBound := by
  have same {t : State} (draft : t.lib.draft = s.lib.draft) (states : t.lib.states = s.lib.states) :
      t.DraftBound := State.DraftBound.same h (Library.bound_of_draft draft) states
  cases k
  case tplOpen =>
    change (s.handleOpen payload).1.DraftBound
    unfold State.handleOpen
    (repeat' split) <;> try exact h
    next t mode _ _ =>
    obtain e | ⟨free, -, e⟩ | ⟨d, free, ready, -, e⟩ := s.tplOpen_cases t mode
    · rwa [e]
    · rw [e]
      exact State.DraftBound.opened h free (u := t) (mode := .new) (st := .draft) rfl rfl (by simp)
        fun v => State.openDraft_states ..
    · rw [e]
      refine State.DraftBound.opened h free (u := t) (mode := .revise) (st := .revising d) rfl rfl (by simp)
        fun v => ?_
      simpa using State.openDraft_states t v .revise d (.revising d) (s.slotLeavesReady t)
  case tplErase =>
    change (s.handleErase payload).1.DraftBound
    unfold State.handleErase
    (repeat' split) <;> try exact h
    next t _ =>
    obtain e | ⟨d, ready, -, e⟩ := s.tplErase_cases t
    · rwa [e]
    · rw [e]
      refine State.DraftBound.replaced h (u := t) (st := .empty) ?_ (by rw [ready]; rfl) rfl fun v => ?_
      · exact Library.bound_of_draft (by simp [Library.setFresh])
      · simpa using Library.setFresh_states t v .empty (s.slotLeavesReady t).lib
  case tplCommit =>
    obtain e | ⟨d, draft, -, e⟩ := s.tplCommit_cases
    · rwa [State.dispatch, e]
    · rw [State.dispatch, e]
      refine State.DraftBound.closed h draft rfl ?_ fun v other => ?_
      · rw [State.install_states, if_pos rfl]
        rfl
      · rw [State.install_states, if_neg other]
  case tplAbort =>
    obtain e | e := s.tplAbort_cases
    · rwa [State.dispatch, e]
    · rw [State.dispatch, e]
      exact State.DraftBound.abandon h rfl (Library.abandon_draft _)
  case tplPut =>
    change (s.handlePut payload).1.DraftBound
    unfold State.handlePut
    (repeat' split) <;> first | exact h | exact State.DraftBound.same h (by simp) (by simp)
  case tplRead =>
    change (s.handleRead payload).1.DraftBound
    unfold State.handleRead
    (repeat' split) <;> first | exact h | exact State.DraftBound.same h (by simp) (by simp)
  all_goals exact same (by simp [State.dispatch]) (by simp [State.dispatch])

theorem slotLoaded_isBound (stored : Option Template) : (slotLoaded stored).isBound = false := by
  cases stored <;> rfl

theorem State.hardReset_lib (reason : ResetReason) (strap : Bool) (s : State) :
    (s.hardReset reason strap).lib = (s.endStoreOp.load s.store.boot.1 strap).lib := by
  simp [State.hardReset]

theorem State.softReset_draft (strap : Bool) (s : State) : (s.softReset strap).lib.draft = none := by
  simp [State.softReset, State.blocksReset, Library.afterReset]

theorem Library.mapExpiry_bound (f : Timer → Timer) (l : Library) : (l.mapExpiry f).bound = l.bound := by
  unfold Library.bound Library.mapExpiry
  rw [Option.map_map]
  rfl

theorem State.draftBound_kept : Kept State.DraftBound where
  pending _ _ h := h
  clock _ _ h := h
  delay _ _ h := h
  link _ _ h _ := h
  dispatch _ k payload h _ := State.DraftBound.dispatch h k payload
  softReset s strap h _ := State.DraftBound.abandon h (s.softReset_states strap) (s.softReset_draft strap)
  hardReset s reason strap _ := by
    rw [State.draftBound_iff, State.hardReset_lib]
    intro t
    rw [State.load_states]
    exact slotLoaded_isBound _
  setVdd _ _ h := h
  setReset _ _ h := h
  compareSupply _ h _ := State.DraftBound.lib h (by simp)
  writeCompletes _ h _ := State.DraftBound.lib h (by simp)
  eraseEnds _ h _ := State.DraftBound.lib h (by simp)
  draftExpires s h _ := by
    obtain same | abandoned := s.draftExpires_lib
    · exact State.DraftBound.lib h same
    · exact State.DraftBound.abandon h (by rw [abandoned]) (by rw [abandoned, Library.abandon_draft])
  intervalEnds _ h _ := State.DraftBound.same h (Library.bound_of_draft (by simp)) (by simp)
  spacingEnds _ h _ := State.DraftBound.same h (Library.bound_of_draft (by simp)) (by simp)
  holdExpires _ _ h _ := State.DraftBound.same h (Library.bound_of_draft (by simp)) (by simp)
  tailExpires _ h _ := State.DraftBound.lib h (by simp)
  setKeyLine _ _ _ h := h
  keyLineChanges _ _ _ h := State.DraftBound.lib h (by simp)
  debounceExpires _ _ h _ := State.DraftBound.same h (Library.bound_of_draft (by simp)) (by simp)
  setRxinLine _ _ h := h
  rxinChanges _ _ h := State.DraftBound.lib h (by simp)
  confirmGlitch _ h _ := State.DraftBound.lib h (by simp)
  burstEnds _ h _ := State.DraftBound.lib h (by simp)
  markTooLong _ h _ := State.DraftBound.lib h (by simp)
  blankTailExpires _ h _ := State.DraftBound.lib h (by simp)
  matchingEnds _ h _ := State.DraftBound.lib h (by simp)
  windowExpires _ h _ := State.DraftBound.lib h (by simp)
  learnExpires _ h _ := State.DraftBound.lib h (by simp)
  delayExpires s h _ := by
    refine State.DraftBound.same h ?_ s.delayExpires_states
    unfold State.delayExpires
    split
    · exact Library.mapExpiry_bound ..
    · rfl
  wake _ _ _ h := State.DraftBound.lib h (by simp)
  latencyEnds s h := by
    refine State.DraftBound.same h ?_ s.latencyEnds_states
    unfold State.latencyEnds State.becomeAwake
    split
    · next byRxin _ =>
      have lib : ((s.resumeTimers.receiverWakes byRxin).compareSupply).lib = s.resumeTimers.lib := by simp
      rw [lib]
      exact Library.mapExpiry_bound ..
    all_goals rfl

/-! ### DOZE -/

theorem State.dozeSound_of_awake {s : State} (awake : s.doze.state = .awake) : s.DozeSound :=
  ⟨fun asleep => absurd awake asleep, by simp [awake]⟩

/-- What a dozing part rests on is left as it is, or a wake source other than RXIN has been seen. -/
theorem State.DozeSound.same {s t : State} (h : s.DozeSound) (engine : t.engine = s.engine)
    (queue : t.queue = s.queue) (quiet : t.rx.isQuiet = s.rx.isQuiet) (rx : t.rx.state = s.rx.state)
    (tracker : t.tracker = s.tracker) (learn : t.learn = s.learn) (store : t.store = s.store)
    (link : t.link = s.link) (awake : t.doze.state ≠ .awake → s.doze.state ≠ .awake)
    (byRxin : t.doze.state = .waking true → s.doze.state = .waking true ∨ s.rx.state = .quiet) :
    t.DozeSound := by
  obtain ⟨still, waking⟩ := h
  refine ⟨fun asleep => ?_, fun wakes => ?_⟩
  · rw [engine, queue, quiet, tracker, learn, store, link]
    exact still (awake asleep)
  · rw [rx]
    obtain before | quiet := byRxin wakes
    · exact waking before
    · exact quiet

theorem State.wake_state (byRxin : Bool) (s : State) :
    (s.wake byRxin).doze.state = s.doze.state
      ∨ (s.doze.state = .dozing ∧ (s.wake byRxin).doze.state = .waking byRxin) := by
  unfold State.wake
  split
  · next dozing => exact .inr ⟨dozing, rfl⟩
  all_goals exact .inl rfl

theorem State.DozeSound.wake {s : State} (h : s.DozeSound) {byRxin : Bool}
    (quiet : byRxin = true → s.rx.state = .quiet) : (s.wake byRxin).DozeSound := by
  refine State.DozeSound.same h (by simp) (by simp) (by simp) (by simp) (by simp) (by simp) (by simp) (by simp)
    (fun asleep => ?_) fun wakes => ?_
  · obtain same | ⟨dozing, -⟩ := s.wake_state byRxin
    · rwa [same] at asleep
    · simp [dozing]
  · obtain same | ⟨-, waking⟩ := s.wake_state byRxin
    · exact .inl (same ▸ wakes)
    · exact .inr (quiet (by simpa [waking] using wakes))

theorem State.DozeSound.keyEdge {s : State} (h : s.DozeSound) (k : Fin 8) (high : Bool) :
    (s.keyEdge k high).DozeSound :=
  State.DozeSound.same h (by simp) (by simp) (by simp) (by simp) (by simp) (by simp) (by simp) (by simp)
    (by simp) fun wakes => .inl (by simpa using wakes)

theorem State.dozeSound_enterDoze {s : State} (quiet : s.isQuiet = true) : s.enterDoze.DozeSound := by
  simp only [State.isQuiet, Bool.and_eq_true, Bool.or_eq_true, decide_eq_true_eq, List.isEmpty_iff,
    Bool.not_eq_true'] at quiet
  obtain ⟨⟨⟨⟨⟨⟨⟨engine, queue⟩, -⟩, rx⟩, tracker⟩, learn⟩, store⟩, link⟩ := quiet
  have link' : s.enterDoze.link.isQuiet = s.link.isQuiet := rfl
  exact ⟨fun _ => ⟨engine, queue, rx, tracker, learn, store, link'.trans link⟩, nofun⟩

theorem State.dozeSound_kept : Kept State.DozeSound where
  pending _ _ h := h
  clock _ _ h := h
  delay _ _ h := h
  link s _ _ awake := State.dozeSound_of_awake awake
  dispatch s k payload _ awake := State.dozeSound_of_awake (by simp [awake])
  softReset s strap _ _ := State.dozeSound_of_awake (by simp [State.softReset, State.blocksReset])
  hardReset s reason strap _ :=
    State.dozeSound_of_awake (by simp [State.hardReset, State.load, State.blocksReset])
  setVdd _ _ h := h
  setReset _ _ h := h
  compareSupply _ _ awake := State.dozeSound_of_awake (by simp [awake])
  writeCompletes _ _ awake := State.dozeSound_of_awake (by simp [awake])
  eraseEnds _ _ awake := State.dozeSound_of_awake (by simp [awake])
  draftExpires _ _ awake := State.dozeSound_of_awake (by simp [awake])
  intervalEnds _ _ awake := State.dozeSound_of_awake (by simp [awake])
  spacingEnds _ _ awake := State.dozeSound_of_awake (by simp [awake])
  holdExpires _ _ _ awake := State.dozeSound_of_awake (by simp [awake])
  tailExpires _ _ awake := State.dozeSound_of_awake (by simp [awake])
  setKeyLine _ _ _ h := h
  keyLineChanges s k high h := by
    unfold State.keyLineChanges
    split
    · exact h
    · split
      · exact State.DozeSound.wake (State.DozeSound.keyEdge h k high) nofun
      · exact State.DozeSound.keyEdge h k high
  debounceExpires _ _ _ awake := State.dozeSound_of_awake (by simp [awake])
  setRxinLine _ _ h := h
  rxinChanges s high h := by
    unfold State.rxinChanges
    split
    · exact h
    · split
      · next awake => exact State.dozeSound_of_awake (by simp [awake])
      all_goals
        unfold State.wakeOnMark
        split
        · next mark => exact State.DozeSound.wake (s := s.setRxinLine high) h fun _ => mark.2.2
        · exact h
  confirmGlitch _ _ awake := State.dozeSound_of_awake (by simp [awake])
  burstEnds _ _ awake := State.dozeSound_of_awake (by simp [awake])
  markTooLong _ _ awake := State.dozeSound_of_awake (by simp [awake])
  blankTailExpires _ _ awake := State.dozeSound_of_awake (by simp [awake])
  matchingEnds _ _ awake := State.dozeSound_of_awake (by simp [awake])
  windowExpires _ _ awake := State.dozeSound_of_awake (by simp [awake])
  learnExpires _ _ awake := State.dozeSound_of_awake (by simp [awake])
  delayExpires s h awake := by
    unfold State.delayExpires
    split
    · next due => exact State.dozeSound_enterDoze due.2.2
    · exact h
  wake _ _ byRxin h := State.DozeSound.wake h (by simp [byRxin])
  latencyEnds s h := by
    unfold State.latencyEnds State.becomeAwake
    split
    · exact State.dozeSound_of_awake (by simp [State.resumeTimers])
    all_goals exact h

end Sys2Proof.Machine
end

section
/-! PROOF. The receiver (07 R124, R125, R132 to R135): states, slots, timers and blanking in agreement. -/

namespace Sys2Proof.Machine

/-! ### The receiver by itself -/

/-- 07 R124, R125, R132, R134: the receiver agrees with RX_ENABLE, RX_BLANK and the emission activity. -/
structure Receiver.Sound (rx : Receiver) (enabled blanks emits : Bool) : Prop where
  single : (rx.slotA.isFilling && rx.slotB.isFilling) = false
  filling : (rx.slotA.isFilling || rx.slotB.isFilling) = decide (rx.state = .inBurst)
  off : rx.state = .off ↔ enabled = false
  blanked : rx.state = .blanked ↔ enabled = true ∧ (blanks && (emits || rx.blankTail.isRunning)) = true
  burstEnd : rx.burstEnd ≠ .stopped → (rx.state = .inBurst ∨ rx.state = .discard) ∧ rx.filtered = .space
  markLimit : rx.markLimit ≠ .stopped → rx.state = .inBurst ∧ rx.filtered = .mark
  tail : emits = true → rx.blankTail = .stopped

theorem State.receiverSound_iff (s : State) :
    s.ReceiverSound ↔ s.rx.Sound s.settings.rxEnable s.settings.rxBlank s.engine.emitting :=
  ⟨fun ⟨a, b, c, d, e, f, g⟩ => ⟨a, b, c, d, e, f, g⟩, fun ⟨a, b, c, d, e, f, g⟩ => ⟨a, b, c, d, e, f, g⟩⟩

/-- Whether the receiver is neither OFF nor BLANKED. -/
def RxState.isOpen (st : RxState) : Prop := st ≠ .off ∧ st ≠ .blanked

namespace Receiver.Sound

variable {rx rx' : Receiver} {enabled blanks emits : Bool}

/-- What an open receiver rests on. -/
theorem of_open (h : rx.Sound enabled blanks emits) (was : rx.state.isOpen) :
    enabled = true ∧ (blanks && (emits || rx.blankTail.isRunning)) = false := by
  have on : enabled = true := by simpa using mt h.off.2 was.1
  refine ⟨on, ?_⟩
  have not := mt h.blanked.2 was.2
  simpa [on] using not

/-- The timers of a receiver outside bursts are stopped. -/
theorem timers_stopped (h : rx.Sound enabled blanks emits) (notBurst : rx.state ≠ .inBurst)
    (notDiscard : rx.state ≠ .discard) : rx.burstEnd = .stopped ∧ rx.markLimit = .stopped := by
  refine ⟨?_, ?_⟩
  · by_contra running
    exact (h.burstEnd running).1.elim notBurst notDiscard
  · by_contra running
    exact notBurst (h.markLimit running).1

theorem not_filling (h : rx.Sound enabled blanks emits) (notBurst : rx.state ≠ .inBurst) :
    rx.slotA.isFilling = false ∧ rx.slotB.isFilling = false := by
  have none := h.filling
  rw [decide_eq_false notBurst, Bool.or_eq_false_iff] at none
  exact none

/-- An unblanked receiver moves to another such state, the blank tail as it was. -/
theorem moves (h : rx.Sound enabled blanks emits) (was : rx.state.isOpen) (now : rx'.state.isOpen)
    (tail : rx'.blankTail = rx.blankTail) (single : (rx'.slotA.isFilling && rx'.slotB.isFilling) = false)
    (filling : (rx'.slotA.isFilling || rx'.slotB.isFilling) = decide (rx'.state = .inBurst))
    (burstEnd : rx'.burstEnd ≠ .stopped →
      (rx'.state = .inBurst ∨ rx'.state = .discard) ∧ rx'.filtered = .space)
    (markLimit : rx'.markLimit ≠ .stopped → rx'.state = .inBurst ∧ rx'.filtered = .mark) :
    rx'.Sound enabled blanks emits := by
  obtain ⟨on, idle⟩ := h.of_open was
  refine ⟨single, filling, ?_, ?_, burstEnd, markLimit, ?_⟩
  · simp [on, now.1]
  · rw [tail, idle]
    simp [now.2]
  · rw [tail]
    exact h.tail

/-- An unblanked receiver without a burst waits in DISCARD. -/
theorem waits (h : rx.Sound enabled blanks emits) (was : rx.state.isOpen) (notBurst : rx.state ≠ .inBurst)
    (state : rx'.state = .discard) (tail : rx'.blankTail = rx.blankTail) (slotA : rx'.slotA = rx.slotA)
    (slotB : rx'.slotB = rx.slotB) (markLimit : rx'.markLimit = rx.markLimit)
    (burstEnd : rx'.burstEnd ≠ .stopped → rx'.filtered = .space) : rx'.Sound enabled blanks emits := by
  obtain ⟨noA, noB⟩ := h.not_filling notBurst
  refine h.moves was (by rw [state]; exact ⟨nofun, nofun⟩) tail (by simp [slotA, noA])
    (by simp [slotA, slotB, noA, noB, state]) (fun running => ⟨.inr state, burstEnd running⟩) fun running => ?_
  rw [markLimit] at running
  exact absurd (h.markLimit running).1 notBurst

/-- A receiver without a burst and without timers. -/
theorem of_still (slots : rx.slotA.isFilling = false ∧ rx.slotB.isFilling = false)
    (timers : rx.burstEnd = .stopped ∧ rx.markLimit = .stopped) (notBurst : rx.state ≠ .inBurst)
    (off : rx.state = .off ↔ enabled = false)
    (blanked : rx.state = .blanked ↔ enabled = true ∧ (blanks && (emits || rx.blankTail.isRunning)) = true)
    (tail : emits = true → rx.blankTail = .stopped) : rx.Sound enabled blanks emits where
  single := by simp [slots.1]
  filling := by simp [slots.1, slots.2, notBurst]
  off := off
  blanked := blanked
  burstEnd running := absurd timers.1 running
  markLimit running := absurd timers.2 running
  tail := tail

/-- Whether the slots are FILLING, the filter and the moments are all that may change. -/
theorem same (h : rx.Sound enabled blanks emits) (slotA : rx'.slotA.isFilling = rx.slotA.isFilling)
    (slotB : rx'.slotB.isFilling = rx.slotB.isFilling) (state : rx'.state = rx.state)
    (burstEnd : rx'.burstEnd = rx.burstEnd) (markLimit : rx'.markLimit = rx.markLimit)
    (filtered : rx'.filtered = rx.filtered) (tail : rx'.blankTail = rx.blankTail) :
    rx'.Sound enabled blanks emits := by
  constructor
  · rw [slotA, slotB]; exact h.single
  · rw [slotA, slotB, state]; exact h.filling
  · rw [state]; exact h.off
  · rw [state, tail]; exact h.blanked
  · rw [burstEnd, state, filtered]; exact h.burstEnd
  · rw [markLimit, state, filtered]; exact h.markLimit
  · rw [tail]; exact h.tail

end Receiver.Sound

theorem BurstSlot.abandoned_isFilling (b : BurstSlot) : b.abandoned.isFilling = false := by cases b <;> rfl

theorem BurstSlot.stored_isFilling (iv : Interval) (b : BurstSlot) :
    (b.stored iv).isFilling = b.isFilling := by cases b <;> rfl

theorem BurstSlot.completed_isFilling (stop order : Nat) (b : BurstSlot) :
    (b.completed stop order).isFilling = false := by cases b <;> rfl

theorem Receiver.Sound.leaveBurst {rx : Receiver} {enabled blanks emits : Bool}
    (h : rx.Sound enabled blanks emits) (was : rx.state.isOpen) :
    (rx.leaveBurst .discard).Sound enabled blanks emits := by
  refine h.moves was ⟨nofun, nofun⟩ rfl ?_ ?_ (fun running => absurd rfl running) fun running => absurd rfl running
  all_goals simp [Receiver.leaveBurst, BurstSlot.abandoned_isFilling]

/-! ### The state of the part -/

theorem State.ReceiverSound.same {s t : State} (h : s.ReceiverSound) (rx : t.rx = s.rx)
    (settings : t.settings = s.settings) (emits : t.engine.emitting = s.engine.emitting) :
    t.ReceiverSound := by
  rw [State.receiverSound_iff] at h ⊢
  rw [rx, settings, emits]
  exact h

/-- The receiver changes, and neither the settings nor the emission activity. -/
theorem State.receiverSound_of {s t : State} (settings : t.settings = s.settings)
    (emits : t.engine.emitting = s.engine.emitting)
    (h : t.rx.Sound s.settings.rxEnable s.settings.rxBlank s.engine.emitting) : t.ReceiverSound := by
  rw [State.receiverSound_iff, settings, emits]
  exact h

/-! ### Edges (07 R126 to R130) -/

theorem State.startBurst_sound {s : State} (edge : Nat) (h : s.ReceiverSound) (quiet : s.rx.state = .quiet) :
    (({ s with rx := { s.rx with filtered := .mark, candidate := none } } : State).startBurst edge).ReceiverSound := by
  rw [State.receiverSound_iff] at h
  have was : s.rx.state.isOpen := by rw [quiet]; exact ⟨nofun, nofun⟩
  obtain ⟨slotA, slotB⟩ := h.not_filling (by simp [quiet])
  obtain ⟨burstEnd, markLimit⟩ := h.timers_stopped (by simp [quiet]) (by simp [quiet])
  refine State.receiverSound_of (s := s) (by simp) (by simp) ?_
  unfold State.startBurst
  split
  · next n free =>
    refine h.moves was ⟨nofun, nofun⟩ ?_ ?_ ?_ (fun running => absurd ?_ running) fun _ => ⟨rfl, ?_⟩
    · cases n <;> rfl
    · cases n <;> simp [Receiver.setSlot, slotA, slotB]
    · cases n <;> simp [Receiver.setSlot, BurstSlot.isFilling]
    · cases n <;> exact burstEnd
    · cases n <;> rfl
  · refine h.moves was ⟨nofun, nofun⟩ rfl ?_ ?_ (fun running => absurd burstEnd running)
      fun running => absurd markLimit running
    · simp [slotA]
    · simp [slotA, slotB]

theorem State.edgeInBurst_sound {s : State} (k : IKind) (edge : Nat) (h : s.ReceiverSound)
    (inBurst : s.rx.state = .inBurst) : ((s.setFiltered k).edgeInBurst k edge).ReceiverSound := by
  rw [State.receiverSound_iff] at h
  have was : s.rx.state.isOpen := by rw [inBurst]; exact ⟨nofun, nofun⟩
  have single := h.single
  have filling := h.filling
  rw [decide_eq_true inBurst] at filling
  refine State.receiverSound_of (s := s) (by simp) (by simp) ?_
  unfold State.edgeInBurst State.afterStore
  cases k with
  | space =>
    refine h.moves was ⟨by simp [inBurst], by simp [inBurst]⟩ rfl ?_ ?_ (fun _ => ⟨.inl inBurst, rfl⟩)
      fun running => absurd rfl running
    · simpa [State.storeEdge, Receiver.storeInterval, State.setFiltered, BurstSlot.stored_isFilling] using single
    · simpa [State.storeEdge, Receiver.storeInterval, State.setFiltered, BurstSlot.stored_isFilling, inBurst]
        using filling
  | mark =>
    dsimp only
    split
    · refine h.moves was ⟨nofun, nofun⟩ rfl ?_ ?_ (fun running => absurd rfl running)
        fun running => absurd rfl running
      all_goals simp [State.dropBurst, Receiver.leaveBurst, BurstSlot.abandoned_isFilling]
    · refine h.moves was ⟨by simp [inBurst], by simp [inBurst]⟩ rfl ?_ ?_ (fun running => absurd rfl running)
        fun _ => ⟨inBurst, rfl⟩
      · simpa [State.storeEdge, Receiver.storeInterval, State.setFiltered, BurstSlot.stored_isFilling] using single
      · simpa [State.storeEdge, Receiver.storeInterval, State.setFiltered, BurstSlot.stored_isFilling, inBurst]
          using filling

/-- 07 R126, R127, R130: a filtered edge. -/
theorem State.filteredEdge_sound {s : State} (k : IKind) (edge : Nat) (h : s.ReceiverSound) :
    (s.filteredEdge k edge).ReceiverSound := by
  have sound := h
  rw [State.receiverSound_iff] at sound
  unfold State.filteredEdge State.receiverEdge
  split
  · next off =>
    have off : s.rx.state = .off := off
    obtain ⟨burstEnd, markLimit⟩ := sound.timers_stopped (by simp [off]) (by simp [off])
    exact State.receiverSound_of (s := s) rfl rfl
      (.of_still (sound.not_filling (by simp [off])) ⟨burstEnd, markLimit⟩ (by simp [State.setFiltered, off])
        sound.off sound.blanked sound.tail)
  · next blanked =>
    have blanked : s.rx.state = .blanked := blanked
    obtain ⟨burstEnd, markLimit⟩ := sound.timers_stopped (by simp [blanked]) (by simp [blanked])
    exact State.receiverSound_of (s := s) rfl rfl
      (.of_still (sound.not_filling (by simp [blanked])) ⟨burstEnd, markLimit⟩ (by simp [State.setFiltered, blanked])
        sound.off sound.blanked sound.tail)
  · next quiet =>
    cases k with
    | mark => exact State.startBurst_sound edge h quiet
    | space =>
      have quiet : s.rx.state = .quiet := quiet
      exact State.receiverSound_of (s := s) rfl rfl
        (sound.waits (by rw [quiet]; exact ⟨nofun, nofun⟩) (by simp [quiet]) rfl rfl rfl rfl rfl fun _ => rfl)
  · next inBurst => exact State.edgeInBurst_sound k edge h inBurst
  · next discard =>
    have waiting : s.rx.state = .discard := discard
    have was : s.rx.state.isOpen := by rw [waiting]; exact ⟨nofun, nofun⟩
    cases k with
    | mark =>
      exact State.receiverSound_of (s := s) rfl rfl
        (sound.waits was (by simp [waiting]) waiting rfl rfl rfl rfl fun running => absurd rfl running)
    | space =>
      exact State.receiverSound_of (s := s) rfl rfl
        (sound.waits was (by simp [waiting]) waiting rfl rfl rfl rfl fun _ => rfl)

theorem State.confirmGlitch_sound {s : State} (h : s.ReceiverSound) : s.confirmGlitch.ReceiverSound := by
  unfold State.confirmGlitch
  split
  · split
    · exact State.filteredEdge_sound _ _ h
    · exact h
  · exact h

theorem State.setRxinLine_sound {s : State} (high : Bool) (h : s.ReceiverSound) :
    (s.setRxinLine high).ReceiverSound := h

theorem State.lineChanges_sound {s : State} (high : Bool) (h : s.ReceiverSound) :
    (s.lineChanges high).ReceiverSound := by
  have confirmed : (s.confirmGlitch.setRxinLine high).ReceiverSound := State.confirmGlitch_sound h
  unfold State.lineChanges State.filterLine
  split
  · exact confirmed
  · split
    · exact State.filteredEdge_sound _ _ confirmed
    · exact confirmed

/-! ### The end of a burst, and the Matcher -/

theorem Receiver.setSlot_free_filling (rx : Receiver) (n : SlotName)
    (notFilling : (rx.slot n).isFilling = false) :
    (rx.setSlot n .free).slotA.isFilling = rx.slotA.isFilling
      ∧ (rx.setSlot n .free).slotB.isFilling = rx.slotB.isFilling := by
  cases n
  · exact ⟨notFilling.symm, rfl⟩
  · exact ⟨rfl, notFilling.symm⟩

theorem BurstSlot.isFilling_of_isFull {b : BurstSlot} (full : b.isFull = true) : b.isFilling = false := by
  cases b <;> simp_all [BurstSlot.isFull, BurstSlot.isFilling]

theorem Receiver.oldestFull_isFull {rx : Receiver} {n : SlotName} (oldest : rx.oldestFull = some n) :
    (rx.slot n).isFull = true := by
  unfold Receiver.oldestFull at oldest
  split at oldest
  · next a b =>
    split at oldest <;> cases oldest
    · simp [Receiver.slot, a, BurstSlot.isFull]
    · simp [Receiver.slot, b, BurstSlot.isFull]
  · next a _ => cases oldest; simp [Receiver.slot, a, BurstSlot.isFull]
  · next b _ => cases oldest; simp [Receiver.slot, b, BurstSlot.isFull]
  · contradiction

theorem State.matcherTakeOne_filling (s : State) :
    s.matcherTakeOne.rx.slotA.isFilling = s.rx.slotA.isFilling
      ∧ s.matcherTakeOne.rx.slotB.isFilling = s.rx.slotB.isFilling := by
  unfold State.matcherTakeOne
  split
  · next n _ oldest =>
    split
    · exact Receiver.setSlot_free_filling _ n (BurstSlot.isFilling_of_isFull (Receiver.oldestFull_isFull oldest))
    all_goals exact ⟨rfl, rfl⟩
  · exact ⟨rfl, rfl⟩

theorem State.matcherTake_sound {s : State} (h : s.ReceiverSound) : s.matcherTake.ReceiverSound := by
  have one (t : State) (h : t.ReceiverSound) : t.matcherTakeOne.ReceiverSound := by
    rw [State.receiverSound_iff] at h
    exact State.receiverSound_of (s := t) (by simp) (by simp)
      (h.same t.matcherTakeOne_filling.1 t.matcherTakeOne_filling.2 (by simp) (by simp) (by simp) (by simp)
        (by simp))
  exact one _ (one _ h)

theorem State.burstEnds_sound {s : State} (h : s.ReceiverSound) : s.burstEnds.ReceiverSound := by
  have sound := h
  rw [State.receiverSound_iff] at sound
  unfold State.burstEnds
  split
  · next due =>
    have running : s.rx.burstEnd ≠ .stopped := by
      intro stopped
      simp [stopped, Timer.isDue] at due
    have notMark : s.rx.markLimit = .stopped := by
      by_contra limit
      have mark := (sound.markLimit limit).2
      rw [(sound.burstEnd running).2] at mark
      contradiction
    split
    · next inBurst =>
      refine State.matcherTake_sound (State.receiverSound_of (s := s) rfl rfl ?_)
      refine sound.moves (by rw [inBurst]; exact ⟨nofun, nofun⟩) ⟨nofun, nofun⟩ rfl ?_ ?_
        (fun running => absurd rfl running) fun limit => absurd notMark limit
      all_goals simp [BurstSlot.completed_isFilling]
    · next discard =>
      obtain ⟨slotA, slotB⟩ := sound.not_filling (by simp [discard])
      exact State.receiverSound_of (s := s) rfl rfl
        (sound.moves (by rw [discard]; exact ⟨nofun, nofun⟩) ⟨nofun, nofun⟩ rfl (by simp [slotA])
          (by simp [slotA, slotB]) (fun running => absurd rfl running) fun limit => absurd notMark limit)
    all_goals exact h
  · exact h

theorem State.markTooLong_sound {s : State} (h : s.ReceiverSound) : s.markTooLong.ReceiverSound := by
  unfold State.markTooLong
  split
  · next due =>
    rw [State.receiverSound_iff] at h
    exact State.receiverSound_of (s := s) (by simp) (by simp)
      (h.leaveBurst (by rw [due.2]; exact ⟨nofun, nofun⟩))
  · exact h

/-- 08 R140: the Matcher frees its slot, which was FULL. -/
theorem State.freeBurst_sound {s : State} (n : SlotName) (full : (s.rx.slot n).isFull = true)
    (h : s.ReceiverSound) : (s.freeBurst n).ReceiverSound := by
  rw [State.receiverSound_iff] at h
  obtain ⟨slotA, slotB⟩ := s.rx.setSlot_free_filling n (BurstSlot.isFilling_of_isFull full)
  refine State.receiverSound_of (s := s) (by simp) (by simp) (h.same slotA slotB ?_ ?_ ?_ ?_ ?_)
  all_goals simp [State.freeBurst]

/-! ### Blanking (07 R132, R133) -/

theorem Receiver.blank_eq (rx : Receiver) :
    rx.blank = if rx.state = .off then rx else rx.leaveBurst .blanked := by
  unfold Receiver.blank
  cases rx.state <;> rfl

/-- 07 R132: blanking begins to hold: an enabled receiver is BLANKED. -/
theorem Receiver.Sound.blank {rx : Receiver} {enabled blanks blanks' emits emits' : Bool} {tail : Timer}
    (h : rx.Sound enabled blanks emits) (holds : (blanks' && (emits' || tail.isRunning)) = true)
    (stopped : emits' = true → tail = .stopped) :
    (Receiver.blank { rx with blankTail := tail }).Sound enabled blanks' emits' := by
  rw [Receiver.blank_eq]
  split
  · next off =>
    have off : rx.state = .off := off
    refine .of_still (h.not_filling (by simp [off])) (h.timers_stopped (by simp [off]) (by simp [off]))
      (by simp [off]) h.off ?_ stopped
    simp [off, h.off.1 off]
  · next notOff =>
    have on : enabled = true := by simpa using mt h.off.2 notOff
    refine .of_still ⟨BurstSlot.abandoned_isFilling _, BurstSlot.abandoned_isFilling _⟩ ⟨rfl, rfl⟩ nofun ?_ ?_
      stopped
    · simp [Receiver.leaveBurst, on]
    · simpa [Receiver.leaveBurst, on] using holds

/-- 07 R132: the emission activity begins: an enabled receiver is blanked while RX_BLANK is on. -/
theorem State.activityOn_sound {s : State} (h : s.ReceiverSound) : s.activityOn.ReceiverSound := by
  rw [State.receiverSound_iff] at h ⊢
  change Receiver.Sound (if s.settings.rxBlank then _ else _) _ _ true
  split
  · next blanks => exact h.blank (by simpa using blanks) fun _ => rfl
  · next clear' =>
    have clear' : s.settings.rxBlank = false := by simpa using clear'
    refine { h with blanked := ?_, tail := fun _ => rfl }
    have before := h.blanked
    simpa [clear'] using before

/-- 07 R133: blanking holds no longer, and a BLANKED receiver opens. -/
theorem Receiver.Sound.unblank {rx : Receiver} {enabled blanks blanks' emits emits' : Bool} {tail : Timer}
    (h : rx.Sound enabled blanks emits) (free : (blanks' && (emits' || tail.isRunning)) = false)
    (stopped : emits' = true → tail = .stopped) :
    (Receiver.unblank { rx with blankTail := tail }).Sound enabled blanks' emits' := by
  by_cases blanked : rx.state = .blanked
  · obtain ⟨burstEnd, markLimit⟩ := h.timers_stopped (by simp [blanked]) (by simp [blanked])
    obtain ⟨slotA, slotB⟩ := h.not_filling (by simp [blanked])
    have on := (h.blanked.1 blanked).1
    have opens : ∃ st : RxState, st.isOpen ∧ st ≠ .inBurst
        ∧ Receiver.unblank { rx with blankTail := tail } = { rx with blankTail := tail, state := st } := by
      unfold Receiver.unblank
      cases filtered : rx.filtered with
      | space => exact ⟨.quiet, ⟨nofun, nofun⟩, nofun, by simp [blanked]⟩
      | mark => exact ⟨.discard, ⟨nofun, nofun⟩, nofun, by simp [blanked]⟩
    obtain ⟨st, isOpen, notBurst, e⟩ := opens
    rw [e]
    refine .of_still ⟨slotA, slotB⟩ ⟨burstEnd, markLimit⟩ notBurst ?_ ?_ stopped
    · simp [on, isOpen.1]
    · rw [free]
      simp [isOpen.2]
  · have same : Receiver.unblank { rx with blankTail := tail } = { rx with blankTail := tail } := by
      simp [Receiver.unblank, blanked]
    rw [same]
    refine { h with blanked := ?_, tail := stopped }
    rw [free]
    simp [blanked]

/-- 05 R85, R96, 07 R132: the emission activity ends, and the blank tail starts or has expired. -/
theorem State.activityOff_sound {s : State} (h : s.ReceiverSound) (emits : s.engine.emitting = true) :
    s.activityOff.ReceiverSound := by
  rw [State.receiverSound_iff] at h ⊢
  change Receiver.Sound (if s.settings.rxBlankTail = 0 then _ else _) _ _ false
  split
  · exact h.unblank (by simp [Timer.isRunning]) nofun
  · refine { h with blanked := ?_, tail := nofun }
    have before := h.blanked
    simp only [emits, Bool.true_or] at before
    simpa [Timer.isRunning] using before

theorem State.blankTailExpires_sound {s : State} (h : s.ReceiverSound) : s.blankTailExpires.ReceiverSound := by
  unfold State.blankTailExpires
  split
  · next due =>
    rw [State.receiverSound_iff] at h
    have silent : s.engine.emitting = false := by
      by_contra emits
      have stopped := h.tail (by simpa using emits)
      simp [stopped, Timer.isDue] at due
    refine State.receiverSound_of (s := s) rfl rfl (h.unblank ?_ fun _ => rfl)
    simp [silent, Timer.isRunning]
  · exact h

end Sys2Proof.Machine
end

section
/-! PROOF. The receiver under the engine, the settings, the resets and the wake (07 R132 to R135, R138, 10 R191). -/

namespace Sys2Proof.Machine

/-! ### The engine -/

theorem State.startFrame_sound {s : State} (j : Job) (h : s.ReceiverSound) : (s.startFrame j).ReceiverSound :=
  State.activityOn_sound h

theorem State.beginJob_sound {s : State} (j : Job) (h : s.ReceiverSound) : (s.beginJob j).ReceiverSound := by
  have flipped : (s.flipToggle j).1.ReceiverSound := State.ReceiverSound.same h (by simp) (by simp) (by simp)
  have started := State.startFrame_sound
    (s.startHold { j with state := .current, toggleBit := (s.flipToggle j).2 }) flipped
  exact State.ReceiverSound.same started (by simp [State.beginJob, State.startFirst])
    (by simp [State.beginJob, State.startFirst]) (by simp [State.beginJob, State.startFirst])

theorem State.takeJob_sound {s : State} (j : Job) (h : s.ReceiverSound) : (s.takeJob j).ReceiverSound := by
  unfold State.takeJob
  split
  · exact State.startFrame_sound (s := { s with engine := { s.engine with resumed := true } }) _ h
  all_goals exact State.beginJob_sound j h

theorem State.takeOrIdle_sound {s : State} (h : s.ReceiverSound) : s.takeOrIdle.ReceiverSound := by
  obtain ⟨-, e⟩ | ⟨j, rest, -, e⟩ := s.takeOrIdle_cases
  · rw [e]
    exact h
  · rw [e]
    exact State.takeJob_sound (s := { s with queue := { s.queue with jobs := rest } }) j h

theorem State.admitted_sound {s : State} (h : s.ReceiverSound) : s.admitted.ReceiverSound := by
  unfold State.admitted State.takeHead
  split
  · split
    · exact h
    · next j rest _ => exact State.takeJob_sound (s := { s with queue := { s.queue with jobs := rest } }) j h
  all_goals exact h

theorem State.enrolled_sound {s : State} (source : Source) (spec : JobSpec) (h : s.ReceiverSound) :
    (s.enrol source spec).admitted.ReceiverSound := State.admitted_sound (s := s.enrol source spec) h

theorem State.intervalEnds_sound {s : State} (coherent : s.EngineCoherent) (h : s.ReceiverSound) :
    s.intervalEnds.ReceiverSound := by
  obtain e | ⟨-, p, e⟩ | ⟨j, p, emitting, -, e⟩ := s.intervalEnds_cases
  · rwa [e]
  · rw [e]
    exact h
  · have emits : s.engine.emitting = true := by rw [coherent.2.2, emitting]; rfl
    have counted : (s.frameCounted j p).ReceiverSound := State.activityOff_sound (s := s.stopPosition) h emits
    rw [e, State.frameEnds]
    exact State.ReceiverSound.same counted (by simp) (by simp) (by simp)

theorem State.spacingEnds_sound {s : State} (h : s.ReceiverSound) : s.spacingEnds.ReceiverSound := by
  obtain e | ⟨-, -, e⟩ | ⟨j, -, -, ⟨reason, e⟩ | ⟨u, rest, -, -, -, e⟩ | e⟩ := s.spacingEnds_cases
  · rwa [e]
  · rw [e]
    exact State.takeOrIdle_sound h
  · rw [e]
    obtain ⟨-, e⟩ | ⟨-, e⟩ := (s.endCurrent j reason).afterSpacingEnd_cases
    all_goals
      rw [e]
      exact State.takeOrIdle_sound (s := s.endCurrent j reason) h
  · rw [e]
    exact State.beginJob_sound
      (s := { s with queue := { s.queue with jobs := insertAfterUrgent { j with state := .parked } rest } }) u h
  · rw [e]
    exact State.startFrame_sound j h

theorem State.stopEngine_sound {s : State} (coherent : s.EngineCoherent) (h : s.ReceiverSound) :
    s.stopEngine.ReceiverSound := by
  have stops (t : State) (h : t.ReceiverSound) : t.cutCurrent.enterStopped.ReceiverSound :=
    State.ReceiverSound.same h (by simp) (by simp) (by simp)
  unfold State.stopEngine
  split
  · next emitting =>
    have emits : s.engine.emitting = true := by rw [coherent.2.2, emitting]; rfl
    have cut : s.cutFrame.ReceiverSound := State.activityOff_sound (s := s.stopPosition) h emits
    exact stops s.cutFrame cut
  · exact stops s h
  · exact stops s h
  · exact h

theorem State.resumeEngine_sound {s : State} (h : s.ReceiverSound) : s.resumeEngine.ReceiverSound := by
  unfold State.resumeEngine
  split
  · exact h
  · exact State.takeOrIdle_sound h

theorem State.debounceExpires_sound {s : State} (k : Fin 8) (h : s.ReceiverSound) :
    (s.debounceExpires k).ReceiverSound := by
  have keyed (state : KeyState) (down : Bool) :
      ((s.setKey k { s.keys[k] with state := state, expiry := .stopped }).reportKey k down).ReceiverSound := h
  unfold State.debounceExpires
  split
  · split
    · unfold State.keyPress State.submitPress
      split
      · exact keyed .down true
      · split
        · exact keyed .down true
        · split
          · exact keyed .down true
          · exact State.enrolled_sound _ _ (keyed .down true)
    · exact State.ReceiverSound.same (keyed .up false) (by simp [State.keyReleased])
        (by simp [State.keyReleased]) (by simp [State.keyReleased])
    all_goals exact h
  · exact h

/-! ### The settings (07 R132 to R135) -/

theorem Settings.put_receiver (c : Settings) {i : SettingId} (v : Nat) (enable : i ≠ .rxEnable)
    (blank : i ≠ .rxBlank) : (c.put i v).rxEnable = c.rxEnable ∧ (c.put i v).rxBlank = c.rxBlank := by
  cases i <;> first | exact ⟨rfl, rfl⟩ | exact absurd rfl enable | exact absurd rfl blank

/-- 07 R134: RX_ENABLE has changed. -/
theorem State.enableSet_sound {s : State} (v : Nat) (h : s.ReceiverSound)
    (changed : s.settings.get .rxEnable ≠ v) :
    ({ s with settings := s.settings.put .rxEnable v }.settingActs .rxEnable s.settings.keyEnable).ReceiverSound := by
  rw [State.receiverSound_iff] at h
  have stopped := h.tail
  change State.ReceiverSound (if decide (v = 1) = true then State.receiverOn _ else State.receiverOff _)
  split
  · next on =>
    have on : v = 1 := of_decide_eq_true on
    have wasOff : s.rx.state = .off := by
      refine h.off.2 ?_
      by_contra enabled
      have enabled : s.settings.rxEnable = true := by simpa using enabled
      exact changed (by simp [Settings.get, enabled, on])
    obtain ⟨burstEnd, markLimit⟩ := h.timers_stopped (by simp [wasOff]) (by simp [wasOff])
    rw [State.receiverSound_iff]
    refine .of_still (h.not_filling (by simp [wasOff])) ⟨burstEnd, markLimit⟩ ?_ ?_ ?_ stopped
    · dsimp only [State.receiverOn]
      split <;> simp
    · dsimp only [State.receiverOn]
      split <;> simp [State.readLine, Settings.put, on]
    · change (if State.blankingHolds { s with settings := s.settings.put .rxEnable v } then RxState.blanked
          else .quiet) = .blanked ↔ decide (v = 1) = true
            ∧ State.blankingHolds { s with settings := s.settings.put .rxEnable v } = true
      split <;> simp_all
  · next off =>
    rw [State.receiverSound_iff]
    refine .of_still ⟨rfl, rfl⟩ ⟨rfl, rfl⟩ nofun ?_ ?_ stopped
    · simpa [State.receiverOff, Settings.put] using off
    · have off : v ≠ 1 := by simpa using off
      simp [State.receiverOff, Settings.put, off]

/-- 07 R132, R133: RX_BLANK has changed. -/
theorem State.blankSet_sound {s : State} (v : Nat) (h : s.ReceiverSound)
    (changed : s.settings.get .rxBlank ≠ v) :
    ({ s with settings := s.settings.put .rxBlank v }.settingActs .rxBlank s.settings.keyEnable).ReceiverSound := by
  rw [State.receiverSound_iff] at h
  change State.ReceiverSound (State.blankChanged _)
  unfold State.blankChanged
  split
  · next on =>
    rw [State.receiverSound_iff]
    dsimp only
    split
    · next holds => exact h.blank holds h.tail
    · next free =>
      have on : v = 1 := of_decide_eq_true on
      have wasOff : s.settings.rxBlank = false := by
        by_contra blanks
        have blanks : s.settings.rxBlank = true := by simpa using blanks
        exact changed (by simp [Settings.get, blanks, on])
      have notBlanked : s.rx.state ≠ .blanked := by
        intro blanked
        have := h.blanked.1 blanked
        simp [wasOff] at this
      refine { h with blanked := ?_ }
      have free : ¬ (decide (v = 1) && (s.engine.emitting || s.rx.blankTail.isRunning)) = true := free
      exact ⟨fun blanked => absurd blanked notBlanked, fun ⟨_, holds⟩ => absurd holds free⟩
  · next off =>
    have off : decide (v = 1) = false := by simpa [Settings.put] using off
    rw [State.receiverSound_iff]
    refine Receiver.Sound.unblank (blanks' := decide (v = 1)) h ?_ h.tail
    simp [off]

/-- 07 R135: RX_POLARITY has changed: the receiver waits afresh. -/
theorem State.polarityChanged_sound {s : State} (h : s.ReceiverSound) : s.polarityChanged.ReceiverSound := by
  rw [State.receiverSound_iff] at h
  have still (notBurst : s.rx.state ≠ .inBurst) (notDiscard : s.rx.state ≠ .discard) :
      s.readLine.ReceiverSound :=
    State.receiverSound_of (s := s) rfl rfl
      (.of_still (h.not_filling notBurst) (h.timers_stopped notBurst notDiscard) notBurst h.off h.blanked h.tail)
  have afresh (was : s.rx.state.isOpen) (rx : Receiver) (state : rx.state = .discard)
      (slotA : rx.slotA = s.rx.slotA.abandoned) (slotB : rx.slotB = s.rx.slotB.abandoned)
      (tail : rx.blankTail = s.rx.blankTail) (markLimit : rx.markLimit = .stopped)
      (burstEnd : rx.burstEnd ≠ .stopped → rx.filtered = .space) :
      rx.Sound s.settings.rxEnable s.settings.rxBlank s.engine.emitting := by
    refine h.moves was (by rw [state]; exact ⟨nofun, nofun⟩) tail ?_ ?_ (fun running => ⟨.inr state, burstEnd running⟩)
      fun running => absurd markLimit running
    all_goals simp [slotA, slotB, state, BurstSlot.abandoned_isFilling]
  unfold State.polarityChanged State.discardAfresh
  split
  · next off => exact still (by simp_all) (by simp_all)
  · next blanked => exact still (by simp_all) (by simp_all)
  all_goals
    next state =>
    have state' : s.rx.state = _ := state
    refine State.receiverSound_of (s := s) rfl rfl (afresh (by rw [state']; exact ⟨nofun, nofun⟩) _ rfl rfl rfl rfl rfl ?_)
    dsimp only [State.readLine, Receiver.leaveBurst]
    cases s.lineCondition
    · exact fun running => absurd rfl running
    · exact fun _ => rfl

theorem State.setSetting_sound {s : State} (id : Byte) (v : Nat) (h : s.ReceiverSound) :
    (s.setSetting id v).1.ReceiverSound := by
  unfold State.setSetting
  split
  · exact h
  · next i _ =>
    (repeat' split) <;> try exact h
    unfold State.putSetting
    split
    · exact h
    · next changed =>
      have changed : s.settings.get i ≠ v := changed
      by_cases enable : i = .rxEnable
      · subst enable
        exact State.enableSet_sound v h changed
      · by_cases blank : i = .rxBlank
        · subst blank
          exact State.blankSet_sound v h changed
        · obtain ⟨sameEnable, sameBlank⟩ := s.settings.put_receiver v enable blank
          have put : State.ReceiverSound { s with settings := s.settings.put i v } := by
            rw [State.receiverSound_iff] at h ⊢
            rw [sameEnable, sameBlank]
            exact h
          cases i
          case rxEnable => exact absurd rfl enable
          case rxBlank => exact absurd rfl blank
          case rxPolarity => exact State.polarityChanged_sound put
          all_goals exact State.ReceiverSound.same put (by simp [State.settingActs]) (by simp) (by simp)

theorem State.dispatch_sound {s : State} (k : RequestKind) (payload : List Byte) (coherent : s.EngineCoherent)
    (h : s.ReceiverSound) : (s.dispatch k payload).1.ReceiverSound := by
  cases k
  case send =>
    change (s.handleSend payload).1.ReceiverSound
    unfold State.handleSend State.send
    (repeat' split) <;> first | exact h | exact State.enrolled_sound _ _ h
  case stop => exact State.stopEngine_sound coherent h
  case resume =>
    change s.handleResume.1.ReceiverSound
    unfold State.handleResume
    split <;> first | exact h | exact State.resumeEngine_sound h
  case set =>
    change (s.handleSet payload).1.ReceiverSound
    unfold State.handleSet
    (repeat' split) <;> first | exact h | exact State.setSetting_sound _ _ h
  all_goals
    exact State.ReceiverSound.same h (by simp [State.dispatch]) (by simp [State.dispatch]) (by simp [State.dispatch])

/-! ### Resets and the wake -/

theorem Receiver.afterReset_sound (lineHigh : Bool) (c : Settings) :
    (Receiver.afterReset lineHigh c).Sound c.rxEnable c.rxBlank false := by
  refine .of_still ⟨rfl, rfl⟩ ⟨rfl, rfl⟩ ?_ ?_ ?_ nofun
  all_goals
    unfold Receiver.afterReset
    cases c.rxEnable <;> simp [Timer.isRunning]

theorem State.blocksReset_sound (slots : Vector SlotState 16) (bindings : Vector (Option JobSpec) 8) (c : Settings)
    (link : Link) (s : State) : (s.blocksReset slots bindings c link).ReceiverSound := by
  rw [State.receiverSound_iff]
  exact Receiver.afterReset_sound s.rx.lineHigh c

/-- 07 R137: at a wake the filtered condition is read from the line, and an RXIN wake waits in DISCARD. -/
theorem State.receiverWakes_sound {s : State} (byRxin : Bool) (h : s.ReceiverSound)
    (still : s.rx.state = .quiet ∨ s.rx.state = .off) (quiet : byRxin = true → s.rx.state = .quiet) :
    (s.receiverWakes byRxin).ReceiverSound := by
  rw [State.receiverSound_iff] at h
  have notBurst : s.rx.state ≠ .inBurst := by rcases still with e | e <;> simp [e]
  have notDiscard : s.rx.state ≠ .discard := by rcases still with e | e <;> simp [e]
  unfold State.receiverWakes
  split
  · next rxin =>
    refine State.receiverSound_of (s := s) rfl rfl
      (h.waits (by rw [quiet rxin]; exact ⟨nofun, nofun⟩) notBurst rfl rfl rfl rfl rfl ?_)
    dsimp only [State.discardAtWake, State.readLine]
    cases s.lineCondition
    · exact fun running => absurd rfl running
    · exact fun _ => rfl
  · exact State.receiverSound_of (s := s) rfl rfl
      (.of_still (h.not_filling notBurst) (h.timers_stopped notBurst notDiscard) notBurst h.off h.blanked h.tail)

theorem State.latencyEnds_sound {s : State} (doze : s.DozeSound) (h : s.ReceiverSound) :
    s.latencyEnds.ReceiverSound := by
  unfold State.latencyEnds State.becomeAwake
  split
  · next byRxin waking =>
    have asleep := doze.1 (by simp [waking])
    obtain ⟨-, -, quiet, -⟩ := asleep
    have still : s.rx.state = .quiet ∨ s.rx.state = .off := by
      simp only [Receiver.isQuiet, Bool.and_eq_true, Bool.or_eq_true, decide_eq_true_eq] at quiet
      exact quiet.1.1.1
    have woken : (s.resumeTimers.receiverWakes byRxin).ReceiverSound :=
      State.receiverWakes_sound (s := s.resumeTimers) byRxin h still fun rxin => doze.2 (by rw [waking, rxin])
    exact State.ReceiverSound.same woken (by simp) (by simp) (by simp)
  all_goals exact h

theorem State.rxinChanges_sound {s : State} (high : Bool) (h : s.ReceiverSound) :
    (s.rxinChanges high).ReceiverSound := by
  unfold State.rxinChanges
  split
  · exact h
  · split
    · exact State.lineChanges_sound high h
    all_goals
      have lined : (s.setRxinLine high).ReceiverSound := h
      unfold State.wakeOnMark
      split
      · exact State.ReceiverSound.same lined (by simp) (by simp) (by simp)
      · exact lined

end Sys2Proof.Machine
end

section
/-! PROOF. The Matcher and the tracker (08 R140 to R149, 01 R10): FULL slots and listening templates. -/

namespace Sys2Proof.Machine

/-! ### Which slots are FULL -/

/-- Which burst slots are FULL. -/
def Receiver.fulls (rx : Receiver) (n : SlotName) : Bool := (rx.slot n).isFull

theorem BurstSlot.abandoned_isFull (b : BurstSlot) : b.abandoned.isFull = b.isFull := by cases b <;> rfl

theorem BurstSlot.stored_isFull (iv : Interval) (b : BurstSlot) : (b.stored iv).isFull = b.isFull := by
  cases b <;> rfl

@[simp] theorem Receiver.leaveBurst_fulls (rx : Receiver) (dest : RxState) :
    (rx.leaveBurst dest).fulls = rx.fulls := by
  funext n
  cases n <;> exact BurstSlot.abandoned_isFull _

@[simp] theorem Receiver.blank_fulls (rx : Receiver) : rx.blank.fulls = rx.fulls := by
  rw [Receiver.blank_eq]
  split <;> simp

@[simp] theorem Receiver.unblank_fulls (rx : Receiver) : rx.unblank.fulls = rx.fulls := by
  funext n
  cases n <;> simp [Receiver.fulls, Receiver.slot]

@[simp] theorem State.activityOn_fulls (s : State) : s.activityOn.rx.fulls = s.rx.fulls := by
  unfold State.activityOn
  dsimp only
  split
  · exact Receiver.blank_fulls _
  · rfl

@[simp] theorem State.activityOff_fulls (s : State) : s.activityOff.rx.fulls = s.rx.fulls := by
  unfold State.activityOff
  dsimp only
  split
  · exact Receiver.unblank_fulls _
  · rfl

@[simp] theorem State.startFrame_fulls (j : Job) (s : State) : (s.startFrame j).rx.fulls = s.rx.fulls :=
  State.activityOn_fulls _

@[simp] theorem State.beginJob_fulls (j : Job) (s : State) : (s.beginJob j).rx.fulls = s.rx.fulls := by
  simp [State.beginJob, State.startFirst]

@[simp] theorem State.takeJob_fulls (j : Job) (s : State) : (s.takeJob j).rx.fulls = s.rx.fulls := by
  unfold State.takeJob State.resumeJob
  split <;> simp

@[simp] theorem State.takeHead_fulls (s : State) : s.takeHead.rx.fulls = s.rx.fulls := by
  unfold State.takeHead
  split <;> simp

@[simp] theorem State.takeOrIdle_fulls (s : State) : s.takeOrIdle.rx.fulls = s.rx.fulls := by
  unfold State.takeOrIdle
  split <;> simp

@[simp] theorem State.admitted_fulls (s : State) : s.admitted.rx.fulls = s.rx.fulls := by
  unfold State.admitted
  split <;> simp

@[simp] theorem State.enrolled_fulls (source : Source) (spec : JobSpec) (s : State) :
    (s.enrol source spec).admitted.rx.fulls = s.rx.fulls := by
  simp

@[simp] theorem State.send_fulls (spec : JobSpec) (s : State) : (s.send spec).1.rx.fulls = s.rx.fulls := by
  unfold State.send
  split <;> simp

@[simp] theorem State.intervalEnds_fulls (s : State) : s.intervalEnds.rx.fulls = s.rx.fulls := by
  obtain e | ⟨-, p, e⟩ | ⟨j, p, -, -, e⟩ := s.intervalEnds_cases
  · rw [e]
  · rw [e]
  · rw [e]
    simp [State.frameEnds, State.frameCounted]

@[simp] theorem State.afterSpacingEnd_fulls (s : State) : s.afterSpacingEnd.rx.fulls = s.rx.fulls := by
  obtain ⟨-, e⟩ | ⟨-, e⟩ := s.afterSpacingEnd_cases
  all_goals
    rw [e]
    simp

@[simp] theorem State.spacingEnds_fulls (s : State) : s.spacingEnds.rx.fulls = s.rx.fulls := by
  obtain e | ⟨-, -, e⟩ | ⟨j, -, -, ⟨reason, e⟩ | ⟨u, rest, -, -, -, e⟩ | e⟩ := s.spacingEnds_cases
  all_goals
    rw [e]
    try simp [State.park]

@[simp] theorem State.stopEngine_fulls (s : State) : s.stopEngine.rx.fulls = s.rx.fulls := by
  unfold State.stopEngine
  split <;> simp [State.cutFrame]

@[simp] theorem State.resumeEngine_fulls (s : State) : s.resumeEngine.rx.fulls = s.rx.fulls := by
  unfold State.resumeEngine
  split <;> simp

@[simp] theorem State.debounceExpires_fulls (k : Fin 8) (s : State) :
    (s.debounceExpires k).rx.fulls = s.rx.fulls := by
  unfold State.debounceExpires State.keyPress State.submitPress
  (repeat' split) <;> simp

@[simp] theorem State.blankTailExpires_fulls (s : State) : s.blankTailExpires.rx.fulls = s.rx.fulls := by
  unfold State.blankTailExpires
  split
  · exact Receiver.unblank_fulls _
  · rfl

@[simp] theorem State.dropBurst_fulls (reason : DropReason) (s : State) :
    (s.dropBurst reason).rx.fulls = s.rx.fulls := Receiver.leaveBurst_fulls ..

@[simp] theorem State.markTooLong_fulls (s : State) : s.markTooLong.rx.fulls = s.rx.fulls := by
  unfold State.markTooLong
  split <;> simp

theorem Receiver.freeSlot_isFull {rx : Receiver} {n : SlotName} (free : rx.freeSlot = some n) :
    rx.fulls n = false := by
  unfold Receiver.freeSlot at free
  split at free
  · next isFree =>
    cases free
    simp [Receiver.fulls, Receiver.slot, isFree, BurstSlot.isFull]
  · next isFree _ =>
    cases free
    simp [Receiver.fulls, Receiver.slot, isFree, BurstSlot.isFull]
  · contradiction

theorem Receiver.setSlot_fulls (rx : Receiver) (n : SlotName) (b : BurstSlot) (m : SlotName) :
    (rx.setSlot n b).fulls m = if m = n then b.isFull else rx.fulls m := by
  cases n <;> cases m <;> rfl

@[simp] theorem State.startBurst_fulls (edge : Nat) (s : State) :
    (s.startBurst edge).rx.fulls = s.rx.fulls := by
  unfold State.startBurst
  split
  · next n free =>
    funext m
    have set : Receiver.fulls _ m = _ := s.rx.setSlot_fulls n (.filling edge []) m
    refine Eq.trans ?_ (set.trans ?_)
    · cases m <;> rfl
    · split
      · next same => rw [same, Receiver.freeSlot_isFull free]; rfl
      · rfl
  · rfl

@[simp] theorem State.edgeInBurst_fulls (k : IKind) (edge : Nat) (s : State) :
    (s.edgeInBurst k edge).rx.fulls = s.rx.fulls := by
  have stored : (s.storeEdge k edge).rx.fulls = s.rx.fulls := by
    funext n
    cases n <;> exact BurstSlot.stored_isFull ..
  unfold State.edgeInBurst State.afterStore
  split
  · exact stored
  · split
    · simp [stored]
    · exact stored

@[simp] theorem State.filteredEdge_fulls (k : IKind) (edge : Nat) (s : State) :
    (s.filteredEdge k edge).rx.fulls = s.rx.fulls := by
  have set : (s.setFiltered k).rx.fulls = s.rx.fulls := rfl
  unfold State.filteredEdge State.receiverEdge
  split
  · exact set
  · exact set
  · cases k
    · exact (State.startBurst_fulls ..).trans set
    · exact set
  · exact (State.edgeInBurst_fulls ..).trans set
  · cases k <;> exact set

@[simp] theorem State.confirmGlitch_fulls (s : State) : s.confirmGlitch.rx.fulls = s.rx.fulls := by
  unfold State.confirmGlitch
  (repeat' split) <;> simp

@[simp] theorem State.lineChanges_fulls (high : Bool) (s : State) :
    (s.lineChanges high).rx.fulls = s.rx.fulls := by
  have set : (s.confirmGlitch.setRxinLine high).rx.fulls = s.rx.fulls := s.confirmGlitch_fulls
  unfold State.lineChanges State.filterLine
  split
  · exact set
  · split
    · exact (State.filteredEdge_fulls ..).trans set
    · exact set

@[simp] theorem State.rxinChanges_fulls (high : Bool) (s : State) :
    (s.rxinChanges high).rx.fulls = s.rx.fulls := by
  have set : (s.setRxinLine high).rx.fulls = s.rx.fulls := rfl
  unfold State.rxinChanges State.wakeOnMark
  (repeat' split) <;> simp [set]

@[simp] theorem State.latencyEnds_fulls (s : State) : s.latencyEnds.rx.fulls = s.rx.fulls := by
  funext n
  unfold State.latencyEnds State.becomeAwake
  split
  · cases n <;> simp [Receiver.fulls, Receiver.slot, State.resumeTimers]
  all_goals rfl

/-! ### The invariant -/

/-- 08 R142: which templates the Matcher still has to try, or has found. -/
def Matching.Among (m : Matching) (l : List (Fin 16)) : Prop :=
  match m.result with
  | some (.fullFrame t _) => t ∈ l
  | some (.marker t) => t ∈ l
  | none => ∀ t ∈ m.untried, t ∈ l

/-- 08 R149: the template of a session. -/
def Tracker.Among (tr : Tracker) (l : List (Fin 16)) : Prop :=
  match tr with
  | .quiet => True
  | .held code => code.template ∈ l

/-- 08 R140: the Matcher works on a FULL slot and on listening templates. -/
def MatcherSound (matcher : Option Matching) (fulls : SlotName → Bool) (l : List (Fin 16)) : Prop :=
  ∀ m ∈ matcher, fulls m.slot = true ∧ m.Among l

theorem State.trackingSound_iff (s : State) :
    s.TrackingSound ↔ MatcherSound s.matcher s.rx.fulls s.lib.listening ∧ s.tracker.Among s.lib.listening := by
  unfold State.TrackingSound MatcherSound
  cases s.matcher with
  | none => simp; rfl
  | some m => simp; rfl

theorem Library.listening_of_states {l l' : Library} (same : l'.states = l.states) : l'.listening = l.listening := by
  have states (t : Fin 16) : l'.slots[t].state = l.slots[t].state := congrFun same t
  unfold Library.listening
  congr 1
  funext t
  rw [states]

theorem Library.mem_listening {l : Library} {t : Fin 16} :
    t ∈ l.listening ↔ ∃ d, (l.states t).usable = some d ∧ d.listen = true := by
  unfold Library.listening Library.states
  rw [List.mem_filter]
  simp only [List.mem_finRange, true_and]
  cases l.slots[t].state.usable <;> simp

theorem State.TrackingSound.same {s t : State} (h : s.TrackingSound) (fulls : t.rx.fulls = s.rx.fulls)
    (matcher : t.matcher = s.matcher) (tracker : t.tracker = s.tracker)
    (states : t.lib.states = s.lib.states) : t.TrackingSound := by
  rw [State.trackingSound_iff] at h ⊢
  rw [fulls, matcher, tracker, Library.listening_of_states states]
  exact h

theorem State.TrackingSound.lib {s t : State} (h : s.TrackingSound) (rx : t.rx = s.rx)
    (matcher : t.matcher = s.matcher) (tracker : t.tracker = s.tracker)
    (states : t.lib.states = s.lib.states) : t.TrackingSound :=
  State.TrackingSound.same h (by rw [rx]) matcher tracker states

theorem Matching.Among.mono {m : Matching} {l l' : List (Fin 16)} (h : m.Among l) (sub : l ⊆ l') : m.Among l' := by
  unfold Matching.Among at h ⊢
  split at h
  · exact sub h
  · exact sub h
  · exact fun t mem => sub (h t mem)

theorem Tracker.Among.mono {tr : Tracker} {l l' : List (Fin 16)} (h : tr.Among l) (sub : l ⊆ l') : tr.Among l' := by
  cases tr with
  | quiet => exact h
  | held code => exact sub h

/-- The library keeps the templates that listen, and gains others. -/
theorem State.TrackingSound.grows {s t : State} (h : s.TrackingSound) (rx : t.rx = s.rx)
    (matcher : t.matcher = s.matcher) (tracker : t.tracker = s.tracker)
    (usable : ∀ u d, (s.lib.states u).usable = some d → (t.lib.states u).usable = some d) : t.TrackingSound := by
  have sub : s.lib.listening ⊆ t.lib.listening := by
    intro u mem
    obtain ⟨d, found, listens⟩ := Library.mem_listening.1 mem
    exact Library.mem_listening.2 ⟨d, usable u d found, listens⟩
  rw [State.trackingSound_iff] at h ⊢
  rw [rx, matcher, tracker]
  exact ⟨fun m mem => ⟨(h.1 m mem).1, (h.1 m mem).2.mono sub⟩, h.2.mono sub⟩

/-! ### The Matcher -/

theorem tryCandidate_among {s : State} {burst : List Interval} {t : Fin 16} {l : List (Fin 16)} (mem : t ∈ l)
    {m : Matching} (rest : ∀ u ∈ m.untried, u ∈ l) :
    Matching.Among { m with result := tryCandidate s burst t } l := by
  unfold tryCandidate
  (repeat' split) <;> first | exact rest | exact mem

theorem runTrials_among {s : State} {burst : List Interval} {l : List (Fin 16)} (n : Nat) {m : Matching}
    (h : m.Among l) : (runTrials s burst n m).Among l := by
  induction n generalizing m with
  | zero => exact h
  | succ n ih =>
    unfold runTrials
    split
    · next t rest result untried =>
      have all : ∀ u ∈ t :: rest, u ∈ l := by
        unfold Matching.Among at h
        rw [result, untried] at h
        exact h
      exact ih (tryCandidate_among (m := { m with untried := rest }) (all t List.mem_cons_self)
        fun u mem => all u (List.mem_cons_of_mem _ mem))
    · exact h

theorem runTrials_slot (s : State) (burst : List Interval) (n : Nat) (m : Matching) :
    (runTrials s burst n m).slot = m.slot := by
  induction n generalizing m with
  | zero => rfl
  | succ n ih =>
    unfold runTrials
    split
    · exact ih _
    · rfl

theorem State.matcherReached_sound {s : State} (h : s.TrackingSound) : s.matcherReached.TrackingSound := by
  unfold State.matcherReached
  split
  · exact h
  · next m matcher =>
    rw [State.trackingSound_iff] at h ⊢
    refine ⟨fun m' mem => ?_, h.2⟩
    obtain rfl : _ = m' := Option.some.inj mem
    obtain ⟨full, among⟩ := h.1 m matcher
    exact ⟨(runTrials_slot ..).symm ▸ full, runTrials_among _ among⟩

theorem State.matcherTakeOne_tracking {s : State} (h : s.TrackingSound) : s.matcherTakeOne.TrackingSound := by
  unfold State.matcherTakeOne
  split
  · next n matcher oldest =>
    rw [State.trackingSound_iff] at h
    split
    · rw [State.trackingSound_iff]
      refine ⟨fun m mem => ?_, h.2⟩
      have none : s.matcher = some m := mem
      rw [matcher] at none
      contradiction
    all_goals
      rw [State.trackingSound_iff]
      refine ⟨fun m mem => ?_, h.2⟩
      obtain rfl : _ = m := Option.some.inj mem
      exact ⟨Receiver.oldestFull_isFull oldest, fun _ mem => mem⟩
  · exact h

theorem State.matcherTake_tracking {s : State} (h : s.TrackingSound) : s.matcherTake.TrackingSound :=
  State.matcherTakeOne_tracking (State.matcherTakeOne_tracking h)

/-- What the tracker holds after a result is applied (08 R150, R151). -/
theorem State.applyMatch_among {s : State} {l : List (Fin 16)} (h : s.tracker.Among l) (burst : List Interval)
    (burstEnd : Nat) {r : Option MatchResult}
    (found : ∀ t payload, r = some (.fullFrame t payload) → t ∈ l) :
    (s.applyMatch burst burstEnd r).tracker.Among l := by
  unfold State.applyMatch
  split
  · next t payload =>
    have mem := found t payload rfl
    unfold State.trackFull
    split
    · exact mem
    · next code held =>
      split
      · rw [held] at h
        exact h
      · exact mem
  · next t =>
    unfold State.trackMarker
    split
    · simpa using h
    · next code held =>
      split
      · rw [held] at h
        exact h
      · simpa using h
  · simpa using h

theorem State.matchingEnds_tracking {s : State} (h : s.TrackingSound) : s.matchingEnds.TrackingSound := by
  unfold State.matchingEnds
  split
  · exact h
  · next m matcher =>
    refine State.matcherTake_tracking ?_
    rw [State.trackingSound_iff] at h ⊢
    obtain ⟨-, among⟩ := h.1 m matcher
    refine ⟨nofun, ?_⟩
    have lib : ((s.deliver m).freeBurst m.slot).lib = s.lib := by simp
    rw [lib]
    refine State.applyMatch_among h.2 _ _ fun t payload found => ?_
    have result := runTrials_among (s := s) (burst := (s.rx.slot m.slot).intervals) m.untried.length among
    unfold Matching.Among at result
    rw [found] at result
    exact result

theorem State.burstEnds_tracking {s : State} (h : s.TrackingSound) : s.burstEnds.TrackingSound := by
  unfold State.burstEnds
  split
  · split
    · refine State.matcherTake_tracking ?_
      rw [State.trackingSound_iff] at h ⊢
      refine ⟨fun m mem => ⟨?_, (h.1 m mem).2⟩, h.2⟩
      have full := (h.1 m mem).1
      have completed (b : BurstSlot) (stop order : Nat) (full : b.isFull = true) :
          (b.completed stop order).isFull = true := by
        cases b <;> simp_all [BurstSlot.isFull, BurstSlot.completed]
      cases slot : m.slot <;> rw [slot] at full <;> exact completed _ _ _ full
    · exact h
    all_goals exact h
  · exact h

/-! ### A slot leaves READY (01 R10) -/

theorem Matching.drop_among {m : Matching} {l l' : List (Fin 16)} {t : Fin 16} (h : m.Among l)
    (others : ∀ u ∈ l, u ≠ t → u ∈ l') : (m.drop t).Among l' := by
  unfold Matching.drop
  cases result : m.result with
  | none =>
    unfold Matching.Among at h ⊢
    rw [result] at h
    intro u mem
    obtain ⟨mem, other⟩ := List.mem_filter.1 mem
    exact others u (h u mem) (of_decide_eq_true other)
  | some r =>
    unfold Matching.Among at h
    rw [result] at h
    cases r with
    | fullFrame w payload =>
      dsimp only
      split
      · exact fun u mem => absurd mem List.not_mem_nil
      · next other =>
        unfold Matching.Among
        rw [result]
        exact others w h other
    | marker w =>
      dsimp only
      split
      · exact fun u mem => absurd mem List.not_mem_nil
      · next other =>
        unfold Matching.Among
        rw [result]
        exact others w h other

theorem Matching.drop_slot (m : Matching) (t : Fin 16) : (m.drop t).slot = m.slot := by
  unfold Matching.drop
  (repeat' split) <;> rfl

/-- 01 R10: when a slot leaves READY, neither the Matcher nor the tracker names it any longer. -/
theorem State.slotLeavesReady_tracking {s u : State} {t : Fin 16} {st : SlotState} (h : s.TrackingSound)
    (states : ∀ v, u.lib.states v = if v = t then st else s.lib.states v)
    (rx : u.rx = (s.slotLeavesReady t).rx) (matcher : u.matcher = (s.slotLeavesReady t).matcher)
    (tracker : u.tracker = (s.slotLeavesReady t).tracker) : u.TrackingSound := by
  have reached := State.matcherReached_sound h
  rw [State.trackingSound_iff] at reached ⊢
  have lib : s.matcherReached.lib = s.lib := by simp
  rw [lib] at reached
  have others : ∀ v ∈ s.lib.listening, v ≠ t → v ∈ u.lib.listening := by
    intro v mem other
    obtain ⟨d, usable, listens⟩ := Library.mem_listening.1 mem
    exact Library.mem_listening.2 ⟨d, by rwa [states, if_neg other], listens⟩
  rw [rx, matcher, tracker]
  refine ⟨fun m mem => ?_, ?_⟩
  · have mem : m ∈ s.matcherReached.matcher.map (Matching.drop t) := by
      simpa [State.slotLeavesReady, State.dropTemplate] using mem
    obtain ⟨m', mem', rfl⟩ := Option.mem_map.1 mem
    obtain ⟨full, among⟩ := reached.1 m' mem'
    exact ⟨by simpa [Matching.drop_slot] using full, Matching.drop_among among others⟩
  · unfold State.slotLeavesReady State.endSessionOn
    have same : (s.matcherReached.dropTemplate t).tracker = s.matcherReached.tracker := rfl
    split
    · next code held =>
      split
      · trivial
      · next other =>
        rw [same] at held ⊢
        have among := reached.2
        rw [held] at among ⊢
        exact others _ among other
    · next quiet =>
      rw [quiet]
      trivial

end Sys2Proof.Machine
end

section
/-! PROOF. Reception: the invariant (O58). -/

namespace Sys2Proof.Machine

/-! ### The Matcher and the tracker under the requests and the resets -/

theorem SlotState.restored_of_usable {st : SlotState} {d : Template} (usable : st.usable = some d) :
    st.restored.usable = some d := by
  cases st <;> simp_all [SlotState.usable, SlotState.restored]

theorem State.TrackingSound.abandon {s t : State} (h : s.TrackingSound) (rx : t.rx = s.rx)
    (matcher : t.matcher = s.matcher) (tracker : t.tracker = s.tracker) (lib : t.lib = s.lib.abandon) :
    t.TrackingSound := by
  refine State.TrackingSound.grows h rx matcher tracker fun u d usable => ?_
  rw [lib, Library.abandon_states]
  split
  · exact SlotState.restored_of_usable usable
  · exact usable

/-- 07 R134: with RX_ENABLE off the Matcher is idle. -/
theorem State.trackingSound_idle {s t : State} (h : s.TrackingSound) (matcher : t.matcher = none)
    (tracker : t.tracker = s.tracker) (states : t.lib.states = s.lib.states) : t.TrackingSound := by
  rw [State.trackingSound_iff] at h ⊢
  rw [matcher, tracker, Library.listening_of_states states]
  exact ⟨nofun, h.2⟩

theorem State.polarityChanged_fulls (s : State) : s.polarityChanged.rx.fulls = s.rx.fulls := by
  have read : s.readLine.rx.fulls = s.rx.fulls := rfl
  unfold State.polarityChanged State.discardAfresh
  split
  · exact read
  · exact read
  all_goals exact (Receiver.leaveBurst_fulls _ .discard).trans read

theorem State.blankChanged_fulls (s : State) : s.blankChanged.rx.fulls = s.rx.fulls := by
  unfold State.blankChanged
  split
  · dsimp only
    split <;> simp
  · exact Receiver.unblank_fulls _

theorem State.setSetting_tracking {s : State} (id : Byte) (v : Nat) (h : s.TrackingSound) :
    (s.setSetting id v).1.TrackingSound := by
  unfold State.setSetting State.putSetting
  (repeat' split) <;> try exact h
  next i _ _ _ _ _ =>
  have put : State.TrackingSound { s with settings := s.settings.put i v } := h
  cases i
  case rxEnable =>
    change State.TrackingSound (if decide (v = 1) = true then State.receiverOn _ else State.receiverOff _)
    split
    · exact State.TrackingSound.same h rfl rfl rfl rfl
    · exact State.trackingSound_idle h rfl rfl rfl
  case rxPolarity =>
    exact State.TrackingSound.same put (State.polarityChanged_fulls _) (by simp [State.settingActs])
      (by simp [State.settingActs]) (by simp)
  case rxBlank =>
    exact State.TrackingSound.same put (State.blankChanged_fulls _) (by simp [State.settingActs])
      (by simp [State.settingActs]) (by simp)
  all_goals
    exact State.TrackingSound.lib put (by simp [State.settingActs]) (by simp [State.settingActs])
      (by simp [State.settingActs]) (by simp)

theorem State.dispatch_tracking {s : State} (k : RequestKind) (payload : List Byte) (bound : s.DraftBound)
    (h : s.TrackingSound) : (s.dispatch k payload).1.TrackingSound := by
  cases k
  case tplOpen =>
    change (s.handleOpen payload).1.TrackingSound
    unfold State.handleOpen
    (repeat' split) <;> try exact h
    next t mode _ _ =>
    obtain e | ⟨free, empty, e⟩ | ⟨d, free, ready, -, e⟩ := s.tplOpen_cases t mode
    · rwa [e]
    · rw [e]
      refine State.TrackingSound.grows h rfl rfl rfl fun u d usable => ?_
      rw [State.openDraft_states]
      split
      · next same =>
        rw [same, empty] at usable
        contradiction
      · exact usable
    · rw [e]
      refine State.slotLeavesReady_tracking h (t := t) (st := .revising d) (fun v => ?_) rfl rfl rfl
      simpa using State.openDraft_states t v .revise d (.revising d) (s.slotLeavesReady t)
  case tplErase =>
    change (s.handleErase payload).1.TrackingSound
    unfold State.handleErase
    (repeat' split) <;> try exact h
    next t _ =>
    obtain e | ⟨d, ready, -, e⟩ := s.tplErase_cases t
    · rwa [e]
    · rw [e]
      refine State.slotLeavesReady_tracking h (t := t) (st := .empty) (fun v => ?_) rfl rfl rfl
      simpa using Library.setFresh_states t v .empty (s.slotLeavesReady t).lib
  case tplCommit =>
    obtain e | ⟨d, draft, -, e⟩ := s.tplCommit_cases
    · rwa [State.dispatch, e]
    · rw [State.dispatch, e]
      refine State.TrackingSound.grows h rfl rfl rfl fun u w usable => ?_
      rw [State.install_states]
      split
      · next same =>
        rw [State.draftBound_iff, Library.bound, draft] at bound
        have isBound := bound.1 d.slot
        rw [same] at usable
        cases states : s.lib.states d.slot with
        | ready w => simp [states, SlotState.isBound] at isBound
        | empty | draft | revising => simp [states, SlotState.usable] at usable
      · exact usable
  case tplAbort =>
    obtain e | e := s.tplAbort_cases
    · rwa [State.dispatch, e]
    · rw [State.dispatch, e]
      exact State.TrackingSound.abandon h rfl rfl rfl rfl
  case send =>
    change (s.handleSend payload).1.TrackingSound
    unfold State.handleSend
    (repeat' split) <;>
      first | exact h | exact State.TrackingSound.same h (by simp) (by simp) (by simp) (by simp)
  case stop =>
    exact State.TrackingSound.same h (by simp [State.dispatch, State.handleStop]) (by simp [State.dispatch])
      (by simp [State.dispatch]) (by simp [State.dispatch])
  case resume =>
    change s.handleResume.1.TrackingSound
    unfold State.handleResume
    split <;> first | exact h | exact State.TrackingSound.same h (by simp) (by simp) (by simp) (by simp)
  case set =>
    change (s.handleSet payload).1.TrackingSound
    unfold State.handleSet
    (repeat' split) <;> first | exact h | exact State.setSetting_tracking _ _ h
  all_goals
    exact State.TrackingSound.lib h (by simp [State.dispatch]) (by simp [State.dispatch]) (by simp [State.dispatch])
      (by simp [State.dispatch])

theorem State.announce_sound {s : State} {reason : ResetReason} {status : ImageStatus} (h : s.ReceiverSound) :
    (s.announce reason status).ReceiverSound := State.ReceiverSound.same h (by simp) (by simp) (by simp)

theorem State.trackingSound_reset {t : State} (matcher : t.matcher = none) (tracker : t.tracker = .quiet) :
    t.TrackingSound := by
  rw [State.trackingSound_iff, matcher, tracker]
  exact ⟨nofun, trivial⟩

theorem State.windowExpires_tracking {s : State} (h : s.TrackingSound) : s.windowExpires.TrackingSound := by
  unfold State.windowExpires
  split
  · split
    · have reached := State.matcherReached_sound h
      rw [State.trackingSound_iff] at reached ⊢
      exact ⟨reached.1, trivial⟩
    · exact h
  · exact h

theorem State.draftExpires_tracking {s : State} (h : s.TrackingSound) : s.draftExpires.TrackingSound := by
  obtain e | e := s.draftExpires_lib
  · exact State.TrackingSound.lib h (by simp) (by simp) (by simp) (by rw [e])
  · exact State.TrackingSound.abandon h (by simp) (by simp) (by simp) e

/-! ### The invariant -/

/-- A step whose draft, DOZE and engine are kept for reasons of their own, and that leaves receiver, settings,
Matcher, tracker and the states of the slots as they are. -/
theorem State.ReceptionSound.still {s t : State} (h : s.ReceptionSound) (coherent : t.EngineCoherent)
    (draft : t.DraftBound) (doze : t.DozeSound) (rx : t.rx = s.rx) (settings : t.settings = s.settings)
    (emits : t.engine.emitting = s.engine.emitting) (matcher : t.matcher = s.matcher)
    (tracker : t.tracker = s.tracker) (states : t.lib.states = s.lib.states) : t.ReceptionSound :=
  ⟨coherent, draft, doze, State.ReceiverSound.same h.2.2.2.1 rx settings emits,
    State.TrackingSound.lib h.2.2.2.2 rx matcher tracker states⟩

theorem State.receptionSound_kept : Kept State.ReceptionSound where
  pending _ _ h := h
  clock _ _ h := h
  delay _ _ h := h
  link _ _ := by
    rintro ⟨coherent, draft, doze, receiver, tracking⟩ awake
    exact ⟨coherent, draft, State.dozeSound_of_awake awake, receiver, tracking⟩
  dispatch s k payload := by
    rintro ⟨coherent, draft, doze, receiver, tracking⟩ awake
    exact ⟨State.engineCoherent_kept.dispatch _ _ _ coherent awake,
      State.draftBound_kept.dispatch _ _ _ draft awake, State.dozeSound_kept.dispatch _ _ _ doze awake,
      State.dispatch_sound k payload coherent receiver, State.dispatch_tracking k payload draft tracking⟩
  softReset s strap := by
    rintro ⟨coherent, draft, doze, receiver, tracking⟩ awake
    refine ⟨State.engineCoherent_kept.softReset _ _ coherent awake,
      State.draftBound_kept.softReset _ _ draft awake, State.dozeSound_kept.softReset _ _ doze awake,
      State.announce_sound (State.blocksReset_sound ..), State.trackingSound_reset ?_ ?_⟩
    all_goals
      simp only [State.softReset, State.announce_frame]
      rfl
  hardReset s reason strap := by
    rintro ⟨coherent, draft, doze, receiver, tracking⟩
    refine ⟨State.engineCoherent_kept.hardReset _ _ _ coherent, State.draftBound_kept.hardReset _ _ _ draft,
      State.dozeSound_kept.hardReset _ _ _ doze, State.announce_sound (State.blocksReset_sound ..),
      State.trackingSound_reset ?_ ?_⟩
    all_goals
      simp only [State.hardReset, State.announce_frame]
      rfl
  setVdd _ _ h := h
  setReset _ _ h := h
  compareSupply s h awake :=
    h.still (State.engineCoherent_kept.compareSupply _ h.1 awake)
      (State.draftBound_kept.compareSupply _ h.2.1 awake) (State.dozeSound_kept.compareSupply _ h.2.2.1 awake)
      (by simp) (by simp) (by simp) (by simp) (by simp) (by simp)
  writeCompletes s h awake :=
    h.still (State.engineCoherent_kept.writeCompletes _ h.1 awake)
      (State.draftBound_kept.writeCompletes _ h.2.1 awake) (State.dozeSound_kept.writeCompletes _ h.2.2.1 awake)
      (by simp) (by simp) (by simp) (by simp) (by simp) (by simp)
  eraseEnds s h awake :=
    h.still (State.engineCoherent_kept.eraseEnds _ h.1 awake)
      (State.draftBound_kept.eraseEnds _ h.2.1 awake) (State.dozeSound_kept.eraseEnds _ h.2.2.1 awake)
      (by simp) (by simp) (by simp) (by simp) (by simp) (by simp)
  draftExpires s := by
    rintro ⟨coherent, draft, doze, receiver, tracking⟩ awake
    exact ⟨State.engineCoherent_kept.draftExpires _ coherent awake,
      State.draftBound_kept.draftExpires _ draft awake, State.dozeSound_kept.draftExpires _ doze awake,
      State.ReceiverSound.same receiver (by simp) (by simp) (by simp), State.draftExpires_tracking tracking⟩
  intervalEnds s := by
    rintro ⟨coherent, draft, doze, receiver, tracking⟩ awake
    exact ⟨State.engineCoherent_kept.intervalEnds _ coherent awake,
      State.draftBound_kept.intervalEnds _ draft awake, State.dozeSound_kept.intervalEnds _ doze awake,
      State.intervalEnds_sound coherent receiver,
      State.TrackingSound.same tracking (by simp) (by simp) (by simp) (by simp)⟩
  spacingEnds s := by
    rintro ⟨coherent, draft, doze, receiver, tracking⟩ awake
    exact ⟨State.engineCoherent_kept.spacingEnds _ coherent awake,
      State.draftBound_kept.spacingEnds _ draft awake, State.dozeSound_kept.spacingEnds _ doze awake,
      State.spacingEnds_sound receiver,
      State.TrackingSound.same tracking (by simp) (by simp) (by simp) (by simp)⟩
  holdExpires s id h awake :=
    h.still (State.engineCoherent_kept.holdExpires _ _ h.1 awake)
      (State.draftBound_kept.holdExpires _ _ h.2.1 awake) (State.dozeSound_kept.holdExpires _ _ h.2.2.1 awake)
      (by simp) (by simp) (by simp) (by simp) (by simp) (by simp)
  tailExpires s h awake :=
    h.still (State.engineCoherent_kept.tailExpires _ h.1 awake)
      (State.draftBound_kept.tailExpires _ h.2.1 awake) (State.dozeSound_kept.tailExpires _ h.2.2.1 awake)
      (by simp) (by simp) (by simp) (by simp) (by simp) (by simp)
  setKeyLine _ _ _ h := h
  keyLineChanges s k high h :=
    h.still (State.engineCoherent_kept.keyLineChanges _ _ _ h.1)
      (State.draftBound_kept.keyLineChanges _ _ _ h.2.1) (State.dozeSound_kept.keyLineChanges _ _ _ h.2.2.1)
      (by simp) (by simp) (by simp) (by simp) (by simp) (by simp)
  debounceExpires s k := by
    rintro ⟨coherent, draft, doze, receiver, tracking⟩ awake
    exact ⟨State.engineCoherent_kept.debounceExpires _ _ coherent awake,
      State.draftBound_kept.debounceExpires _ _ draft awake, State.dozeSound_kept.debounceExpires _ _ doze awake,
      State.debounceExpires_sound k receiver,
      State.TrackingSound.same tracking (by simp) (by simp) (by simp) (by simp)⟩
  setRxinLine s high := by
    rintro ⟨coherent, draft, doze, receiver, tracking⟩
    exact ⟨coherent, draft, State.dozeSound_kept.setRxinLine _ _ doze, receiver,
      State.TrackingSound.same tracking rfl rfl rfl rfl⟩
  rxinChanges s high := by
    rintro ⟨coherent, draft, doze, receiver, tracking⟩
    exact ⟨State.engineCoherent_kept.rxinChanges _ _ coherent, State.draftBound_kept.rxinChanges _ _ draft,
      State.dozeSound_kept.rxinChanges _ _ doze, State.rxinChanges_sound high receiver,
      State.TrackingSound.same tracking (by simp) (by simp) (by simp) (by simp)⟩
  confirmGlitch s := by
    rintro ⟨coherent, draft, doze, receiver, tracking⟩ awake
    exact ⟨State.engineCoherent_kept.confirmGlitch _ coherent awake,
      State.draftBound_kept.confirmGlitch _ draft awake, State.dozeSound_kept.confirmGlitch _ doze awake,
      State.confirmGlitch_sound receiver,
      State.TrackingSound.same tracking (by simp) (by simp) (by simp) (by simp)⟩
  burstEnds s := by
    rintro ⟨coherent, draft, doze, receiver, tracking⟩ awake
    exact ⟨State.engineCoherent_kept.burstEnds _ coherent awake, State.draftBound_kept.burstEnds _ draft awake,
      State.dozeSound_kept.burstEnds _ doze awake, State.burstEnds_sound receiver,
      State.burstEnds_tracking tracking⟩
  markTooLong s := by
    rintro ⟨coherent, draft, doze, receiver, tracking⟩ awake
    exact ⟨State.engineCoherent_kept.markTooLong _ coherent awake,
      State.draftBound_kept.markTooLong _ draft awake, State.dozeSound_kept.markTooLong _ doze awake,
      State.markTooLong_sound receiver,
      State.TrackingSound.same tracking (by simp) (by simp) (by simp) (by simp)⟩
  blankTailExpires s := by
    rintro ⟨coherent, draft, doze, receiver, tracking⟩ awake
    exact ⟨State.engineCoherent_kept.blankTailExpires _ coherent awake,
      State.draftBound_kept.blankTailExpires _ draft awake, State.dozeSound_kept.blankTailExpires _ doze awake,
      State.blankTailExpires_sound receiver,
      State.TrackingSound.same tracking (by simp) (by simp) (by simp) (by simp)⟩
  matchingEnds s := by
    rintro ⟨coherent, draft, doze, receiver, tracking⟩ awake
    refine ⟨State.engineCoherent_kept.matchingEnds _ coherent awake,
      State.draftBound_kept.matchingEnds _ draft awake, State.dozeSound_kept.matchingEnds _ doze awake, ?_,
      State.matchingEnds_tracking tracking⟩
    unfold State.matchingEnds
    split
    · exact receiver
    · next m matcher =>
      rw [State.trackingSound_iff] at tracking
      have full := (tracking.1 m matcher).1
      have delivered : (s.deliver m).ReceiverSound :=
        State.ReceiverSound.same receiver (by simp) (by simp) (by simp)
      have rx : (s.deliver m).rx = s.rx := by simp
      exact State.matcherTake_sound (State.freeBurst_sound m.slot (by rw [rx]; exact full) delivered)
  windowExpires s := by
    rintro ⟨coherent, draft, doze, receiver, tracking⟩ awake
    exact ⟨State.engineCoherent_kept.windowExpires _ coherent awake,
      State.draftBound_kept.windowExpires _ draft awake, State.dozeSound_kept.windowExpires _ doze awake,
      State.ReceiverSound.same receiver (by simp) (by simp) (by simp), State.windowExpires_tracking tracking⟩
  learnExpires s h awake :=
    h.still (State.engineCoherent_kept.learnExpires _ h.1 awake)
      (State.draftBound_kept.learnExpires _ h.2.1 awake) (State.dozeSound_kept.learnExpires _ h.2.2.1 awake)
      (by simp) (by simp) (by simp) (by simp) (by simp) (by simp)
  delayExpires s := by
    rintro ⟨coherent, draft, doze, receiver, tracking⟩ awake
    refine ⟨State.engineCoherent_kept.delayExpires _ coherent awake,
      State.draftBound_kept.delayExpires _ draft awake, State.dozeSound_kept.delayExpires _ doze awake, ?_,
      State.TrackingSound.same tracking ?_ (by simp) (by simp) s.delayExpires_states⟩
    all_goals
      unfold State.delayExpires
      split
    · exact receiver
    · exact receiver
    · rfl
    · rfl
  wake s byRxin rxin h :=
    h.still (State.engineCoherent_kept.wake _ _ rxin h.1) (State.draftBound_kept.wake _ _ rxin h.2.1)
      (State.dozeSound_kept.wake _ _ rxin h.2.2.1) (by simp) (by simp) (by simp) (by simp) (by simp) (by simp)
  latencyEnds s := by
    rintro ⟨coherent, draft, doze, receiver, tracking⟩
    exact ⟨State.engineCoherent_kept.latencyEnds _ coherent, State.draftBound_kept.latencyEnds _ draft,
      State.dozeSound_kept.latencyEnds _ doze, State.latencyEnds_sound doze receiver,
      State.TrackingSound.same tracking (by simp) (by simp) (by simp) s.latencyEnds_states⟩

/-- Settles O58: five invariants, of which the receiver rests on the engine, on DOZE and on the Matcher, and the
tracking on the draft. -/
theorem stepKeepsReception : Obligations.StepKeepsReception := fun _ _ stepped sound =>
  State.receptionSound_kept.step sound stepped

end Sys2Proof.Machine
end

section
/-! PROOF. The step, the commands and the reset state (O1, O2, O60). -/

namespace Sys2Proof.Machine

/-- Settles O1: both parts are the two equations of `step`. -/
theorem stepRunsTheFrontCommand : Obligations.StepRunsTheFrontCommand := by
  refine ⟨fun c rest s => rfl, fun s empty => ?_⟩
  unfold step
  rw [empty]

/-! ### What no command changes -/

/-- An act that leaves the queue of commands and the moment as they are. -/
def KeepsMoment (act : State → State) : Prop := ∀ s : State, (act s).pending = s.pending ∧ (act s).now = s.now

theorem KeepsMoment.whenAwake {act : State → State} (h : KeepsMoment act) : KeepsMoment (State.whenAwake act) := by
  intro s
  unfold State.whenAwake
  split
  · exact h s
  · exact ⟨rfl, rfl⟩

/-- An event takes the time that its command carries. -/
theorem KeepsMoment.eventOr {held act : State → State} (idle : KeepsMoment held) (h : KeepsMoment act) (dt : Nat)
    (s : State) : (s.eventOr dt held act).pending = s.pending ∧ (s.eventOr dt held act).now = s.now + dt := by
  unfold State.eventOr
  split
  · exact idle (s.advance dt)
  · exact h (s.advance dt)

theorem KeepsMoment.event {act : State → State} (h : KeepsMoment act) (dt : Nat) (s : State) :
    (s.event dt act).pending = s.pending ∧ (s.event dt act).now = s.now + dt :=
  KeepsMoment.eventOr (fun _ => ⟨rfl, rfl⟩) h dt s

theorem KeepsMoment.awakeEvent {act : State → State} (h : KeepsMoment act) (dt : Nat) (s : State) :
    (s.event dt (State.whenAwake act)).pending = s.pending
      ∧ (s.event dt (State.whenAwake act)).now = s.now + dt := h.whenAwake.event dt s

theorem keepsMoment_receiveRequest (kind tag : Byte) (payload : List Byte) :
    KeepsMoment (State.receiveRequest kind tag payload) := fun _ => by simp

theorem keepsMoment_powerOn (vdd : Nat) (strap : Bool) : KeepsMoment (State.powerOn vdd strap) := by
  intro s
  unfold State.powerOn State.unlessHeld
  split <;> simp

theorem keepsMoment_pinReset (release : Option Bool) : KeepsMoment (State.pinReset release) := by
  intro s
  unfold State.pinReset State.unlessHeld
  split
  · exact ⟨rfl, rfl⟩
  · split <;> simp

/-- Settles O2: every command is an event or a reset, and neither touches the queue of commands or the moment. -/
theorem everyCommandAnswersNext : Obligations.EveryCommandAnswersNext := by
  intro c s
  cases c
  case powerOnReset dt vdd strap => exact ⟨_, rfl, keepsMoment_powerOn vdd strap (s.advance dt)⟩
  case pinReset dt release => exact ⟨_, rfl, keepsMoment_pinReset release (s.advance dt)⟩
  case supplyChange dt supply =>
    refine ⟨_, rfl, KeepsMoment.eventOr (keepsMoment_powerOn supply.vdd supply.baudHigh) (fun s => ?_) dt s⟩
    unfold State.supplyMoves State.unlessHeld
    split
    · exact ⟨rfl, rfl⟩
    · exact KeepsMoment.whenAwake (fun _ => by simp) _
  case keyEdge dt k high =>
    have held : KeepsMoment (State.setKeyLine k high) := fun _ => ⟨rfl, rfl⟩
    have acts : KeepsMoment (State.keyLineChanges k high) := fun _ => by simp
    exact ⟨_, rfl, held.eventOr acts dt s⟩
  case rxinChange dt high =>
    have held : KeepsMoment (State.setRxinLine high) := fun _ => ⟨rfl, rfl⟩
    have acts : KeepsMoment (State.rxinChanges high) := fun _ => by simp
    exact ⟨_, rfl, held.eventOr acts dt s⟩
  case rxdWakeEdge dt => exact ⟨_, rfl, KeepsMoment.event (fun _ => by simp) dt s⟩
  case wakeLatencyEnd dt => exact ⟨_, rfl, KeepsMoment.event (fun _ => by simp) dt s⟩
  all_goals exact ⟨_, rfl, KeepsMoment.awakeEvent (fun _ => by simp) _ s⟩

/-! ### The reset state -/

/-- A power-on reset of the blank part changes nothing. -/
theorem powerOnReset_reset : exec (.powerOnReset 0 3000 false) State.reset = .next State.reset := rfl

theorem reset_jobsSound : State.reset.JobsSound := by
  have states (t : Fin 16) : State.reset.lib.slots[t] = ⟨.empty, 0, false⟩ := by simp [State.reset]
  have keys (k : Fin 8) : State.reset.keys[k] = ⟨.up, .stopped, none, none⟩ := by simp [State.reset]
  have accounts : State.reset.Accounts := by
    refine ⟨Nat.le_refl 1, by decide, State.ledger_empty (fun t => ?_) (fun k => ?_) fun k spec mem => ?_⟩
    · have unbound : keyBindings State.reset.keys = fun _ => none := funext fun k => by rw [keyBindings, keys]
      rw [Library.refs, states, unbound]
      simp [namedBy]
    · rw [keyLives, keys]
    · rw [keyBindings, keys] at mem
      contradiction
  obtain ⟨ids, counts, lives⟩ := State.reset.accounts_iff.1 accounts
  refine ⟨Engine.coherent_without nofun rfl rfl, ⟨?_, ?_⟩, Nat.zero_le _, ids, counts, lives, ?_, ?_, trivial⟩
  all_goals simp [State.reset, Bank.image]

theorem reset_receptionSound : State.reset.ReceptionSound := by
  have unbound (t : Fin 16) : State.reset.lib.slots[t].state.isBound = false := by
    simp [State.reset, SlotState.isBound]
  refine ⟨Engine.coherent_without nofun rfl rfl, unbound, State.dozeSound_of_awake rfl, ?_,
    State.trackingSound_reset rfl rfl⟩
  exact State.reset.receiverSound_iff.2 (Receiver.afterReset_sound true Settings.defaults)

/-- Settles O60: the reset state is one that a power-on reset leaves, and its blocks hold nothing. -/
theorem resetStateIsSound : Obligations.ResetStateIsSound := by
  have noBank : State.reset.store.bankA = .invalid ∧ State.reset.store.bankB = .invalid := ⟨rfl, rfl⟩
  refine ⟨powerOnReset_reset, ?_, ?_, reset_jobsSound, reset_receptionSound, ?_, ?_, fun t d mem => ?_, ?_, ?_,
    trivial⟩
  · exact ⟨Nat.zero_le _, Nat.zero_le _, Nat.zero_le _, by decide⟩
  · exact State.reset.queueOrdered_iff.2 queueOrder_rules.reset
  · simp [State.BanksSound, State.reset, Bank.generation]
  · refine ⟨Settings.defaults_inRange, ?_, ?_, trivial⟩
    all_goals simp [noBank, Bank.image]
  · simp [State.reset, SlotState.definition] at mem
  all_goals simp [noBank, Bank.image]

end Sys2Proof.Machine
end

section
/-! PROOF. Requests that are handled at once, and the requests of the Code Library (01). -/

namespace Sys2Proof.Machine

/-! ### The request layer (09 R167) -/

/-- A request of an allowed length, handled at once: the block's state, with the reply in the reply buffer. -/
theorem State.receive_handled {s t : State} {dt : Nat} {k : RequestKind} {tag : Byte} {payload : List Byte}
    {body : ReplyBody} (ready : s.Ready) (misses : s.Misses dt ⟨k.code, tag, payload⟩)
    (notRestart : k.code ≠ RequestKind.restart.code) (fits : payload.length ≤ 60)
    (allowed : k.lengthOk payload = true) (handled : (s.received dt).dispatch k payload = (t, body)) :
    s.event dt (State.whenAwake (State.receiveRequest k.code tag payload)) =
      { t with link := t.link.afterRequest ⟨k.code, tag, payload⟩ body } := by
  have same : t = ((s.received dt).dispatch k payload).1 := by rw [handled]
  have hunts : t.link.receiver = .hunt := by rw [same]; simp [State.received]
  have stopped : t.link.interByte = .stopped := by rw [same]; simp [State.received]
  rw [State.receive_ready ready k.isRequest_code fits misses, State.carryOut_dispatch tag _ allowed, handled,
    formReply]
  dsimp only
  rw [Link.answer_eq (r := ⟨k.code, tag, payload⟩) notRestart body t.link hunts stopped]

section

variable {c : Instr} {s t : State} {dt : Nat} {k : RequestKind} {tag : Byte} {payload : List Byte} {body : ReplyBody}

/-- The command of a request that is handled at once. -/
theorem exec_handled
    (receives : exec c s = .next (s.event dt (State.whenAwake (State.receiveRequest k.code tag payload))))
    (ready : s.Ready) (misses : s.Misses dt ⟨k.code, tag, payload⟩) (notRestart : k ≠ .restart)
    (fits : payload.length ≤ 60) (allowed : k.lengthOk payload = true)
    (handled : (s.received dt).dispatch k payload = (t, body)) :
    exec c s = .next { t with link := t.link.afterRequest ⟨k.code, tag, payload⟩ body } := by
  have kinds : k.code ≠ RequestKind.restart.code := by
    cases k <;> first | exact absurd rfl notRestart | decide
  rw [receives, State.receive_handled ready misses kinds fits allowed handled]

/-- The command of a request that is answered without a change of its block's state. -/
theorem exec_refused
    (receives : exec c s = .next (s.event dt (State.whenAwake (State.receiveRequest k.code tag payload))))
    (ready : s.Ready) (misses : s.Misses dt ⟨k.code, tag, payload⟩) (notRestart : k ≠ .restart)
    (fits : payload.length ≤ 60) (allowed : k.lengthOk payload = true)
    (handled : (s.received dt).dispatch k payload = (s.received dt, body)) :
    exec c s = .next (s.answered dt ⟨k.code, tag, payload⟩ body) :=
  exec_handled receives ready misses notRestart fits allowed handled

end

/-! ### Numbers (11 section 11.4) -/

theorem slotOf_of_eq {b : Byte} {t : Fin 16} (same : b.toNat = t.val) : slotOf b = some t := by
  unfold slotOf
  rw [dif_pos (same ▸ t.isLt)]
  exact congrArg some (Fin.ext same)

theorem slotOf_of_ge {b : Byte} (large : 16 ≤ b.toNat) : slotOf b = none := dif_neg (Nat.not_lt.2 large)

theorem keyOf_of_eq {b : Byte} {k : Fin 8} (same : b.toNat = k.val) : keyOf b = some k := by
  unfold keyOf
  rw [dif_pos (same ▸ k.isLt)]
  exact congrArg some (Fin.ext same)

theorem keyOf_of_ge {b : Byte} (large : 8 ≤ b.toNat) : keyOf b = none := dif_neg (Nat.not_lt.2 large)

theorem modeOf_of_ge {b : Byte} (large : 2 ≤ b.toNat) : modeOf b = none := by
  obtain ⟨n, size⟩ := Nat.exists_eq_add_of_le' large
  unfold modeOf
  rw [size]
  rfl

theorem modeOf_of_lt {b : Byte} (small : b.toNat < 2) : ∃ m, modeOf b = some m := by
  have sizes : b.toNat = 0 ∨ b.toNat = 1 := by omega
  unfold modeOf
  rcases sizes with size | size
  all_goals
    rw [size]
    exact ⟨_, rfl⟩

/-! ### TPL_OPEN (01 R9) -/

theorem State.handleOpen_eq {slot mode : Byte} {t : Fin 16} {m : DraftMode} (inSlots : slotOf slot = some t)
    (inModes : modeOf mode = some m) (s : State) : s.handleOpen [slot, mode] = s.tplOpen t m := by
  simp [State.handleOpen, inSlots, inModes]

theorem State.handleOpen_badValue {slot mode : Byte} (bad : slotOf slot = none ∨ modeOf mode = none)
    (s : State) : s.handleOpen [slot, mode] = (s, .status .badValue) := by
  unfold State.handleOpen
  rcases bad with bad | bad <;> simp [bad, State.badValue]

/-- With an idle Matcher and no session on the slot nothing else is told (01 R10). -/
theorem State.slotLeavesReady_quiet {s : State} {t : Fin 16} (idle : s.matcher = none)
    (free : s.tracker.heldOn t = false) : s.slotLeavesReady t = s := by
  have reached : s.matcherReached = s := by unfold State.matcherReached; rw [idle]
  have dropped : s.dropTemplate t = s := by
    unfold State.dropTemplate
    rw [idle, Option.map_none, ← idle]
  unfold State.slotLeavesReady
  rw [reached, dropped]
  unfold State.endSessionOn
  split
  · next code held =>
    rw [held] at free
    exact if_neg (of_decide_eq_false free)
  · rfl

section

variable {s : State} {t : Fin 16} {mode : DraftMode}

theorem State.tplOpen_saving (writing : s.isWriting = true) : s.tplOpen t mode = (s, .status .saving) :=
  if_pos writing

theorem State.tplOpen_draftBusy (free : s.isWriting = false) (busy : s.lib.draft.isSome) :
    s.tplOpen t mode = (s, .status .draftBusy) := by
  simp [State.tplOpen, free, busy]

theorem State.tplOpen_new (free : s.isWriting = false) (none : s.lib.draft = none)
    (empty : s.lib.slots[t].state = .empty) :
    s.tplOpen t .new = (s.openDraft t .new newDraft .draft, .status .ok) := by
  unfold State.tplOpen
  rw [free, none, empty]
  rfl

theorem State.tplOpen_new_slotState (free : s.isWriting = false) (none : s.lib.draft = none)
    (taken : s.lib.slots[t].state ≠ .empty) : s.tplOpen t .new = (s, .status .slotState) := by
  unfold State.tplOpen
  rw [free, none]
  cases state : s.lib.slots[t].state with
  | empty => exact absurd state taken
  | draft | ready | revising => rfl

theorem State.tplOpen_revise_slotState (free : s.isWriting = false) (none : s.lib.draft = none)
    (notReady : ∀ d, s.lib.slots[t].state ≠ .ready d) : s.tplOpen t .revise = (s, .status .slotState) := by
  unfold State.tplOpen
  rw [free, none]
  cases state : s.lib.slots[t].state with
  | ready d => exact absurd state (notReady d)
  | draft | empty | revising => rfl

theorem State.tplOpen_revise_inUse (free : s.isWriting = false) (none : s.lib.draft = none) {d : Template}
    (isReady : s.lib.slots[t].state = .ready d) (used : s.lib.slots[t].refs ≠ 0) :
    s.tplOpen t .revise = (s, .status .inUse) := by
  unfold State.tplOpen
  rw [free, none, isReady]
  exact if_pos used

theorem State.tplOpen_revise (free : s.isWriting = false) (none : s.lib.draft = none) {d : Template}
    (isReady : s.lib.slots[t].state = .ready d) (unused : s.lib.slots[t].refs = 0) :
    s.tplOpen t .revise = ((s.slotLeavesReady t).openDraft t .revise d (.revising d), .status .ok) := by
  unfold State.tplOpen
  rw [free, none, isReady]
  exact if_neg (not_not.2 unused)

end

/-- Settles O6: the checks of TPL_OPEN in their order, and the draft that a NEW or a REVISE creates. -/
theorem tplOpenBindsADraft : Obligations.TplOpenBindsADraft := by
  intro s dt tag slot mode ready misses answer due
  have refused {st : Status} (e : (s.received dt).handleOpen [slot, mode] = (s.received dt, .status st)) :
      exec (.tplOpen dt tag slot mode) s = .next (answer st) :=
    exec_refused (k := .tplOpen) rfl ready misses nofun (by simp) rfl e
  refine ⟨fun bad => refused (State.handleOpen_badValue (bad.imp slotOf_of_ge modeOf_of_ge) _), fun t same => ?_⟩
  have opens {m : DraftMode} (inModes : modeOf mode = some m) :
      (s.received dt).handleOpen [slot, mode] = (s.received dt).tplOpen t m :=
    State.handleOpen_eq (slotOf_of_eq same) inModes _
  refine ⟨fun small writing => ?_, fun small free busy => ?_, fun free none new => ⟨fun taken => ?_, fun empty => ?_⟩,
    fun free none revise => ⟨fun notReady => ?_, fun d isReady => ⟨fun used => ?_, fun unused idle quiet => ?_⟩⟩⟩
  · obtain ⟨m, inModes⟩ := modeOf_of_lt small
    exact refused ((opens inModes).trans (State.tplOpen_saving writing))
  · obtain ⟨m, inModes⟩ := modeOf_of_lt small
    exact refused ((opens inModes).trans (State.tplOpen_draftBusy free busy))
  · subst new
    exact refused ((opens rfl).trans (State.tplOpen_new_slotState free none taken))
  · subst new
    exact exec_handled (k := .tplOpen) rfl ready misses nofun (by simp) rfl
      ((opens rfl).trans (State.tplOpen_new (s := s.received dt) free none empty))
  · subst revise
    exact refused ((opens rfl).trans (State.tplOpen_revise_slotState free none notReady))
  · subst revise
    exact refused ((opens rfl).trans (State.tplOpen_revise_inUse free none isReady used))
  · subst revise
    have opened := State.tplOpen_revise (s := s.received dt) free none isReady unused
    rw [State.slotLeavesReady_quiet (s := s.received dt) idle quiet] at opened
    exact exec_handled (k := .tplOpen) rfl ready misses nofun (by simp) rfl ((opens rfl).trans opened)

end Sys2Proof.Machine
end

section
/-! PROOF. The requests of the Code Library (01 R10 to R20): what a slot that leaves READY tells, and the
put, commit, abort, erase and read of a template. -/

namespace Sys2Proof.Machine

/-! ### A slot leaves READY (01 R10, 08 R143) -/

/-- Nothing of a Matcher that has dropped a template names it. -/
theorem Matching.drop_names (t : Fin 16) (m : Matching) :
    ((m.drop t).result = none → t ∉ (m.drop t).untried)
      ∧ (∀ p, (m.drop t).result ≠ some (.fullFrame t p)) ∧ (m.drop t).result ≠ some (.marker t) := by
  unfold Matching.drop
  split
  · next w p found =>
    split
    · simp
    · next other =>
      rw [found]
      simp [other]
  · next w found =>
    split
    · simp
    · next other =>
      rw [found]
      simp [other]
  · next found =>
    rw [found]
    simp

theorem State.slotLeavesReady_matcher (s : State) (t : Fin 16) :
    (s.slotLeavesReady t).matcher = s.matcherReached.matcher.map (Matching.drop t) := by
  unfold State.slotLeavesReady State.endSessionOn
  split
  · split <;> rfl
  · rfl

theorem State.matcherReached_idle {s : State} (idle : s.matcher = none) : s.matcherReached.matcher = none := by
  unfold State.matcherReached
  rw [idle]
  exact idle

theorem State.slotLeavesReady_tracker (s : State) (t : Fin 16) :
    (s.slotLeavesReady t).tracker = if s.tracker.heldOn t then .quiet else s.tracker := by
  have same : (s.matcherReached.dropTemplate t).tracker = s.tracker := by simp [State.dropTemplate]
  unfold State.slotLeavesReady State.endSessionOn
  rw [same]
  cases held : s.tracker with
  | quiet => simp [held, Tracker.heldOn]
  | held code =>
    by_cases on : code.template = t
    · simp [on, Tracker.heldOn, State.endSession]
    · simp [on, Tracker.heldOn, held]

theorem State.slotLeavesReady_notices (s : State) (t : Fin 16) :
    (s.slotLeavesReady t).link.notices =
      match s.tracker with
      | .held code =>
        if code.template = t ∧ s.link.notices.length < 12 then
          s.link.notices ++ [.rxEnd t .gone code.repeats code.payload]
        else s.link.notices
      | .quiet => s.link.notices := by
  have same : (s.matcherReached.dropTemplate t).tracker = s.tracker := by simp [State.dropTemplate]
  unfold State.slotLeavesReady State.endSessionOn
  rw [same]
  cases held : s.tracker with
  | quiet => simp
  | held code =>
    by_cases on : code.template = t
    · simp [on, State.endSession, Link.post_notices]
    · simp [on]

/-- What leaving READY tells beyond the slot itself: `u` has the slot not READY and agrees with the told state. -/
def State.Told (u s : State) (t : Fin 16) : Prop :=
  ∃ x : Slot, x.state.usable = none ∧ u.lib.slots = s.lib.slots.set t x
    ∧ u.matcher = (s.slotLeavesReady t).matcher ∧ u.tracker = (s.slotLeavesReady t).tracker
    ∧ u.link.notices = (s.slotLeavesReady t).link.notices
    ∧ u.queue = s.queue ∧ u.engine = s.engine ∧ u.keys = s.keys ∧ u.rx = s.rx ∧ u.settings = s.settings
    ∧ u.store = s.store ∧ u.learn = s.learn ∧ u.supply = s.supply ∧ u.carrier = s.carrier ∧ u.ind = s.ind
    ∧ u.kLines = s.kLines

section

variable {s : State} {t : Fin 16}

theorem State.tplErase_saving (writing : s.isWriting = true) : s.tplErase t = (s, .status .saving) :=
  if_pos writing

theorem State.tplErase_slotState (free : s.isWriting = false) (notReady : ∀ d, s.lib.slots[t].state ≠ .ready d) :
    s.tplErase t = (s, .status .slotState) := by
  unfold State.tplErase
  rw [free]
  cases state : s.lib.slots[t].state with
  | ready d => exact absurd state (notReady d)
  | draft | empty | revising => rfl

theorem State.tplErase_inUse (free : s.isWriting = false) {d : Template} (isReady : s.lib.slots[t].state = .ready d)
    (used : s.lib.slots[t].refs ≠ 0) : s.tplErase t = (s, .status .inUse) := by
  unfold State.tplErase
  rw [free, isReady]
  exact if_pos used

theorem State.tplErase_ready (free : s.isWriting = false) {d : Template} (isReady : s.lib.slots[t].state = .ready d)
    (unused : s.lib.slots[t].refs = 0) :
    s.tplErase t =
      ({ s.slotLeavesReady t with lib := (s.slotLeavesReady t).lib.setFresh t .empty }, .status .ok) := by
  unfold State.tplErase
  rw [free, isReady]
  exact if_neg (not_not.2 unused)

theorem State.handleErase_eq {slot : Byte} (inSlots : slotOf slot = some t) (s : State) :
    s.handleErase [slot] = s.tplErase t := by
  simp [State.handleErase, inSlots]

theorem State.handleErase_badValue {slot : Byte} (bad : slotOf slot = none) (s : State) :
    s.handleErase [slot] = (s, .status .badValue) := by
  simp [State.handleErase, bad, State.badValue]

/-- An erase tells. -/
theorem State.told_erase (r : Request) (body : ReplyBody) :
    State.Told
      { s.slotLeavesReady t with
        lib := (s.slotLeavesReady t).lib.setFresh t .empty
        link := (s.slotLeavesReady t).link.afterRequest r body } s t := by
  refine ⟨{ s.lib.slots[t] with state := .empty, toggle := false }, rfl, ?_, rfl, rfl, rfl, ?_⟩
  · simp [Library.setFresh]
  · simp

/-- A revision tells. -/
theorem State.told_revise (r : Request) (body : ReplyBody) (d : Template) :
    State.Told
      { (s.slotLeavesReady t).openDraft t .revise d (.revising d) with
        link := (s.slotLeavesReady t).link.afterRequest r body } s t := by
  refine ⟨{ s.lib.slots[t] with state := .revising d }, rfl, ?_, rfl, rfl, rfl, ?_⟩
  · simp [State.openDraft, Library.setState]
  · simp [State.openDraft]

end

theorem slotOf_u8 (t : Fin 16) : slotOf (u8 t.val) = some t :=
  slotOf_of_eq (by simp [u8, BitVec.toNat_ofNat]; omega)

/-- Settles O7: the Matcher has dropped the slot, the tracker's session on it has ended with GONE. -/
theorem leavingReadyIsTold : Obligations.LeavingReadyIsTold := by
  intro s dt tag t d c ready free isReady unused command
  have told : ∃ u, exec c s = .next u ∧ u.Told (s.received dt) t := by
    rcases command with ⟨rfl, misses⟩ | ⟨rfl, misses, none⟩
    · refine ⟨_, exec_handled (k := .tplErase) rfl ready misses nofun (by simp) rfl
        ((State.handleErase_eq (slotOf_u8 t) _).trans
          (State.tplErase_ready (s := s.received dt) free isReady unused)), State.told_erase ..⟩
    · refine ⟨_, exec_handled (k := .tplOpen) rfl ready misses nofun (by simp) rfl
        ((State.handleOpen_eq (m := .revise) (slotOf_u8 t) rfl _).trans
          (State.tplOpen_revise (s := s.received dt) free none isReady unused)), State.told_revise ..⟩
  obtain ⟨u, runs, x, gone, slots, matcher, tracker, notices, rest⟩ := told
  refine ⟨u, runs, ?_, fun n other => ?_, fun m working => ?_, fun idle => ?_, ?_, ?_, rest⟩
  · rw [slots]
    simpa using gone
  · rw [slots]
    exact Vector.getElem_set_ne _ _ fun same => other (Fin.ext same.symm)
  · rw [matcher, State.slotLeavesReady_matcher] at working
    obtain ⟨m₀, -, rfl⟩ := Option.map_eq_some_iff.1 (Option.mem_def.1 working)
    exact m₀.drop_names t
  · rw [matcher, State.slotLeavesReady_matcher, State.matcherReached_idle (s := s.received dt) idle]
    rfl
  · rw [notices, State.slotLeavesReady_notices]
    rfl
  · rw [tracker, State.slotLeavesReady_tracker]
    rfl

/-! ### TPL_PUT (01 R11, R18) -/

/-- Settles O8: the checks of TPL_PUT in their order, and the renewal of the draft. -/
theorem tplPutRenewsTheDraft : Obligations.TplPutRenewsTheDraft := by
  intro s dt tag part data ready misses fits allowed answer due
  have puts {t : State} {body : ReplyBody} (e : (s.received dt).tplPut (partOf part data) = (t, body)) :
      exec (.tplPut dt tag part data) s =
        .next { t with link := t.link.afterRequest ⟨0x11#8, tag, part :: data⟩ body } :=
    exec_handled (k := .tplPut) rfl ready misses nofun (by simp; omega) allowed e
  cases drafts : s.lib.draft with
  | none =>
    refine puts (t := s.received dt) ?_
    unfold State.tplPut
    rw [show (s.received dt).lib.draft = none from drafts]
    rfl
  | some d =>
    have unfolds : (s.received dt).tplPut (partOf part data) =
        if s.isWriting then ((s.received dt).setDraft (some (d.renew due)), .status .saving)
        else
          match partOf part data with
          | none => ((s.received dt).setDraft (some (d.renew due)), .status .badValue)
          | some p => ((s.received dt).setDraft (some ((d.accept p).renew due)), .status .ok) := by
      unfold State.tplPut
      rw [show (s.received dt).lib.draft = some d from drafts]
      rfl
    cases writing : s.isWriting with
    | true => exact puts (unfolds.trans (if_pos writing))
    | false =>
      rw [writing] at unfolds
      cases parts : partOf part data with
      | none =>
        rw [parts] at unfolds puts
        exact puts unfolds
      | some x =>
        rw [parts] at unfolds puts
        exact puts unfolds

/-! ### TPL_COMMIT and TPL_ABORT (01 R14 to R18) -/

/-- Settles O10: the checks of TPL_COMMIT in their order, and what it installs. -/
theorem tplCommitInstalls : Obligations.TplCommitInstalls := by
  intro s dt tag ready misses r
  have commits {t : State} {body : ReplyBody} (e : (s.received dt).tplCommit = (t, body)) :
      exec (.tplCommit dt tag) s = .next { t with link := t.link.afterRequest ⟨0x12#8, tag, []⟩ body } :=
    exec_handled (k := .tplCommit) rfl ready misses nofun (by simp) rfl e
  have unfolds : (s.received dt).tplCommit =
      if s.isWriting then (s.received dt, .status .saving)
      else
        match s.lib.draft with
        | none => (s.received dt, .status .noDraft)
        | some d =>
          match d.work.invalid? with
          | some reason => (s.received dt, .invalid reason)
          | none => ((s.received dt).install d, .status .ok) := rfl
  cases writing : s.isWriting with
  | true => exact commits (unfolds.trans (if_pos writing))
  | false =>
    rw [writing] at unfolds
    cases drafts : s.lib.draft with
    | none =>
      rw [drafts] at unfolds
      exact commits unfolds
    | some d =>
      rw [drafts] at unfolds
      dsimp only at unfolds ⊢
      cases reason : d.work.invalid? with
      | some why =>
        rw [reason] at unfolds
        exact commits unfolds
      | none =>
        rw [reason] at unfolds
        exact commits unfolds

/-- The command of an event that a running part takes, and that leaves the part busy. -/
theorem exec_busy {c : Instr} {s t : State} {dt : Nat} {act : State → State}
    (takes : exec c s = .next (s.event dt (State.whenAwake act))) (runs : s.Running)
    (acts : act (s.advance dt) = t) (awake : t.doze.state = .awake) (busy : t.isQuiet = false) :
    exec c s = .next { t with doze := { t.doze with delay := .stopped } } := by
  rw [takes, State.event_running runs, acts, State.settle_busy awake busy]

theorem Library.abandon_eq {l : Library} {d : Draft} (drafts : l.draft = some d) :
    l.abandon =
      { slots := l.slots.set d.slot { l.slots[d.slot] with state := l.slots[d.slot].state.restored }, draft := none } := by
  unfold Library.abandon
  rw [drafts]
  rfl

/-- Settles O13: TPL_ABORT and the draft expiry give the slot back. -/
theorem abandoningRestoresTheSlot : Obligations.AbandoningRestoresTheSlot := by
  constructor
  · intro s dt tag ready misses none
    refine exec_refused (k := .tplAbort) rfl ready misses nofun (by simp) rfl ?_
    change (s.received dt).tplAbort = _
    unfold State.tplAbort
    rw [show (s.received dt).lib.draft = Option.none from none]
  · intro s dt tag d st runs drafts bound lib
    have abandoned : s.lib.abandon = lib := by
      have back : s.lib.slots[d.slot].state.restored = st := by
        rcases bound with ⟨was, rfl⟩ | ⟨kept, was, rfl⟩ <;> rw [was] <;> rfl
      rw [Library.abandon_eq drafts, back]
    refine ⟨fun ready misses => ?_, fun due expires passed => ?_⟩
    · have aborts : (s.received dt).tplAbort = ({ s.received dt with lib := lib }, .status .ok) := by
        unfold State.tplAbort
        rw [show (s.received dt).lib.draft = some d from drafts, ← abandoned]
        rfl
      exact exec_handled (k := .tplAbort) rfl ready misses nofun (by simp) rfl aborts
    · have acts : (s.advance dt).draftExpires =
          { s.advance dt with lib := lib, link := s.link.post (.draftExpired d.slot d.mode) } := by
        unfold State.draftExpires
        rw [show (s.advance dt).lib.draft = some d from drafts, ← abandoned]
        exact if_pos (by rw [expires]; exact (Timer.isDue_running _ _).2 passed)
      exact exec_busy rfl runs acts runs.2 (State.notQuiet_of_notice (Link.post_notices_ne _ _))

/-! ### TPL_ERASE and TPL_READ (01 R19, R20) -/

/-- Settles O14: the checks of TPL_ERASE in their order, and its effect. -/
theorem tplEraseEmptiesTheSlot : Obligations.TplEraseEmptiesTheSlot := by
  intro s dt tag slot ready misses answer
  have refused {st : Status} (e : (s.received dt).handleErase [slot] = (s.received dt, .status st)) :
      exec (.tplErase dt tag slot) s = .next (answer st) :=
    exec_refused (k := .tplErase) rfl ready misses nofun (by simp) rfl e
  refine ⟨fun bad => refused (State.handleErase_badValue (slotOf_of_ge bad) _), fun t same => ?_⟩
  have erases : (s.received dt).handleErase [slot] = (s.received dt).tplErase t :=
    State.handleErase_eq (slotOf_of_eq same) _
  refine ⟨fun writing => refused (erases.trans (State.tplErase_saving writing)),
    fun free notReady => refused (erases.trans (State.tplErase_slotState free notReady)),
    fun d free isReady => ⟨fun used => refused (erases.trans (State.tplErase_inUse free isReady used)),
      fun unused idle quiet => ?_⟩⟩
  have erased := State.tplErase_ready (s := s.received dt) free isReady unused
  rw [State.slotLeavesReady_quiet (s := s.received dt) idle quiet] at erased
  exact exec_handled (k := .tplErase) rfl ready misses nofun (by simp) rfl (erases.trans erased)

/-- The bytes with which a TPL_READ names a section (11 section 11.5). -/
def Part.numbers : Part → Byte × Byte
  | .carrier => (0#8, 0#8)
  | .lead => (1#8, 0#8)
  | .symbol k => (2#8, BitVec.ofNat 8 k.val)
  | .format => (3#8, 0#8)
  | .trailer => (4#8, 0#8)
  | .repetition => (5#8, 0#8)
  | .spacing => (6#8, 0#8)
  | .receive => (7#8, 0#8)


theorem readPartOf_numbers (p : Part) : readPartOf p.numbers.1 p.numbers.2 = some p := by
  cases p with
  | symbol k => revert k; decide
  | carrier | lead | format | trailer | repetition | spacing | receive => rfl

theorem readPartOf_of_bad {part n : Byte}
    (bad : 8 ≤ part.toNat ∨ (part = 2#8 ∧ 4 ≤ n.toNat) ∨ (part ≠ 2#8 ∧ n ≠ 0#8)) : readPartOf part n = none := by
  rcases bad with large | ⟨rfl, large⟩ | ⟨other, number⟩
  · obtain ⟨m, size⟩ := Nat.exists_eq_add_of_le' large
    unfold readPartOf
    rw [size]
    rfl
  · exact dif_neg (Nat.not_lt.2 large)
  · unfold readPartOf
    split
    · next size => exact absurd (BitVec.eq_of_toNat_eq size) other
    all_goals simp [number]

/-- The copy byte of a TPL_READ in range (01 R20). -/
theorem State.handleRead_eq {slot copy part n : Byte} {t : Fin 16} {p : Part} (inSlots : slotOf slot = some t)
    (inParts : readPartOf part n = some p) (s : State) :
    s.handleRead [slot, copy, part, n] =
      match copy.toNat with
      | 0 => s.readStored t p
      | 1 => s.readDraft t p
      | _ => s.badValue := by
  simp only [State.handleRead, inSlots, inParts] <;> rfl

theorem State.handleRead_badValue {slot copy part n : Byte}
    (bad : slotOf slot = none ∨ readPartOf part n = none ∨ 2 ≤ copy.toNat) (s : State) :
    s.handleRead [slot, copy, part, n] = (s, .status .badValue) := by
  rcases bad with bad | bad | large
  · simp [State.handleRead, bad, State.badValue]
  · simp [State.handleRead, bad, State.badValue]
  · obtain ⟨m, size⟩ := Nat.exists_eq_add_of_le' large
    simp only [State.handleRead, size]
    cases slotOf slot with
    | none => rfl
    | some t => cases readPartOf part n <;> rfl

/-- Settles O15: TPL_READ of the stored copy and of the draft copy. -/
theorem tplReadAnswersTheSection : Obligations.TplReadAnswersTheSection := by
  intro s dt tag slot copy part n ready misses answer numbers
  have answers {t : State} {body : ReplyBody}
      (e : (s.received dt).handleRead [slot, copy, part, n] = (t, body)) :
      exec (.tplRead dt tag slot copy part n) s =
        .next { t with link := t.link.afterRequest ⟨0x15#8, tag, [slot, copy, part, n]⟩ body } :=
    exec_handled (k := .tplRead) rfl ready misses nofun (by simp) rfl e
  refine ⟨fun bad => answers (t := s.received dt) (State.handleRead_badValue ?_ _), fun t p same names => ?_⟩
  · rcases bad with bad | bad | bad
    · exact .inl (slotOf_of_ge bad)
    · exact .inr (.inr bad)
    · exact .inr (.inl (readPartOf_of_bad bad))
  have inParts : readPartOf part n = some p := by
    obtain ⟨rfl, rfl⟩ : part = p.numbers.1 ∧ n = p.numbers.2 := Prod.mk.inj names
    exact readPartOf_numbers p
  have reads := State.handleRead_eq (copy := copy) (slotOf_of_eq same) inParts (s.received dt)
  constructor
  · rintro rfl
    have stored : (s.received dt).handleRead [slot, 0#8, part, n] =
        match s.lib.slots[t].state.definition with
        | some d => (s.received dt, .part (d.partBytes p))
        | none => (s.received dt, .status .slotState) := reads
    cases state : s.lib.slots[t].state with
    | ready d | revising d | empty | draft =>
      rw [state] at stored
      exact answers stored
  · rintro rfl
    have drafted : (s.received dt).handleRead [slot, 1#8, part, n] =
        match s.lib.draft with
        | none => (s.received dt, .status .noDraft)
        | some d =>
          if d.slot ≠ t then (s.received dt, .status .slotState)
          else ((s.received dt).setDraft (some (d.renew (s.received dt).draftDue)), .part (d.work.partBytes p)) := reads
    cases drafts : s.lib.draft with
    | none =>
      rw [drafts] at drafted
      exact answers drafted
    | some d =>
      rw [drafts] at drafted
      dsimp only at drafted ⊢
      by_cases own : d.slot = t
      · rw [if_pos own]
        exact answers (drafted.trans (if_neg (not_not.2 own)))
      · rw [if_neg own]
        exact answers (drafted.trans (if_pos own))

end Sys2Proof.Machine
end

section
/-! PROOF. The resets, and what a part that is held in reset or asleep does not see (10 R179, R186, R190,
09 R175, R177). -/

namespace Sys2Proof.Machine

/-! ### Held in reset, and asleep -/

/-- In DOZE and in the wake latency an event of a block that stands still only lets time pass (10 R190). -/
theorem State.event_asleep {s : State} (on : s.heldInReset = false) (asleep : s.doze.state ≠ .awake) (dt : Nat)
    (act : State → State) : s.event dt (State.whenAwake act) = s.advance dt := by
  have still : (s.advance dt).whenAwake act = s.advance dt := if_neg (by simpa [State.isAwake] using asleep)
  have settled : (s.advance dt).settle = s.advance dt := by
    unfold State.settle State.delayAfter
    cases state : s.doze.state with
    | awake => exact absurd state asleep
    | dozing | waking =>
      rw [show (s.advance dt).doze.state = s.doze.state from rfl, state]
  rw [State.event, State.eventOr, if_neg (by simp [on]), still, settled]

/-- Settles O3: what a part that is held in reset or asleep still follows. -/
theorem heldOrAsleepIgnores : Obligations.HeldOrAsleepIgnores := by
  refine ⟨fun s => by simp [State.heldInReset_eq, Config.resetVoltage], fun s c held => ?_, fun s dt vdd strap => ?_,
    fun s c on asleep => ?_⟩
  · cases c
    case keyEdge dt k high => exact congrArg Host.Outcome.next (if_pos held)
    case rxinChange dt high => exact congrArg Host.Outcome.next (if_pos held)
    case powerOnReset | pinReset | supplyChange => trivial
    all_goals exact congrArg Host.Outcome.next (State.event_held held _ _)
  · refine ⟨fun down => congrArg Host.Outcome.next (if_pos ?_), rfl, fun down => congrArg Host.Outcome.next (if_pos ?_)⟩
    · simpa [State.heldInReset, Config.resetVoltage, State.setVdd, or_comm] using down
    · simpa [State.heldInReset, Config.resetVoltage, State.setReset] using down
  · cases c
    case powerOnReset | pinReset | supplyChange | keyEdge | rxinChange | rxdWakeEdge | wakeLatencyEnd => trivial
    all_goals exact congrArg Host.Outcome.next (State.event_asleep on asleep _ _)

/-! ### What a reset leaves -/

/-- The link after a reset with START posted, and SUPPLY LOW when the supply is LOW (09 R177, 10 R186). -/
def Link.announced (strap : Bool) (listens : Nat) (reason : ResetReason) (status : ImageStatus) (low : Bool)
    (threshold : Nat) : Link :=
  { Link.afterReset strap listens with
    notices := .start reason status :: if low then [.supply true threshold] else []
    sending := some (.notice 0#8 false) }

theorem State.announce_eq {s : State} {strap : Bool} {listens : Nat} (reason : ResetReason) (status : ImageStatus)
    (fresh : s.link = Link.afterReset strap listens) :
    s.announce reason status =
      { s with
        link := Link.announced strap listens reason status s.supply.low s.settings.supplyThreshold } := by
  unfold State.announce Link.announced
  split <;> simp only [State.post, fresh] <;> rfl

theorem Link.announced_fresh (strap : Bool) (listens : Nat) (reason : ResetReason) (status : ImageStatus)
    (low : Bool) (threshold : Nat) :
    (Link.announced strap listens reason status low threshold).Fresh reason status low threshold strap :=
  ⟨rfl, rfl, rfl, rfl, rfl, rfl, rfl, rfl, rfl, rfl, rfl, rfl⟩

theorem Receiver.afterReset_fresh (lineHigh : Bool) (c : Settings) :
    (Receiver.afterReset lineHigh c).Fresh lineHigh c :=
  ⟨rfl, rfl, rfl, rfl, rfl, rfl, rfl, rfl, rfl⟩

theorem State.keysAfterReset_fresh (bindings : Vector (Option JobSpec) 8) (c : Settings) (s : State) (k : Fin 8) :
    (s.keysAfterReset bindings c)[k].Fresh bindings[k] (c.keyEnable.getLsbD k.val) (s.kLines.getLsbD k.val) := by
  simp [KeyRec.Fresh, State.keysAfterReset, KeyRec.afterReset, State.keyHigh]

theorem Library.afterReset_slot (slots : Vector SlotState 16) (bindings : Vector (Option JobSpec) 8) (n : Fin 16) :
    (Library.afterReset slots bindings).slots[n] =
      { state := slots[n], refs := namedBy (fun k => bindings[k]) n, toggle := false } := by
  rw [← bindingsOn_eq]
  simp [Library.afterReset]

/-- Every block but the library, the keys, the receiver and the link is as after a reset, whatever the image. -/
theorem State.blocksReset_fresh (slots : Vector SlotState 16) (bindings : Vector (Option JobSpec) 8) (c : Settings)
    (link : Link) {s : State} (on : s.heldInReset = false) : (s.blocksReset slots bindings c link).Fresh :=
  ⟨on, rfl, rfl, rfl, rfl, rfl, rfl, rfl, rfl⟩

/-! ### The power-on reset and the pin reset (10 R179) -/

/-- A blank image when no bank is VALID, otherwise that of the VALID bank with the higher generation. -/
theorem Store.boot_eq {st : Store} {img : Image} {status : ImageStatus}
    (newest : (st.bankA = .invalid ∧ st.bankB = .invalid ∧ status = .blank ∧ img = Image.blank)
      ∨ (∃ gen, st.bankA = .valid gen img ∧ st.bankB.generation < gen ∧ status = .loaded .a gen)
      ∨ (∃ gen, st.bankB = .valid gen img ∧ st.bankA.generation < gen ∧ status = .loaded .b gen)) :
    st.boot = (img, status) := by
  obtain ⟨bankA, bankB, op⟩ := st
  rcases newest with ⟨rfl, rfl, rfl, rfl⟩ | ⟨gen, rfl, later, rfl⟩ | ⟨gen, rfl, later, rfl⟩
  · rfl
  · cases bankB with
    | invalid => rfl
    | valid other _ =>
      have notLess : ¬ gen < other := Nat.not_lt.2 (Nat.le_of_lt later)
      simp [Store.boot, Store.loaded, Store.newest, notLess, Store.bank, Bank.image]
  · cases bankA with
    | invalid => rfl
    | valid other _ =>
      have less : other < gen := later
      simp [Store.boot, Store.loaded, Store.newest, less, Store.bank, Bank.image]

theorem slotLoaded_eq (stored : Option Template) :
    slotLoaded stored =
      match stored with
      | some d => .ready d
      | none => .empty := by
  cases stored <;> rfl

theorem State.hardReset_after {s : State} {img : Image} {status : ImageStatus} (on : s.heldInReset = false)
    (boots : s.store.boot = (img, status)) (reason : ResetReason) (strap : Bool) :
    (s.hardReset reason strap).supply =
        { vdd := s.supply.vdd, low := decide (s.supply.vdd < img.settings.supplyThreshold * 100) }
      ∧ (s.hardReset reason strap).AfterHardReset s reason strap img status := by
  unfold State.hardReset
  rw [boots, State.announce_eq reason status rfl]
  refine ⟨rfl, rfl, State.blocksReset_fresh _ _ _ _ (s := s.endStoreOp) on, rfl, fun n => ?_, rfl, fun k => ?_, rfl,
    Receiver.afterReset_fresh .., Link.announced_fresh .., rfl, rfl, rfl, rfl⟩
  · refine (Library.afterReset_slot _ _ n).trans ?_
    have loaded : (Vector.ofFn fun t : Fin 16 => slotLoaded img.slots[t])[n] = slotLoaded img.slots[n] := by simp
    rw [loaded, slotLoaded_eq] <;> rfl
  · exact State.keysAfterReset_fresh ..

/-- Settles O4: what a power-on reset and a pin reset load. -/
theorem hardResetLoadsTheNewestImage : Obligations.HardResetLoadsTheNewestImage := by
  intro s dt strap img status newest
  have boots : s.store.boot = (img, status) := Store.boot_eq newest
  refine ⟨fun vdd inRange high => ⟨_, rfl, ?_⟩, fun inRange => ⟨_, rfl, ?_⟩⟩
  · have on : ((s.advance dt).setVdd vdd).heldInReset = false := by
      simpa [State.heldInReset, State.setVdd, Config.resetVoltage] using ⟨high, inRange⟩
    rw [State.powerOn, State.unlessHeld, if_neg (by simp [on])]
    exact State.hardReset_after on boots .power strap
  · have on : ((s.advance dt).setReset false).heldInReset = false := by
      simpa [State.heldInReset, State.setReset, Config.resetVoltage] using inRange
    rw [State.pinReset, State.unlessHeld, if_neg (by simp [on])]
    exact State.hardReset_after on boots .pin strap

/-! ### RESTART and the soft reset (09 R175, R177) -/

theorem Link.addReply_eq (r : Reply) (l : Link) :
    l.addReply r =
      { l with
        replies := l.replies ++ [r]
        sending :=
          match l.sending with
          | none => some .reply
          | some x => some x } := by
  obtain ⟨receiver, interByte, listenFrom, intake, handler, replies, cache, notices, lost, seq, sending, fast⟩ := l
  cases sending with
  | some x => rfl
  | none => cases replies <;> rfl

theorem SlotState.restored_eq (st : SlotState) :
    st.restored =
      match st with
      | .draft => .empty
      | .revising kept => .ready kept
      | other => other := by
  cases st <;> rfl

theorem State.softReset_after {s : State} (on : s.heldInReset = false) (strap : Bool) :
    (s.softReset strap).supply =
        { vdd := s.supply.vdd, low := decide (s.supply.vdd < s.settings.supplyThreshold * 100) }
      ∧ (s.softReset strap).store = s.store ∧ (s.softReset strap).AfterSoftReset s strap := by
  unfold State.softReset
  rw [State.announce_eq _ _ rfl]
  dsimp only [State.blocksReset]
  refine ⟨rfl, rfl, rfl, ⟨on, rfl, rfl, rfl, rfl, rfl, rfl, rfl, rfl⟩, rfl, fun n => ?_, rfl, fun k => ?_, rfl,
    Receiver.afterReset_fresh .., Link.announced_fresh .., rfl, rfl, rfl⟩
  · refine (Library.afterReset_slot _ _ n).trans ?_
    have kept : (Vector.ofFn fun t : Fin 16 => s.lib.abandon.slots[t].state)[n] = s.lib.abandon.states n := by
      simp [Library.states]
    have names : (fun k : Fin 8 => (Vector.ofFn fun k : Fin 8 => s.keys[k].binding)[k]) = fun k => s.keys[k].binding := by
      funext k
      simp
    rw [kept, names, Library.abandon_states, SlotState.restored_eq] <;> rfl
  · have same : (Vector.ofFn fun k : Fin 8 => s.keys[k].binding)[k] = s.keys[k].binding := by simp
    rw [← same]
    exact State.keysAfterReset_fresh ..

/-- A busy part whose doze delay timer is stopped stays as it is (10 R189). -/
theorem State.settle_still {s : State} (awake : s.doze.state = .awake) (busy : s.isQuiet = false)
    (stopped : s.doze.delay = .stopped) : s.settle = s := by
  have same : { s.doze with delay := .stopped } = s.doze := by rw [← stopped]
  rw [State.settle_busy awake busy, same]

theorem State.settle_softReset (strap : Bool) (s : State) : (s.softReset strap).settle = s.softReset strap :=
  State.settle_still (by simp [State.softReset, State.blocksReset]) (State.announce_notQuiet ..)
    (by simp [State.softReset, State.blocksReset])

/-- Settles O5: the answer to RESTART, and the soft reset that its OK brings. -/
theorem restartTakesTheSoftReset : Obligations.RestartTakesTheSoftReset := by
  constructor
  · intro s dt tag ready misses
    refine congrArg Host.Outcome.next ?_
    rw [State.receive_ready ready RequestKind.restart.isRequest_code (by simp) misses,
      State.carryOut_dispatch tag _ rfl]
    have plain (body : ReplyBody) (l : Link) :
        l.answer ⟨RequestKind.restart.code, tag, []⟩ body =
          l.addReply { kind := 0x82#8, tag := tag, body := body, resent := false, ofEntry := false } := rfl
    unfold formReply
    rw [plain, Link.addReply_eq]
    cases op : s.store.op with
    | idle =>
      have handled : (s.received dt).handleRestart =
          ({ s.received dt with link := { (s.received dt).link with handler := .restarting } }, .restarting) := by
        unfold State.handleRestart
        rw [show (s.received dt).store.op = .idle from op]
      rw [show (s.received dt).dispatch .restart [] = _ from handled]
      rfl
    | writing | wiping =>
      have handled : (s.received dt).handleRestart = (s.received dt, .status .saving) := by
        unfold State.handleRestart
        rw [show (s.received dt).store.op = _ from op]
      have stays : s.link.handler = .idle := ready.2.2.1
      rw [show (s.received dt).dispatch .restart [] = _ from handled]
      simp [State.received, stays] <;> rfl
  · intro s dt strap r rest runs sending replies body
    have ends : (s.advance dt).outboundEnds strap = (s.advance dt).softReset strap := by
      unfold State.outboundEnds
      rw [show (s.advance dt).link.sending = _ from sending, show (s.advance dt).link.replies = _ from replies]
      exact if_pos body
    refine ⟨_, congrArg Host.Outcome.next ((State.event_running runs dt _).trans ?_),
      State.softReset_after (s := s.advance dt) runs.1 strap⟩
    rw [ends, State.settle_softReset]

end Sys2Proof.Machine
end

section
/-! PROOF. The Emission Queue (04): admission, RELEASE, CANCEL and FLUSH. -/

namespace Sys2Proof.Machine

/-! ### A job header (04 R60, 11 section 11.4) -/

theorem lengthOf_of_bad {mode count : Byte} (bad : 2 ≤ mode.toNat ∨ (mode = 0#8 ∧ count = 0#8)) :
    lengthOf mode count = none := by
  rcases bad with large | ⟨rfl, rfl⟩
  · obtain ⟨n, size⟩ := Nat.exists_eq_add_of_le' large
    unfold lengthOf
    rw [size]
    rfl
  · rfl

/-- A length in range; only COUNT 1 is written 0, 1. -/
theorem lengthOf_of_good {mode count : Byte} (small : mode.toNat < 2) (counts : ¬(mode = 0#8 ∧ count = 0#8)) :
    ∃ len, lengthOf mode count = some len ∧ (len = .count 1 ↔ mode = 0#8 ∧ count = 1#8) := by
  have sizes : mode.toNat = 0 ∨ mode.toNat = 1 := by omega
  rcases sizes with size | size
  · obtain rfl : mode = 0#8 := BitVec.eq_of_toNat_eq size
    have some' : count ≠ 0#8 := fun zero => counts ⟨rfl, zero⟩
    refine ⟨.count count.toNat, if_neg some', ?_⟩
    rw [Length.count.injEq, ← BitVec.toNat_inj (x := count)]
    simp
  · obtain rfl : mode = 1#8 := BitVec.eq_of_toNat_eq size
    exact ⟨.hold, rfl, by simp⟩

theorem maskOf_of_ge {b : Byte} (large : 8 ≤ b.toNat) : maskOf b = none := if_neg (Nat.not_lt.2 large)

theorem maskOf_of_lt {b : Byte} (small : b.toNat < 8) : maskOf b = some (b.setWidth 3) := if_pos small

theorem classOf_of_ge {b : Byte} (large : 2 ≤ b.toNat) : classOf b = none := by
  obtain ⟨n, size⟩ := Nat.exists_eq_add_of_le' large
  unfold classOf
  rw [size]
  rfl

theorem classOf_of_lt {b : Byte} (small : b.toNat < 2) : ∃ c, classOf b = some c := by
  have sizes : b.toNat = 0 ∨ b.toNat = 1 := by omega
  unfold classOf
  rcases sizes with size | size
  all_goals
    rw [size]
    exact ⟨_, rfl⟩

theorem reportOf_of_ge {b : Byte} (large : 3 ≤ b.toNat) : reportOf b = none := by
  obtain ⟨n, size⟩ := Nat.exists_eq_add_of_le' large
  unfold reportOf
  rw [size]
  rfl

theorem reportOf_of_lt {b : Byte} (small : b.toNat < 3) : ∃ r, reportOf b = some r := by
  have sizes : b.toNat = 0 ∨ b.toNat = 1 ∨ b.toNat = 2 := by omega
  unfold reportOf
  rcases sizes with size | size | size
  all_goals
    rw [size]
    exact ⟨_, rfl⟩

/-- A field of a job header out of its range. -/
def HeaderOutOfRange (template mode count mask cls report : Byte) : Prop :=
  16 ≤ template.toNat ∨ 2 ≤ mode.toNat ∨ (mode = 0#8 ∧ count = 0#8) ∨ 8 ≤ mask.toNat ∨ 2 ≤ cls.toNat
    ∨ 3 ≤ report.toNat

section

variable {template mode count mask cls report : Byte}

theorem jobSpecOf_of_bad (bad : HeaderOutOfRange template mode count mask cls report) (payload : List Byte) :
    jobSpecOf template mode count mask cls report payload = none := by
  unfold jobSpecOf
  rcases bad with bad | bad | bad | bad | bad | bad
  · simp [slotOf_of_ge bad]
  · simp [lengthOf_of_bad (.inl bad)]
  · simp [lengthOf_of_bad (.inr bad)]
  · simp [maskOf_of_ge bad]
  · simp [classOf_of_ge bad]
  · simp [reportOf_of_ge bad]

theorem jobSpecOf_of_good (good : ¬HeaderOutOfRange template mode count mask cls report) (payload : List Byte)
    {t : Fin 16} (same : template.toNat = t.val) :
    ∃ spec, jobSpecOf template mode count mask cls report payload = some spec ∧ spec.template = t
      ∧ spec.payload = payload ∧ (spec.length = .count 1 ↔ mode = 0#8 ∧ count = 1#8)
      ∧ spec.mask = mask.setWidth 3 ∧ mask.toNat < 8 := by
  simp only [HeaderOutOfRange, not_or, Nat.not_le] at good
  obtain ⟨-, modes, counts, masks, classes, reports⟩ := good
  obtain ⟨len, length, one⟩ := lengthOf_of_good modes counts
  obtain ⟨c, class'⟩ := classOf_of_lt classes
  obtain ⟨r, report'⟩ := reportOf_of_lt reports
  refine ⟨⟨t, payload, len, mask.setWidth 3, c, r⟩, ?_, rfl, rfl, one, rfl, masks⟩
  simp [jobSpecOf, slotOf_of_eq same, length, maskOf_of_lt masks, class', report']

end

theorem jobSpecOf_payload {template mode count mask cls report : Byte} {payload : List Byte} {spec : JobSpec}
    (specs : jobSpecOf template mode count mask cls report payload = some spec) : spec.payload = payload := by
  simp only [jobSpecOf, Option.bind_eq_bind, Option.bind_eq_some_iff] at specs
  obtain ⟨_, -, _, -, _, -, _, -, _, -, made⟩ := specs
  obtain rfl := Option.some.inj made
  rfl

/-! ### Admission (04 R61) -/

theorem maskFits_eq_false (c : Settings) (mask : BitVec 3) :
    maskFits c mask = false ↔ mask = 0#3 ∨ ∃ e : Fin 3, names mask e = true ∧ (c.line e).enabled = false := by
  simp only [maskFits, Bool.and_eq_false_iff, decide_eq_false_iff_not, not_not, List.all_eq_false]
  simp

theorem repeatFits_eq_false (d : Template) (len : Length) :
    repeatFits d len = false ↔ d.repeatForm = .none ∧ len ≠ .count 1 := by
  simp [repeatFits]

theorem State.specRefusal_noTemplate {s : State} {spec : JobSpec} (none : s.templateOf spec.template = none) :
    s.specRefusal spec = some .noTemplate := by
  unfold State.specRefusal
  rw [none]

/-- 04 R61 checks 2 to 4, on a READY template. -/
theorem State.specRefusal_ready {s : State} {spec : JobSpec} {d : Template}
    (isReady : s.lib.slots[spec.template].state = .ready d) :
    s.specRefusal spec =
      if payloadFits d spec.payload = false then some .badPayload
      else if d.repeatForm = .none ∧ spec.length ≠ .count 1 then some .badRepeat
      else if spec.mask = 0#3 ∨ ∃ e : Fin 3, names spec.mask e = true ∧ (s.settings.line e).enabled = false then
        some .badEmitter
      else none := by
  unfold State.specRefusal
  rw [State.templateOf_ready isReady]
  simp [← maskFits_eq_false, ← repeatFits_eq_false]

theorem State.admissionRefusal_of_spec {s : State} {spec : JobSpec} {st : Status} (refused : s.specRefusal spec = some st) :
    s.admissionRefusal spec = some st := by
  unfold State.admissionRefusal
  rw [refused]

theorem State.admissionRefusal_full {s : State} {spec : JobSpec} (fits : s.specRefusal spec = none)
    (full : 8 ≤ s.queue.jobs.length) : s.admissionRefusal spec = some .queueFull := by
  unfold State.admissionRefusal
  rw [fits]
  exact if_pos full

theorem State.admissionRefusal_low {s : State} {spec : JobSpec} (fits : s.specRefusal spec = none)
    (room : ¬8 ≤ s.queue.jobs.length) (low : s.supply.low = true) : s.admissionRefusal spec = some .lowSupply := by
  unfold State.admissionRefusal
  rw [fits]
  exact (if_neg room).trans (if_pos low)

theorem State.send_refused {s : State} {spec : JobSpec} {st : Status} (refused : s.admissionRefusal spec = some st) :
    s.send spec = (s, .status st) := by
  unfold State.send
  rw [refused]

theorem State.send_admitted {s : State} {spec : JobSpec} (admits : s.admissionRefusal spec = none) :
    s.send spec = ((s.enrol .host spec).admitted, .jobId s.allocate) := by
  unfold State.send
  rw [admits]

section

variable {template mode count mask cls report : Byte} {payload : List Byte}

theorem State.handleSend_eq {spec : JobSpec} (specs : jobSpecOf template mode count mask cls report payload = some spec)
    (s : State) : s.handleSend (template :: mode :: count :: mask :: cls :: report :: payload) = s.send spec := by
  simp [State.handleSend, specs]

theorem State.handleSend_badValue (bad : jobSpecOf template mode count mask cls report payload = none) (s : State) :
    s.handleSend (template :: mode :: count :: mask :: cls :: report :: payload) = (s, .status .badValue) := by
  simp [State.handleSend, bad, State.badValue]

theorem mask_names {mask : Byte} (k : Fin 3) : names (mask.setWidth 3) k = mask.getLsbD k.val := by
  simp [names, k.isLt]

theorem mask_eq_zero {mask : Byte} (small : mask.toNat < 8) : mask.setWidth 3 = 0#3 ↔ mask = 0#8 := by
  rw [← BitVec.toNat_inj, ← BitVec.toNat_inj]
  simp [Nat.mod_eq_of_lt small]

end

/-- A SEND that its block answers with `body`. -/
theorem exec_send {s t : State} {dt : Nat} {tag template mode count mask cls report : Byte} {payload : List Byte}
    {body : ReplyBody} (ready : s.Ready)
    (misses : s.Misses dt ⟨0x20#8, tag, template :: mode :: count :: mask :: cls :: report :: payload⟩)
    (some' : 1 ≤ payload.length) (fits : payload.length ≤ 8)
    (handled : (s.received dt).handleSend (template :: mode :: count :: mask :: cls :: report :: payload) = (t, body)) :
    exec (.send dt tag template mode count mask cls report payload) s =
      .next
        { t with
          link :=
            t.link.afterRequest ⟨0x20#8, tag, template :: mode :: count :: mask :: cls :: report :: payload⟩ body } :=
  exec_handled (k := .send) rfl ready misses nofun (by simp; omega) (by simp [RequestKind.lengthOk]; omega) handled

/-- Settles O21: the checks of SEND in their order. -/
theorem sendRefusalsInOrder : Obligations.SendRefusalsInOrder := by
  intro s dt tag template mode count mask cls report payload ready misses some' fits refused outOfRange
  have answers {st : Status}
      (e : (s.received dt).handleSend (template :: mode :: count :: mask :: cls :: report :: payload) =
        (s.received dt, .status st)) : refused st := exec_send ready misses some' fits e
  refine ⟨fun bad => answers (State.handleSend_badValue (jobSpecOf_of_bad bad payload) _), fun good t same => ?_⟩
  obtain ⟨spec, specs, rfl, pays, one, masked, small⟩ := jobSpecOf_of_good good payload same
  have refuses {st : Status} (e : (s.received dt).admissionRefusal spec = some st) : refused st :=
    answers ((State.handleSend_eq specs _).trans (State.send_refused e))
  cases state : s.lib.slots[spec.template].state with
  | empty | draft | revising =>
    refine refuses (State.admissionRefusal_of_spec (State.specRefusal_noTemplate ?_))
    change s.lib.slots[spec.template].state.usable = none
    rw [state]
    rfl
  | ready d =>
    have checks := State.specRefusal_ready (s := s.received dt) (spec := spec) state
    rw [pays, masked] at checks
    simp only [mask_eq_zero small, mask_names, ne_eq, one] at checks
    dsimp only
    split
    · next bad => exact refuses (State.admissionRefusal_of_spec (checks.trans (if_pos bad)))
    next payloads =>
    rw [if_neg payloads] at checks
    split
    · next bad => exact refuses (State.admissionRefusal_of_spec (checks.trans (if_pos bad)))
    next repeats =>
    rw [if_neg repeats] at checks
    split
    · next bad => exact refuses (State.admissionRefusal_of_spec (checks.trans (if_pos bad)))
    next lines =>
    replace checks := checks.trans (if_neg lines)
    split
    · next full => exact refuses (State.admissionRefusal_full checks full)
    · next room => exact fun low => refuses (State.admissionRefusal_low checks room low)

/-! ### A job that joins the queue (04 R62, R63) -/

/-- 04 R62: a job that is admitted while the engine is not IDLE waits. -/
theorem State.admitted_busy {s : State} (busy : s.engine.state ≠ .idle) : s.admitted = s := by
  unfold State.admitted
  cases state : s.engine.state with
  | idle => exact absurd state busy
  | emitting | spacing | stopped => rfl

/-- 04 R63: the id that is allocated is the first free one from the counter on. -/
theorem State.allocate_first (s : State) (fits : s.liveJobs.length ≤ 8) (low : 1 ≤ s.queue.nextId)
    (high : s.queue.nextId ≤ 255) :
    1 ≤ s.allocate ∧ s.allocate ≤ 255 ∧ s.allocate ∉ s.liveJobs.map Job.id
      ∧ ∃ n, s.allocate = nextIdAfter^[n] s.queue.nextId
        ∧ ∀ m < n, nextIdAfter^[m] s.queue.nextId ∈ s.liveJobs.map Job.id := by
  obtain ⟨n, result, unused, before⟩ := freeId_first low high (used := s.liveJobs.map Job.id) (by simpa using fits)
  have range := nextIdAfter_iterate low high n
  rw [State.allocate, result]
  exact ⟨by omega, by omega, unused, n, rfl, before⟩

/-- Settles O22: a SEND that waits, and the id that it gets. -/
theorem sendQueuesTheJob : Obligations.SendQueuesTheJob := by
  refine ⟨?_, State.allocate_first⟩
  intro s dt tag template mode count mask cls report payload spec ready misses some' fits specs admits busy job
  have admits : (s.received dt).admissionRefusal spec = none := admits
  have handled := (State.handleSend_eq specs (s.received dt)).trans (State.send_admitted admits)
  rw [State.admitted_busy (s := (s.received dt).enrol .host spec) busy] at handled
  refine (exec_send ready misses some' fits handled).trans (congrArg Host.Outcome.next ?_)
  obtain ⟨-, -, -, -, cls', -⟩ := spec
  cases cls' <;> rfl

/-! ### The link that has just received a request -/

/-- The receiver hunts, whatever of another frame it had (09 R164). -/
def Link.hunting (l : Link) : Link := { l with receiver := .hunt, interByte := .stopped }

theorem Link.startNext_hunting (l : Link) : l.hunting.startNext = l.startNext.hunting := by
  obtain ⟨receiver, interByte, listenFrom, intake, handler, replies, cache, notices, lost, seq, sending, fast⟩ := l
  cases sending with
  | some x => rfl
  | none =>
    cases replies with
    | cons => rfl
    | nil => cases notices <;> rfl

theorem Link.post_hunting (n : Notice) (l : Link) : l.hunting.post n = (l.post n).hunting := by
  unfold Link.post
  split
  · next room =>
    rw [if_pos (show l.notices.length < _ from room)]
    exact Link.startNext_hunting { l with notices := l.notices ++ [n] }
  · next room =>
    rw [if_neg (show ¬l.notices.length < _ from room)]
    rfl

theorem Link.afterRequest_hunting (r : Request) (body : ReplyBody) (l : Link) :
    l.hunting.afterRequest r body = l.afterRequest r body := rfl

/-! ### A SEND into an IDLE engine (05 R81, R82) -/

theorem State.admitted_idle {s : State} {j : Job} {rest : List Job} (idle : s.engine.state = .idle)
    (head : s.queue.jobs = j :: rest) :
    s.admitted = { s with queue := { s.queue with jobs := rest } }.takeJob j := by
  unfold State.admitted
  rw [idle]
  unfold State.takeHead
  rw [head]

/-- The job of an admission that an IDLE engine takes at once (04 R62, 05 R82). -/
def State.firstJob (s : State) (source : Source) (spec : JobSpec) (d : Template) : Job where
  id := s.allocate
  source := source
  spec := spec
  state := .current
  framesSent := 0
  endPending := none
  holdStarted := if spec.length = .hold then some s.now else none
  toggleBit := if d.toggle.isSome then some !s.lib.slots[spec.template].toggle else none
  holdExpiry := if spec.length = .hold then some (s.now + s.settings.holdLimit * 1000000) else none

/-- 04 R62, 05 R82: `w` is what an admission into an IDLE engine with an empty queue leaves. -/
def State.TakenAtOnce (w s : State) (source : Source) (spec : JobSpec) (d : Template) : Prop :=
  w.now = s.now
    ∧ w.FrameStarted s (s.firstJob source spec d) d
        (d.fullFrame spec.payload (d.toggle.isSome && !s.lib.slots[spec.template].toggle))
    ∧ w.queue = { jobs := [], nextId := nextIdAfter s.allocate }
    ∧ w.lib =
        { s.lib with
          slots :=
            s.lib.slots.set spec.template
              { s.lib.slots[spec.template] with
                refs := s.lib.slots[spec.template].refs + 1
                toggle :=
                  if d.toggle.isSome then !s.lib.slots[spec.template].toggle
                  else s.lib.slots[spec.template].toggle } }
    ∧ w.keys = giveLive source s.allocate s.keys
    ∧ w.link =
        (if spec.report = .both then
          s.link.post
            (.jobStart s.allocate source spec.template spec.cls (s.firstJob source spec d).toggleBit)
         else s.link)
    ∧ w.SameBeyondEmission s

theorem State.enrol_admitted {s : State} {spec : JobSpec} {d : Template} (source : Source)
    (isReady : s.lib.slots[spec.template].state = .ready d) (idle : s.engine.state = .idle)
    (empty : s.queue.jobs = []) : (s.enrol source spec).admitted.TakenAtOnce s source spec d := by
  have head : (s.enrol source spec).queue.jobs = [newJob s.allocate source spec] := by
    unfold State.enrol
    rw [empty]
    cases cls : spec.cls <;> simp [insertNew, newJob, cls, insertAfterUrgent]
  have claimed : (s.enrol source spec).lib.slots[spec.template].state = .ready d := by
    rw [← isReady]
    exact Library.claim_state ..
  have slot : (s.lib.claim spec.template).slots[spec.template] =
      { s.lib.slots[spec.template] with refs := s.lib.slots[spec.template].refs + 1 } := by
    rw [Library.claim_slot, if_pos rfl]
  have taken := State.takeJob_taken (s := { s.enrol source spec with
    queue := { (s.enrol source spec).queue with jobs := [] } }) (j := newJob s.allocate source spec) claimed nofun
  rw [State.admitted_idle (s := s.enrol source spec) idle head]
  obtain ⟨now, keys, beyond, first, -⟩ := taken
  obtain ⟨started, lib, link⟩ := first rfl rfl
  change State.FrameStarted _ _ { newJob s.allocate source spec with
    state := .current
    toggleBit := if d.toggle.isSome then some !(s.lib.claim spec.template).slots[spec.template].toggle else none
    holdStarted := if spec.length = .hold then some s.now else none
    holdExpiry := if spec.length = .hold then some (s.now + s.settings.holdLimit * 1000000) else none } d
    (d.fullFrame spec.payload (d.toggle.isSome && !(s.lib.claim spec.template).slots[spec.template].toggle)) at started
  rw [slot] at started
  refine ⟨now, started, by simp [State.enrol], ?_, keys, ?_, beyond⟩
  · refine lib.trans ?_
    simp only [State.enrol, newJob, slot]
    simp [Library.claim]
  · refine link.trans ?_
    simp only [State.enrol, newJob, slot]
    rfl

/-- Settles O23: a SEND that the engine takes at once. -/
theorem sendStartsTheFirstFrame : Obligations.SendStartsTheFirstFrame := by
  intro s dt tag template mode count mask cls report payload spec d ready misses some' fits specs admits isReady idle
    current empty flips bit job
  have admits : (s.received dt).admissionRefusal spec = none := admits
  have handled := (State.handleSend_eq specs (s.received dt)).trans (State.send_admitted admits)
  have pays := jobSpecOf_payload specs
  obtain ⟨now, started, queue, lib, keys, link, beyond⟩ :=
    State.enrol_admitted (s := s.received dt) .host isReady idle empty
  rw [pays] at started
  refine ⟨_, exec_send ready misses some' fits handled, now, started, queue, lib, keys, ?_, beyond⟩
  rw [link]
  change Link.afterRequest (if spec.report = .both then Link.post _ s.link.hunting else s.link.hunting) _ _ = _
  rw [Link.post_hunting]
  split <;> rfl

end Sys2Proof.Machine
end

section
/-! PROOF. Jobs that end early (04 section 4.4): RELEASE, CANCEL and FLUSH, and the bookkeeping of a job that
leaves the live set. -/

namespace Sys2Proof.Machine

/-! ### A job leaves the live set (04 R74) -/

theorem clearLive_eq (j : Job) (keys : Vector KeyRec 8) :
    clearLive j keys =
      Vector.ofFn fun k : Fin 8 =>
        { keys[k] with live := if j.source = .key k ∧ keys[k].live = some j.id then none else keys[k].live } := by
  apply Vector.ext
  intro i below
  unfold clearLive
  cases source : j.source with
  | host => simp
  | key k =>
    by_cases here : k.val = i
    · subst here
      by_cases own : keys[k.val].live = some j.id <;> simp [own]
    · have other : k ≠ ⟨i, below⟩ := fun same => here (congrArg Fin.val same)
      dsimp only
      split <;> simp [here, other]

theorem Link.postJobEnd_eq (j : Job) (reason : EndReason) (l : Link) :
    l.postJobEnd j reason =
      if j.spec.report = .never then l
      else l.post (.jobEnd j.id j.source j.spec.template reason j.framesSent) := by
  unfold Link.postJobEnd
  cases j.spec.report <;> simp

theorem Link.postJobEnd_hunting (j : Job) (reason : EndReason) (l : Link) :
    l.hunting.postJobEnd j reason = (l.postJobEnd j reason).hunting := by
  rw [Link.postJobEnd_eq, Link.postJobEnd_eq, Link.post_hunting]
  split <;> rfl

theorem State.jobLeaves_eq (s : State) (j : Job) (reason : EndReason) :
    s.jobLeaves j reason =
      { s with
        lib :=
          { s.lib with
            slots :=
              s.lib.slots.set j.spec.template
                { s.lib.slots[j.spec.template] with refs := s.lib.slots[j.spec.template].refs - 1 } }
        keys :=
          Vector.ofFn fun k : Fin 8 =>
            { s.keys[k] with
              live := if j.source = .key k ∧ s.keys[k].live = some j.id then none else s.keys[k].live }
        link :=
          if j.spec.report = .never then s.link
          else s.link.post (.jobEnd j.id j.source j.spec.template reason j.framesSent) } := by
  unfold State.jobLeaves
  rw [clearLive_eq, Link.postJobEnd_eq]
  rfl

/-! ### RELEASE and CANCEL (04 R68, R69) -/

/-- RELEASE or CANCEL of an id. -/
def State.endEarly (cancels : Bool) (id : Nat) (s : State) : State × ReplyBody :=
  if cancels then s.cancel id else s.release id

/-- The reason that RELEASE or CANCEL gives (04 R75). -/
def earlyReason (cancels : Bool) : PendingEnd := if cancels then .cancelled else .released

theorem State.endEarly_noJob {s : State} {id : Nat} (none : s.findJob id = none) (cancels : Bool) :
    s.endEarly cancels id = (s, .status .noJob) := by
  unfold State.endEarly State.cancel State.release
  rw [none]
  cases cancels <;> rfl

theorem State.endEarly_found {s : State} {id : Nat} {j : Job} (found : s.findJob id = some j) (cancels : Bool) :
    s.endEarly cancels id =
      if cancels = false ∧ j.spec.length ≠ .hold then (s, .status .notHold)
      else if j.endPending.isSome then (s, .status .ending)
      else if (cancels = true ∧ j.state = .waiting) ∨ (j.state = .parked ∧ s.minimum j ≤ j.framesSent) then
        (s.removeJob j (earlyReason cancels).reason, .outcome .ended)
      else (s.markJob j.id (earlyReason cancels), .outcome .pending) := by
  have soon (reason : PendingEnd) :
      ((s.endSoon j reason).1, ReplyBody.outcome (s.endSoon j reason).2) =
        if j.state = .parked ∧ s.minimum j ≤ j.framesSent then (s.removeJob j reason.reason, .outcome .ended)
        else (s.markJob j.id reason, .outcome .pending) := by
    simp only [State.endSoon, State.reachedMin, decide_eq_true_eq]
    split <;> rfl
  cases cancels with
  | false =>
    change s.release id = _
    unfold State.release
    rw [found]
    simp [soon, earlyReason]
  | true =>
    change s.cancel id = _
    unfold State.cancel
    rw [found]
    by_cases waits : j.state = .waiting <;> simp [soon, earlyReason, waits]
    rfl

theorem State.findJob_none {s : State} {id : Nat} (absent : ∀ j ∈ s.liveJobs, j.id ≠ id) : s.findJob id = none :=
  List.find?_eq_none.2 fun j mem => by simpa using absent j mem

/-- Settles O24: the bookkeeping of a job that leaves, and RELEASE and CANCEL. -/
theorem releaseAndCancel : Obligations.ReleaseAndCancel := by
  refine ⟨State.jobLeaves_eq, ?_⟩
  intro s dt tag id cancels ready kind misses c reason answer
  have answers {t : State} {body : ReplyBody} (e : (s.received dt).endEarly cancels id.toNat = (t, body)) :
      exec c s = .next { t with link := t.link.afterRequest ⟨kind, tag, [id]⟩ body } := by
    cases cancels with
    | false => exact exec_handled (k := .release) rfl ready misses nofun (by simp) rfl e
    | true => exact exec_handled (k := .cancel) rfl ready misses nofun (by simp) rfl e
  refine ⟨fun absent => answers (State.endEarly_noJob (s := s.received dt) (State.findJob_none absent) cancels), fun j found => ?_⟩
  have ends := State.endEarly_found (s := s.received dt) found cancels
  split
  · next bad => exact answers (ends.trans (if_pos bad))
  next holds =>
  rw [if_neg holds] at ends
  split
  · next bad => exact answers (ends.trans (if_pos bad))
  next lively =>
  rw [if_neg lively] at ends
  split
  · next leaves =>
    refine (answers (ends.trans (if_pos leaves))).trans (congrArg Host.Outcome.next ?_)
    have link : ((s.received dt).removeJob j (earlyReason cancels).reason).link =
        ((s.jobLeaves j (earlyReason cancels).reason).link).hunting := Link.postJobEnd_hunting ..
    rw [link]
    rfl
  · next stays => exact answers (ends.trans (if_neg stays))

/-! ### FLUSH (04 R72) -/

theorem flushJobs_slot (jobs : List Job) (s : State) (t : Fin 16) :
    (flushJobs jobs s).lib.slots[t] =
      { s.lib.slots[t] with
        refs := s.lib.slots[t].refs - jobs.countP fun j => decide (j.spec.template = t) } := by
  induction jobs generalizing s with
  | nil => rfl
  | cons j rest ih =>
    rw [flushJobs, ih, State.jobLeaves_lib, Library.unclaim_slot, List.countP_cons]
    by_cases own : t = j.spec.template
    · subst own
      simp [Nat.sub_sub, Nat.add_comm]
    · simp [own, Ne.symm own]

/-- The live job id that a key keeps when these jobs leave. -/
def liveAfter (jobs : List Job) (k : Fin 8) (live : Option Nat) : Option Nat :=
  if jobs.any fun j => decide (j.source = .key k) && decide (live = some j.id) then none else live

theorem liveAfter_cons (j : Job) (rest : List Job) (k : Fin 8) (live : Option Nat) :
    liveAfter (j :: rest) k live =
      liveAfter rest k (if j.source = .key k ∧ live = some j.id then none else live) := by
  unfold liveAfter
  by_cases own : j.source = .key k ∧ live = some j.id
  · simp [own]
  · have skip : (decide (j.source = .key k) && decide (live = some j.id)) = false := by simpa using own
    simp [own, skip]

theorem flushJobs_key (jobs : List Job) (s : State) (k : Fin 8) :
    (flushJobs jobs s).keys[k] = { s.keys[k] with live := liveAfter jobs k s.keys[k].live } := by
  induction jobs generalizing s with
  | nil => simp [flushJobs, liveAfter]
  | cons j rest ih =>
    have left : (s.jobLeaves j .flushed).keys[k] =
        { s.keys[k] with
          live := if j.source = .key k ∧ s.keys[k].live = some j.id then none else s.keys[k].live } := by
      rw [State.jobLeaves_keys, clearLive_eq]
      simp
    rw [flushJobs, ih, left, liveAfter_cons]

/-- The notice of a job that leaves by FLUSH, when its report asks for one (04 R74, R75). -/
def flushNotice (j : Job) : Option Notice :=
  if j.spec.report = .never then none else some (.jobEnd j.id j.source j.spec.template .flushed j.framesSent)

theorem flushJobs_notices (jobs : List Job) (s : State)
    (room : s.link.notices.length + (jobs.filterMap flushNotice).length ≤ 12) :
    (flushJobs jobs s).link.notices = s.link.notices ++ jobs.filterMap flushNotice := by
  induction jobs generalizing s with
  | nil => simp [flushJobs]
  | cons j rest ih =>
    rw [flushJobs]
    by_cases quiet : j.spec.report = .never
    · have same : (s.jobLeaves j .flushed).link = s.link := by
        rw [State.jobLeaves_link, Link.postJobEnd_eq, if_pos quiet]
      simp only [List.filterMap_cons, flushNotice, quiet, if_true] at room ⊢
      rw [ih, same]
      rwa [same]
    · simp only [List.filterMap_cons, flushNotice, quiet, if_false, List.length_cons] at room ⊢
      have told : (s.jobLeaves j .flushed).link.notices =
          s.link.notices ++ [.jobEnd j.id j.source j.spec.template .flushed j.framesSent] := by
        rw [State.jobLeaves_link, Link.postJobEnd_eq, if_neg quiet, Link.post_notices, if_pos (by omega)]
      rw [ih, told, List.append_assoc]
      · rfl
      · rw [told, List.length_append, List.length_singleton]
        omega

/-- Settles O25: what FLUSH removes, and what stays. -/
theorem flushEmptiesTheQueue : Obligations.FlushEmptiesTheQueue := by
  intro s dt tag ready misses notices
  refine ⟨_, exec_handled (k := .flush) rfl ready misses nofun (by simp) rfl rfl, ?_⟩
  have slots (t : Fin 16) := flushJobs_slot s.queue.jobs
    { s.received dt with queue := { s.queue with jobs := [] } } t
  have keys (k : Fin 8) := flushJobs_key s.queue.jobs
    { s.received dt with queue := { s.queue with jobs := [] } } k
  have told := flushJobs_notices s.queue.jobs { s.received dt with queue := { s.queue with jobs := [] } }
  refine ⟨by simp, by simp, by simp, slots, by simp, keys, told, ?_, by simp, by simp, by simp, by simp [State.SameBeyondEmission]⟩
  simp [Link.afterRequest, State.received]
  rfl

end Sys2Proof.Machine
end

section
/-! PROOF. The Emission Engine (05): STOP and RESUME, interval ends, spacing ends, and the timers of a job
and of the indicator. -/

namespace Sys2Proof.Machine

/-! ### STOP (05 R96, R97) -/

theorem State.cutCurrent_none {s : State} (free : s.engine.current = none) : s.cutCurrent = s := by
  unfold State.cutCurrent
  rw [free]

theorem State.cutCurrent_some {s : State} {j : Job} (plays : s.engine.current = some j) :
    s.cutCurrent = s.endCurrent j .cut := by
  unfold State.cutCurrent
  rw [plays]

theorem State.stopEngine_stopped {s : State} (stopped : s.engine.state = .stopped) : s.stopEngine = s := by
  unfold State.stopEngine
  rw [stopped]

theorem State.stopEngine_still {s : State} (still : s.engine.state = .idle ∨ s.engine.state = .spacing) :
    s.stopEngine = s.cutCurrent.enterStopped := by
  unfold State.stopEngine
  rcases still with still | still <;> rw [still]

theorem State.stopEngine_emitting {s : State} (emits : s.engine.state = .emitting) :
    s.stopEngine = s.cutFrame.cutCurrent.enterStopped := by
  unfold State.stopEngine
  rw [emits]

theorem State.stopPosition_eq {s : State} {p : Position} (position : s.engine.position = some p) :
    s.stopPosition =
      { s with engine := { s.engine with position := some { p with stoppedAt := some s.now } } } := by
  unfold State.stopPosition
  rw [position]
  rfl

/-- 05 R96 steps 1 to 3: the frame is cut. -/
theorem State.cutFrame_eq {s : State} {p : Position} (position : s.engine.position = some p) :
    s.cutFrame =
      { s with
        engine :=
          { s.engine with
            position := some { p with stoppedAt := some s.now }
            emitting := false
            deadline := .running (s.now + 2000) }
        rx := s.activityOff.rx } := by
  unfold State.cutFrame
  rw [State.stopPosition_eq position]
  rfl

/-- The link of a request whose handling has ended a job. -/
theorem Link.afterRequest_postJobEnd (r : Request) (body : ReplyBody) (j : Job) (reason : EndReason) (l : Link) :
    (l.hunting.postJobEnd j reason).afterRequest r body = (l.postJobEnd j reason).afterRequest r body := by
  rw [Link.postJobEnd_hunting, Link.afterRequest_hunting]

/-- Settles O26: STOP in the four states of the engine. -/
theorem stopInEveryState : Obligations.StopInEveryState := by
  intro s dt tag ready misses r answer released
  have answers {t : State} {l : Link} (e : (s.received dt).stopEngine = t)
      (link : t.link.afterRequest r (.status .ok) = l) : exec (.stop dt tag) s = .next { t with link := l } := by
    subst link
    exact exec_handled (k := .stop) rfl ready misses nofun (by simp) rfl
      (show (s.received dt).handleStop = (t, _) by rw [State.handleStop, e])
  have link (j : Job) := Link.afterRequest_postJobEnd r (.status .ok) j .cut s.link
  refine ⟨fun stopped => ?_, fun still free => ?_, fun j spaces plays => ?_, fun j p emits plays position => ?_⟩
  · exact answers (State.stopEngine_stopped (s := s.received dt) stopped) rfl
  · have stops := State.stopEngine_still (s := s.received dt) still
    rw [State.cutCurrent_none (s := s.received dt) free] at stops
    exact answers stops rfl
  · have stops := State.stopEngine_still (s := s.received dt) (.inr spaces)
    rw [State.cutCurrent_some (s := s.received dt) plays] at stops
    exact answers stops (link j)
  · have stops := State.stopEngine_emitting (s := s.received dt) emits
    rw [State.cutCurrent_some (s := (s.received dt).cutFrame) plays,
      State.cutFrame_eq (s := s.received dt) position] at stops
    exact answers stops (link j)

/-! ### RESUME and the head of the queue (05 R91, R99) -/

theorem State.takeOrIdle_empty {s : State} (empty : s.queue.jobs = []) :
    s.takeOrIdle = { s with engine := { s.engine with state := .idle } } := by
  unfold State.takeOrIdle
  rw [empty]

theorem State.takeOrIdle_cons {s : State} {j : Job} {rest : List Job} (head : s.queue.jobs = j :: rest) :
    s.takeOrIdle = { s with queue := { s.queue with jobs := rest } }.takeJob j := by
  unfold State.takeOrIdle State.takeHead
  rw [head]

theorem State.deadlineAhead_of_lt {s : State} {due : Nat} (runs : s.engine.deadline = .running due) (ahead : s.now < due) :
    s.deadlineAhead = true := by
  unfold State.deadlineAhead
  rw [runs]
  exact decide_eq_true ahead

theorem State.deadlineAhead_of_passed {s : State} (passed : ∀ due, s.engine.deadline = .running due → due ≤ s.now) :
    s.deadlineAhead = false := by
  unfold State.deadlineAhead
  split
  · next due runs => exact decide_eq_false (Nat.not_lt.2 (passed due runs))
  · rfl
  · rfl

theorem State.handleResume_stopped {s : State} (stopped : s.engine.state = .stopped) :
    s.handleResume = (s.resumeEngine, .status .ok) := by
  unfold State.handleResume
  rw [stopped]

theorem State.handleResume_refused {s : State} (runs : s.engine.state ≠ .stopped) :
    s.handleResume = (s, .status .notStopped) := by
  unfold State.handleResume
  cases state : s.engine.state with
  | stopped => exact absurd state runs
  | idle | emitting | spacing => rfl

/-- A RESUME in STOPPED whose handling leaves `t`. -/
theorem exec_resume {s t : State} {dt : Nat} {tag : Byte} (ready : s.Ready) (misses : s.Misses dt ⟨0x25#8, tag, []⟩)
    (stopped : s.engine.state = .stopped) (resumes : (s.received dt).resumeEngine = t) :
    exec (.resume dt tag) s =
      .next { t with link := t.link.afterRequest ⟨0x25#8, tag, []⟩ (.status .ok) } :=
  exec_handled (k := .resume) rfl ready misses nofun (by simp) rfl
    ((State.handleResume_stopped (s := s.received dt) stopped).trans (by rw [resumes]))

/-- Settles O27: RESUME outside STOPPED, with the deadline ahead, and with nothing to emit. -/
theorem resumeWaitsForTheDeadline : Obligations.ResumeWaitsForTheDeadline := by
  intro s dt tag ready misses answer
  refine ⟨fun runs => ?_, fun stopped => ⟨fun due deadline ahead => ?_, fun passed empty => ?_⟩⟩
  · exact exec_refused (k := .resume) rfl ready misses nofun (by simp) rfl
      (State.handleResume_refused (s := s.received dt) runs)
  · exact exec_resume ready misses stopped
      (if_pos (State.deadlineAhead_of_lt (s := s.received dt) deadline ahead))
  · have passed := State.deadlineAhead_of_passed (s := s.received dt) passed
    exact exec_resume ready misses stopped
      ((if_neg (by simp [passed])).trans (State.takeOrIdle_empty (s := s.received dt) empty))

theorem State.spacingEnds_free {s : State} {due : Nat} (spaces : s.engine.state = .spacing)
    (runs : s.engine.deadline = .running due) (passed : due ≤ s.now) (free : s.engine.current = none) :
    s.spacingEnds = s.takeOrIdle := by
  unfold State.spacingEnds
  rw [if_pos ⟨spaces, by rw [runs]; exact (Timer.isDue_running _ _).2 passed⟩, free]

/-- `u` is what `s` becomes when the head of its queue, the job `j` on the READY template `d`, is taken and
`rest` is left (05 R82, R83). -/
def State.HeadTaken (u s : State) (j : Job) (rest : List Job) (d : Template) : Prop :=
  u.now = s.now ∧ u.queue = { s.queue with jobs := rest } ∧ u.keys = s.keys ∧ u.SameBeyondEmission s
    ∧ (j.state = .waiting → j.framesSent = 0 → j.toggleBit = none → j.holdStarted = none → j.holdExpiry = none →
      u.FrameStarted s
          { j with
            state := .current
            toggleBit := if d.toggle.isSome then some !s.lib.slots[j.spec.template].toggle else none
            holdStarted := if j.spec.length = .hold then some s.now else none
            holdExpiry :=
              if j.spec.length = .hold then some (s.now + s.settings.holdLimit * 1000000) else none }
          d (d.fullFrame j.spec.payload (d.toggle.isSome && !s.lib.slots[j.spec.template].toggle))
        ∧ u.lib =
            { s.lib with
              slots :=
                s.lib.slots.set j.spec.template
                  { s.lib.slots[j.spec.template] with
                    toggle :=
                      if d.toggle.isSome then !s.lib.slots[j.spec.template].toggle
                      else s.lib.slots[j.spec.template].toggle } }
        ∧ u.link.notices =
            (if j.spec.report = .both ∧ s.link.notices.length < 12 then
              s.link.notices
                ++ [.jobStart j.id j.source j.spec.template j.spec.cls
                      (if d.toggle.isSome then some !s.lib.slots[j.spec.template].toggle else none)]
             else s.link.notices))
    ∧ (j.state = .parked →
      u.FrameStarted s { j with state := .current } d (d.fullFrame j.spec.payload (j.toggleBit.getD false))
        ∧ u.lib = s.lib ∧ u.link.notices = s.link.notices)

theorem State.takeOrIdle_taken {s : State} {j : Job} {rest : List Job} {d : Template}
    (head : s.queue.jobs = j :: rest) (isReady : s.lib.slots[j.spec.template].state = .ready d) :
    s.takeOrIdle.HeadTaken s j rest d := by
  rw [State.takeOrIdle_cons head]
  have taken := State.takeJob_taken (s := { s with queue := { s.queue with jobs := rest } }) (j := j) isReady
  refine ⟨by simp, by simp, by simp, by simp [State.SameBeyondEmission], fun waits fresh bit started expiry => ?_,
    fun parked => ?_⟩
  · obtain ⟨-, -, -, first, -⟩ := taken (by simp [waits])
    obtain ⟨frame, lib, link⟩ := first waits fresh
    rw [started, expiry] at frame
    refine ⟨frame, lib, ?_⟩
    rw [link]
    by_cases both : j.spec.report = .both
    · rw [if_pos both, Link.post_notices]
      simp [both]
    · rw [if_neg both, if_neg fun h => both h.1]
  · obtain ⟨-, -, -, -, again⟩ := taken (by simp [parked])
    obtain ⟨frame, lib, link⟩ := again parked
    exact ⟨frame, lib, by rw [link]⟩

/-- Settles O28: the head of the queue is taken, at a RESUME and at a spacing end. -/
theorem theHeadIsTaken : Obligations.TheHeadIsTaken := by
  intro s dt tag c j rest d head isReady free how flips bit
  have taken : ∃ u, exec c s = .next u ∧ u.HeadTaken (s.advance dt) j rest d := by
    rcases how with ⟨rfl, ready, misses, stopped, passed⟩ | ⟨rfl, runs, spaces, due, deadline, passed⟩
    · have passed := State.deadlineAhead_of_passed (s := s.received dt) passed
      exact ⟨_, exec_resume ready misses stopped (if_neg (by simp [passed])),
        State.takeOrIdle_taken (s := s.received dt) head isReady⟩
    · refine ⟨_, congrArg Host.Outcome.next (State.event_running runs dt _), ?_⟩
      rw [State.spacingEnds_free (s := s.advance dt) spaces deadline passed free]
      exact State.takeOrIdle_taken (s := s.advance dt) head isReady
  obtain ⟨u, steps, now, queue, keys, beyond, first, again⟩ := taken
  exact ⟨u, steps, now, queue, keys, beyond, first, again⟩

end Sys2Proof.Machine
end

section
/-! PROOF. Interval ends and frame ends (02 R34, 05 R85 to R87). -/

namespace Sys2Proof.Machine

section

variable {s : State} {j : Job} {p : Position} {iv : Interval}

theorem State.intervalEnds_unfold (emits : s.engine.state = .emitting) (plays : s.engine.current = some j)
    (position : s.engine.position = some p) (interval : s.engine.buffer[p.index]? = some iv) :
    s.intervalEnds =
      if p.since + iv.dur ≤ s.now then
        if p.index + 1 < s.engine.buffer.length then
          { s with engine := { s.engine with position := some { p with index := p.index + 1, since := s.now } } }
        else s.frameEnds j p
      else s := by
  unfold State.intervalEnds
  rw [emits, plays, position]
  dsimp only
  rw [List.getD_eq_getElem?_getD, interval, Option.getD_some]

/-- 05 R85 step 3, 02 R39 to R41: the spacing deadline of a frame. -/
theorem Template.deadline_eq (d : Template) (frameStart frameEnd : Nat) :
    d.deadline frameStart frameEnd =
      match d.spacingMode with
      | .gap => frameEnd + d.spacing
      | .period => max (frameStart + d.spacing) (frameEnd + 2000) := rfl

/-- 07 R132, R133: the receiver once the emission activity has ended. -/
theorem State.activityOff_rx (s : State) :
    s.activityOff.rx =
      if s.settings.rxBlankTail = 0 then
        match s.rx.state with
        | .blanked =>
          { s.rx with blankTail := .stopped, state := if s.rx.filtered = .space then .quiet else .discard }
        | _ => { s.rx with blankTail := .stopped }
      else { s.rx with blankTail := .running (s.now + s.settings.rxBlankTail * 1000) } := by
  unfold State.activityOff
  dsimp only
  split
  · unfold Receiver.unblank
    cases state : s.rx.state <;> cases filtered : s.rx.filtered <;> rfl
  · rfl

/-- 05 R85: the counted frame. -/
theorem State.frameCounted_eq {d : Template} (position : s.engine.position = some p)
    (isReady : s.lib.slots[j.spec.template].state = .ready d) :
    s.frameCounted j p =
      { s with
        engine :=
          { s.engine with
            state := .spacing
            current := some j.frameSent
            position := some { p with stoppedAt := some s.now }
            deadline := .running (d.deadline p.frameStart s.now)
            emitting := false }
        rx := s.activityOff.rx } := by
  unfold State.frameCounted
  rw [State.stopPosition_eq position, State.templateOf_ready isReady]
  rfl

theorem State.minimum_ready {d : Template} (isReady : s.lib.slots[j.spec.template].state = .ready d) :
    s.minimum j =
      match j.spec.length with
      | .hold => d.minFrames
      | .count _ => 1 := by
  unfold State.minimum
  rw [State.templateOf_ready isReady]
  cases j.spec.length <;> rfl

/-- 05 R86: why a job on a READY template ends at its frame end. -/
theorem State.endAtFrame_ready {d : Template} (isReady : s.lib.slots[j.spec.template].state = .ready d) :
    s.endAtFrame j =
      match j.spec.length with
      | .count n =>
        if n ≤ j.framesSent then some .done
        else if 1 ≤ j.framesSent then j.endPending.map PendingEnd.reason else none
      | .hold => if d.minFrames ≤ j.framesSent then j.endPending.map PendingEnd.reason else none := by
  unfold State.endAtFrame State.reachedMin
  rw [State.minimum_ready isReady]
  cases j.spec.length <;> simp

theorem State.frameEnds_none (stays : (s.frameCounted j p).endAtFrame j.frameSent = none) :
    s.frameEnds j p = s.frameCounted j p := by
  unfold State.frameEnds State.decideAtFrame
  rw [stays]

theorem State.frameEnds_some {reason : EndReason} (ends : (s.frameCounted j p).endAtFrame j.frameSent = some reason) :
    s.frameEnds j p = ((s.frameCounted j p).endCurrent j.frameSent reason).startTail := by
  unfold State.frameEnds State.decideAtFrame
  rw [ends]

end

/-- Settles O29: an interval that has elapsed, and the end of a frame. -/
theorem intervalEnds : Obligations.IntervalEnds := by
  constructor
  · intro s dt j p iv runs emits plays position interval notLast
    have ends := State.intervalEnds_unfold (s := s.advance dt) emits plays position interval
    refine ⟨fun elapsed => ?_, fun ahead => ?_⟩
    · exact exec_busy rfl runs (ends.trans ((if_pos elapsed).trans (if_pos notLast))) runs.2
        (State.notQuiet_of_engine (.inl emits))
    · exact exec_busy rfl runs (ends.trans (if_neg (Nat.not_le.2 ahead))) runs.2 (State.notQuiet_of_engine (.inl emits))
  · intro s dt j p iv d runs emits plays position interval last elapsed isReady j' minimum due ends
    have acts : (s.advance dt).intervalEnds = (s.advance dt).frameEnds j p :=
      (State.intervalEnds_unfold (s := s.advance dt) emits plays position interval).trans
        ((if_pos elapsed).trans (if_neg (show ¬p.index + 1 < s.engine.buffer.length by omega)))
    have counted := State.frameCounted_eq (s := s.advance dt) position isReady
    have isReady' : ((s.advance dt).frameCounted j p).lib.slots[j.frameSent.spec.template].state = .ready d := by
      rw [counted]
      exact isReady
    have decided : ((s.advance dt).frameCounted j p).endAtFrame j.frameSent = ends :=
      (State.endAtFrame_ready isReady').trans (by cases length : j.spec.length <;> simp [ends, minimum, j', Job.frameSent, length])
    have rx := (s.advance dt).activityOff_rx
    refine ⟨_, congrArg Host.Outcome.next (State.event_running runs dt _), ?_⟩
    rw [acts]
    clear_value ends
    cases ends with
    | none =>
      rw [State.frameEnds_none decided, counted]
      exact ⟨rfl, rfl, rx, rfl, rfl, ⟨rfl, rfl, rfl, rfl, rfl, rfl, rfl, rfl, rfl, rfl⟩,
        fun _ => ⟨rfl, rfl, rfl, rfl⟩, nofun⟩
    | some reason =>
      rw [State.frameEnds_some decided, counted]
      refine ⟨rfl, rfl, rx, rfl, rfl, ⟨rfl, rfl, rfl, rfl, rfl, rfl, rfl, rfl, rfl, rfl⟩, nofun, fun _ same => ?_⟩
      obtain rfl := Option.some.inj same
      exact ⟨rfl, rfl, rfl, rfl⟩

end Sys2Proof.Machine
end

section
/-! PROOF. Spacing ends (05 R88 to R91), the hold limit (05 R93) and the IND tail (03 R53). -/

namespace Sys2Proof.Machine

/-- 05 R82, R83: what the engine does with a job that it takes, from whatever state. -/
theorem State.takeJob_jobTaken {s : State} {j : Job} {d : Template}
    (isReady : s.lib.slots[j.spec.template].state = .ready d) : (s.takeJob j).JobTaken s j d := by
  by_cases current : j.state = .current
  · exact ⟨by simp, by simp, by simp [State.SameBeyondEmission], by simp [current], by simp [current]⟩
  · exact State.takeJob_taken isReady current

section

variable {s : State} {j : Job} {due : Nat}

theorem State.spacingEnds_plays (spaces : s.engine.state = .spacing) (runs : s.engine.deadline = .running due)
    (passed : due ≤ s.now) (plays : s.engine.current = some j) :
    s.spacingEnds =
      match s.endAtSpacing j with
      | some reason => (s.endCurrent j reason).afterSpacingEnd
      | none => s.parkOrGoOn j := by
  unfold State.spacingEnds
  rw [if_pos ⟨spaces, by rw [runs]; exact (Timer.isDue_running _ _).2 passed⟩, plays] <;> rfl

theorem State.endAtSpacing_some {reason : PendingEnd} (pending : j.endPending = some reason)
    (reached : s.minimum j ≤ j.framesSent) : s.endAtSpacing j = some reason.reason := by
  unfold State.endAtSpacing State.reachedMin
  rw [if_pos (decide_eq_true reached), pending]
  rfl

theorem State.endAtSpacing_none (stays : j.endPending = none ∨ j.framesSent < s.minimum j) :
    s.endAtSpacing j = none := by
  unfold State.endAtSpacing State.reachedMin
  rcases stays with pending | below
  · simp [pending]
  · rw [if_neg (by simpa using below)]

theorem State.afterSpacingEnd_empty (empty : s.queue.jobs = []) :
    s.afterSpacingEnd = State.startTail { s with engine := { s.engine with state := .idle } } := by
  unfold State.afterSpacingEnd
  rw [empty]
  exact congrArg State.startTail (State.takeOrIdle_empty empty)

theorem State.afterSpacingEnd_cons {h : Job} {rest : List Job} (head : s.queue.jobs = h :: rest) :
    s.afterSpacingEnd = { s with queue := { s.queue with jobs := rest } }.takeJob h := by
  unfold State.afterSpacingEnd
  rw [head]
  exact State.takeOrIdle_cons head

end

/-- Settles O30: a spacing end without a current job, and one at which the current job ends. -/
theorem spacingEndGoesIdle : Obligations.SpacingEndGoesIdle := by
  intro s dt due runs spaces deadline passed
  have steps : exec (.spacingEnd dt) s = .next (s.advance dt).spacingEnds.settle :=
    congrArg Host.Outcome.next (State.event_running runs dt _)
  refine ⟨fun empty free => ?_, fun j reason plays pending reached => ?_⟩
  · rw [steps, State.spacingEnds_free (s := s.advance dt) spaces deadline passed free,
      State.takeOrIdle_empty (s := s.advance dt) empty]
    rfl
  · have ends := State.spacingEnds_plays (s := s.advance dt) spaces deadline passed plays
    rw [State.endAtSpacing_some (s := s.advance dt) pending reached] at ends
    refine ⟨fun empty => ?_, fun h rest d head isReady => ⟨_, steps, ?_⟩⟩
    · rw [steps, ends]
      exact congrArg (fun t : State => Host.Outcome.next t.settle)
        (State.afterSpacingEnd_empty (s := (s.advance dt).endCurrent j reason.reason) empty)
    · have claimed : ((s.advance dt).endCurrent j reason.reason).lib.slots[h.spec.template].state = .ready d := by
        rw [← isReady]
        exact Library.unclaim_state ..
      rw [ends]
      dsimp only
      rw [State.afterSpacingEnd_cons (s := (s.advance dt).endCurrent j reason.reason) head]
      exact ⟨State.takeJob_jobTaken (s := { (s.advance dt).endCurrent j reason.reason with
        queue := { s.queue with jobs := rest } }) claimed, by simp [State.settle]⟩

/-! ### Parking and going on (05 R89, R90) -/

theorem State.parkOrGoOn_park {s : State} {j h : Job} {rest : List Job} (head : s.queue.jobs = h :: rest)
    (urgent : h.spec.cls = .urgent) (normal : j.spec.cls = .normal) :
    s.parkOrGoOn j = s.park j h rest := by
  unfold State.parkOrGoOn
  rw [head]
  exact if_pos (by simp [Job.urgent, urgent, normal])

theorem State.parkOrGoOn_goOn {s : State} {j : Job}
    (stays : j.spec.cls = .urgent ∨ ∀ h ∈ s.queue.jobs.head?, h.spec.cls = .normal) :
    s.parkOrGoOn j = s.startFrame j := by
  unfold State.parkOrGoOn
  cases head : s.queue.jobs with
  | nil => rfl
  | cons h rest =>
    rw [head] at stays
    refine if_neg ?_
    rcases stays with urgent | normal
    · simp [Job.urgent, urgent]
    · simp [Job.urgent, normal h rfl]

/-- 02 R35, 05 R84: the next frame of a current job. -/
theorem renderFrame_next (d : Template) (j : Job) (resumed : Bool) :
    renderFrame d j (frameKindOf d j resumed) =
      if 0 < j.framesSent ∧ resumed = false ∧ d.repeatForm = .marker then d.markerFrame
      else d.fullFrame j.spec.payload (j.toggleBit.getD false) := by
  unfold frameKindOf
  by_cases first : j.framesSent = 0 ∨ resumed = true
  · have notMarker : ¬(0 < j.framesSent ∧ resumed = false ∧ d.repeatForm = .marker) := by
      rintro ⟨sent, goes, -⟩
      rcases first with none | again
      · omega
      · simp [goes] at again
    rw [if_pos first, if_neg notMarker]
    rfl
  · rw [if_neg first]
    simp only [not_or, Bool.not_eq_true] at first
    cases form : d.repeatForm <;> simp [renderFrame, first.2, Nat.pos_of_ne_zero first.1]

/-- Settles O31: a spacing end that parks the current job, or starts its next frame. -/
theorem spacingEndParksOrGoesOn : Obligations.SpacingEndParksOrGoesOn := by
  intro s dt due j d runs spaces deadline passed plays isReady stays
  have steps : exec (.spacingEnd dt) s = .next (s.advance dt).spacingEnds.settle :=
    congrArg Host.Outcome.next (State.event_running runs dt _)
  have ends := State.spacingEnds_plays (s := s.advance dt) spaces deadline passed plays
  rw [State.endAtSpacing_none (s := s.advance dt) stays] at ends
  refine ⟨fun h rest e head urgent waits normal headReady fresh => ⟨_, steps, ?_⟩, fun goes => ⟨_, steps, ?_⟩⟩
  · rw [ends]
    dsimp only
    rw [State.parkOrGoOn_park (s := s.advance dt) head urgent normal]
    have taken := State.takeJob_jobTaken (s := { s.advance dt with
      queue := { s.queue with jobs := insertAfterUrgent { j with state := .parked } rest } }) headReady
    have begins (t : State) : t.takeJob h = t.beginJob h := by simp [State.takeJob, waits]
    rw [begins] at taken
    exact ⟨taken, by simp [State.settle, State.park, insertAfterUrgent]⟩
  · rw [ends]
    dsimp only
    rw [State.parkOrGoOn_goOn (s := s.advance dt) goes]
    have started := State.startFrame_started (s := s.advance dt) isReady (renderFrame_next d j s.engine.resumed)
    exact ⟨by simp [State.settle], by simp [State.settle, State.SameBeyondEmission], by simp [State.settle],
      by simp [State.settle], by simp [State.settle], by simp [State.settle], started⟩

/-! ### The hold limit and the IND tail (05 R93, 03 R53) -/

/-- 04 R67: a reason on a live job: it leaves at once when it is PARKED and has reached its minimum, and is
marked otherwise. -/
theorem State.endSoon_eq (s : State) (j : Job) (reason : PendingEnd) :
    (s.endSoon j reason).1 =
      if j.state = .parked ∧ s.minimum j ≤ j.framesSent then s.removeJob j reason.reason
      else s.markJob j.id reason := by
  simp only [State.endSoon, State.reachedMin, decide_eq_true_eq]
  split <;> rfl

theorem State.holdExpires_eq {s : State} {id : Nat} {j : Job} {due : Nat} (found : s.findJob id = some j)
    (limit : j.holdExpiry = some due) (passed : due ≤ s.now) :
    s.holdExpires id = if j.endPending.isSome then s else (s.endSoon j .holdLimit).1 := by
  unfold State.holdExpires
  rw [found]
  dsimp only
  rw [limit]
  cases j.endPending <;> simp [passed]

/-- Settles O32: the hold limit of a live job, and the IND tail. -/
theorem holdLimitAndTailExpire : Obligations.HoldLimitAndTailExpire := by
  intro s dt runs
  refine ⟨fun id j due found limit passed => ?_, fun due tail passed => ?_⟩
  · have expires := State.holdExpires_eq (s := s.advance dt) found limit passed
    rw [State.endSoon_eq] at expires
    exact congrArg Host.Outcome.next ((State.event_running runs dt _).trans (congrArg State.settle expires))
  · have expires : (s.advance dt).tailExpires = (s.advance dt).releaseInd :=
      if_pos (by rw [show (s.advance dt).ind.tail = .running due from tail]; exact (Timer.isDue_running _ _).2 passed)
    exact congrArg Host.Outcome.next ((State.event_running runs dt _).trans (congrArg State.settle expires))

end Sys2Proof.Machine
end

section
/-! PROOF. The Key Scanner (06): edges, debounce expiries, BIND and UNBIND. -/

namespace Sys2Proof.Machine

/-! ### Edges (06 R105 to R108, R119) -/

/-- The state and expiry of an enabled key after an edge (06 R107, R108). -/
theorem KeyRec.edge_eq (r : KeyRec) (high : Bool) (due : Timer) :
    r.edge high due =
      { r with
        state :=
          (match r.state, high with
            | .up, false => (KeyState.pressing, due)
            | .pressing, true => (.up, .stopped)
            | .down, true => (.releasing, due)
            | .releasing, false => (.down, .stopped)
            | .locked, true => (.locked, due)
            | .locked, false => (.locked, .stopped)
            | state, _ => (state, r.expiry)).1
        expiry :=
          (match r.state, high with
            | .up, false => (KeyState.pressing, due)
            | .pressing, true => (.up, .stopped)
            | .down, true => (.releasing, due)
            | .releasing, false => (.down, .stopped)
            | .locked, true => (.locked, due)
            | .locked, false => (.locked, .stopped)
            | state, _ => (state, r.expiry)).2 } := by
  obtain ⟨state, expiry, live, binding⟩ := r
  cases state <;> cases high <;> rfl

theorem State.wake_eq (byRxin : Bool) (s : State) :
    s.wake byRxin =
      { s with
        doze :=
          match s.doze.state with
          | .dozing => { s.doze with state := .waking byRxin }
          | .awake | .waking _ => s.doze } := by
  unfold State.wake
  cases s.doze.state <;> rfl

/-- Settles O33: an edge on a K line. -/
theorem keyEdgeFollowsTheTable : Obligations.KeyEdgeFollowsTheTable := by
  intro s dt k high on due lines after
  have steps : exec (.keyEdge dt k high) s = .next (State.settle ((s.advance dt).keyLineChanges k high)) :=
    congrArg Host.Outcome.next (if_neg (by simp [on]))
  split
  · next same => rw [steps, State.keyLineChanges, if_pos (show (s.advance dt).keyHigh k = high from same)]; rfl
  next moves =>
  rw [State.keyLineChanges, if_neg (show ¬(s.advance dt).keyHigh k = high from moves)] at steps
  split
  · next disabled =>
    have disabled : (s.advance dt).keyEnabled k = false := disabled
    rw [steps, if_neg (by simp [disabled]), State.keyEdge, if_neg (by simp [disabled])]
    rfl
  · next enabled =>
    have enabled : (s.advance dt).keyEnabled k = true := by simpa [State.keyEnabled] using enabled
    rw [steps, if_pos enabled, State.keyEdge, if_pos enabled, State.wake_eq, KeyRec.edge_eq]
    rfl

/-! ### Debounce expiries (06 R107 to R115) -/

section

variable {s : State} {k : Fin 8} {due : Nat}

/-- The key whose debounce expiry has been taken, in its new state. -/
def KeyRec.settled (r : KeyRec) (state : KeyState) : KeyRec := { r with state := state, expiry := .stopped }

/-- 06 R107: the expiry of a key is due. -/
theorem State.debounceExpires_eq (runs : s.keys[k].expiry = .running due) (passed : due ≤ s.now) :
    s.debounceExpires k =
      match s.keys[k].state with
      | .pressing => s.keyPress k
      | .releasing => s.keyReleased k
      | .locked => s.setKey k (s.keys[k].settled .up)
      | .up | .down => s :=
  if_pos (by rw [runs]; exact (Timer.isDue_running _ _).2 passed)

theorem State.handRelease_none (none : s.keys[k].live = none) : s.handRelease k = s := by
  unfold State.handRelease
  rw [none]

/-- 04 R70: a key release names a job only when it is the key's own HOLD job without a pending reason. -/
theorem State.keyRelease_noJob {id : Nat} (absent : s.findJob id = none) : s.keyRelease k id = s := by
  unfold State.keyRelease
  rw [absent]

theorem State.keyRelease_found {id : Nat} {j : Job} (found : s.findJob id = some j) :
    s.keyRelease k id =
      if j.source ≠ .key k ∨ j.spec.length ≠ .hold ∨ j.endPending.isSome then s
      else if j.state = .parked ∧ s.minimum j ≤ j.framesSent then s.removeJob j .released
      else s.markJob j.id .released := by
  have excluded : (j.source ≠ .key k ∨ j.spec.length ≠ .hold ∨ j.endPending.isSome) ↔
      ¬(j.source = .key k ∧ j.spec.length = .hold ∧ j.endPending = none) := by
    rw [not_and_or, not_and_or, ← Option.ne_none_iff_isSome]
  unfold State.keyRelease
  rw [found]
  simp only [excluded, ite_not, State.endSoon_eq]
  rfl

theorem State.handRelease_some {id : Nat} (live : s.keys[k].live = some id) : s.handRelease k = s.keyRelease k id := by
  unfold State.handRelease
  rw [live]

theorem State.submitPress_unbound (none : s.keys[k].binding = none) : s.submitPress k = s := by
  unfold State.submitPress
  rw [none]

theorem State.submitPress_live {spec : JobSpec} {id : Nat} (bound : s.keys[k].binding = some spec)
    (live : s.keys[k].live = some id) : s.submitPress k = s.post (.keyRefused k .stillLive (some id)) := by
  unfold State.submitPress
  rw [bound]
  dsimp only
  rw [live]

theorem State.submitPress_refused {spec : JobSpec} {st : Status} (bound : s.keys[k].binding = some spec)
    (free : s.keys[k].live = none) (refused : s.admissionRefusal spec = some st) :
    s.submitPress k = s.post (.keyRefused k st none) := by
  unfold State.submitPress
  rw [bound]
  dsimp only
  rw [free]
  dsimp only
  rw [refused]

theorem State.submitPress_admitted {spec : JobSpec} (bound : s.keys[k].binding = some spec)
    (free : s.keys[k].live = none) (admits : s.admissionRefusal spec = none) :
    s.submitPress k = (s.enrol (.key k) spec).admitted := by
  unfold State.submitPress
  rw [bound]
  dsimp only
  rw [free]
  dsimp only
  rw [admits]

end

/-- Settles O34: what a due debounce expiry takes. -/
theorem debounceTakesPressAndRelease : Obligations.DebounceTakesPressAndRelease := by
  intro s dt due k runs expires passed reported moved released pressed becomes
  have steps : exec (.debounceExpiry dt k) s = .next (State.settle ((s.advance dt).debounceExpires k)) :=
    congrArg Host.Outcome.next (State.event_running runs dt _)
  have acts := State.debounceExpires_eq (s := s.advance dt) expires passed
  have own (r : KeyRec) : (s.keys.set k r)[k] = r := by simp
  refine ⟨fun locked => ?_, fun releasing => ?_, fun pressing => ?_⟩
  · rw [show (s.advance dt).keys[k].state = .locked from locked] at acts
    exact steps.trans (congrArg (fun t => Host.Outcome.next (State.settle t)) acts)
  · rw [show (s.advance dt).keys[k].state = .releasing from releasing] at acts
    have becomesReleased {u : State} (hands : released.handRelease k = u) : becomes u :=
      steps.trans (congrArg (fun t => Host.Outcome.next (State.settle t)) (acts.trans hands))
    have live : released.keys[k].live = s.keys[k].live := (congrArg KeyRec.live (own (moved .up)) :)
    refine ⟨fun none => becomesReleased (State.handRelease_none (live.trans none)), fun id alive => ⟨fun absent => ?_,
      fun j found => ?_⟩⟩
    · exact becomesReleased ((State.handRelease_some (live.trans alive)).trans
        (State.keyRelease_noJob (s := released) absent))
    · have hands := (State.handRelease_some (live.trans alive)).trans
        (State.keyRelease_found (s := released) (k := k) found)
      split
      · next other => exact becomesReleased (hands.trans (if_pos other))
      next mine =>
      rw [if_neg mine] at hands
      split
      · next leaves => exact becomesReleased (hands.trans (if_pos leaves))
      · next stays => exact becomesReleased (hands.trans (if_neg stays))
  · rw [show (s.advance dt).keys[k].state = .pressing from pressing] at acts
    have becomesPressed {u : State} (submits : pressed.submitPress k = u) : becomes u :=
      steps.trans (congrArg (fun t => Host.Outcome.next (State.settle t)) (acts.trans submits))
    have live : pressed.keys[k].live = s.keys[k].live := (congrArg KeyRec.live (own (moved .down)) :)
    have binding : pressed.keys[k].binding = s.keys[k].binding := (congrArg KeyRec.binding (own (moved .down)) :)
    refine ⟨fun none => becomesPressed (State.submitPress_unbound (binding.trans none)), fun spec bound =>
      ⟨fun id alive => ?_, fun free => ⟨fun st refused => ?_, fun admits => ?_⟩⟩⟩
    · exact becomesPressed (State.submitPress_live (binding.trans bound) (live.trans alive))
    · exact becomesPressed (State.submitPress_refused (s := pressed) (binding.trans bound) (live.trans free) refused)
    · have submits := State.submitPress_admitted (s := pressed) (binding.trans bound) (live.trans free) admits
      have keys : giveLive (.key k) s.allocate (s.keys.set k (moved .down)) =
          s.keys.set k { moved .down with live := some s.allocate } := by
        simp [giveLive]
      refine ⟨fun busy => ?_, fun d idle current empty isReady plain => ?_⟩
      · rw [State.admitted_busy (s := pressed.enrol (.key k) spec) busy] at submits
        refine (becomesPressed submits).trans (congrArg (fun t => Host.Outcome.next (State.settle t)) ?_)
        unfold State.enrol
        rw [show giveLive (.key k) pressed.allocate pressed.keys = _ from keys]
        obtain ⟨-, -, -, -, cls, -⟩ := spec
        cases cls <;> rfl
      · obtain ⟨now, started, queue, lib, given, link, beyond⟩ :=
          State.enrol_admitted (s := pressed) (.key k) isReady idle empty
        have bit : (pressed.firstJob (.key k) spec d).toggleBit = none := by simp [State.firstJob, plain]
        rw [bit] at link
        refine ⟨_, becomesPressed submits, ?_, queue, ?_, given.trans keys, link, beyond⟩
        · simp only [State.firstJob, plain] at started
          exact started
        · simp only [plain] at lib
          exact lib

/-! ### BIND and UNBIND (06 R111, R112) -/

/-- The slots once a binding has been replaced: the old claim is gone, the new one made. -/
def Library.rebound (l : Library) (old new : Option JobSpec) : Vector Slot 16 :=
  Vector.ofFn fun n : Fin 16 =>
    { l.slots[n] with
      refs :=
        l.slots[n].refs - (if old.any fun b => decide (b.template = n) then 1 else 0)
          + (if new.any fun b => decide (b.template = n) then 1 else 0) }

theorem Library.unclaimBinding_slot (old : Option JobSpec) (l : Library) (n : Fin 16) :
    (l.unclaimBinding old).slots[n] =
      { l.slots[n] with refs := l.slots[n].refs - (if old.any fun b => decide (b.template = n) then 1 else 0) } := by
  cases old with
  | none => rfl
  | some b =>
    refine (Library.unclaim_slot b.template n l).trans ?_
    by_cases own : n = b.template
    · subst own
      simp
    · simp [own, Ne.symm own]

theorem Library.unclaimBinding_eq (old : Option JobSpec) (l : Library) :
    l.unclaimBinding old = { l with slots := l.rebound old none } := by
  have slots : (l.unclaimBinding old).slots = l.rebound old none := by
    refine Vector.ext fun i below => (l.unclaimBinding_slot old ⟨i, below⟩).trans ?_
    simp [Library.rebound]
  have draft : (l.unclaimBinding old).draft = l.draft := by cases old <;> rfl
  rw [← slots, ← draft]

theorem Library.claimBinding_eq (old : Option JobSpec) (new : JobSpec) (l : Library) :
    (l.unclaimBinding old).claimBinding new = { l with slots := l.rebound old (some new) } := by
  have slots : ((l.unclaimBinding old).claimBinding new).slots = l.rebound old (some new) := by
    refine Vector.ext fun i below => (Library.claim_slot new.template ⟨i, below⟩ _).trans ?_
    rw [Library.unclaimBinding_slot]
    by_cases own : (⟨i, below⟩ : Fin 16) = new.template
    · obtain rfl : i = new.template.val := congrArg Fin.val own
      simp [Library.rebound]
    · simp [Library.rebound, own, Ne.symm own]
  have draft : ((l.unclaimBinding old).claimBinding new).draft = l.draft := by cases old <;> rfl
  rw [← slots, ← draft]

section

variable {s : State} {k : Fin 8}

theorem State.bindKey_eq (s : State) (k : Fin 8) (spec : JobSpec) :
    s.bindKey k spec =
      if s.isWriting then (s, .status .saving)
      else
        match s.specRefusal spec with
        | some st => (s, .status st)
        | none =>
          ({ s with
              keys := s.keys.set k { s.keys[k] with binding := some spec }
              lib := { s.lib with slots := s.lib.rebound s.keys[k].binding (some spec) } },
            .replaced s.keys[k].binding.isSome) := by
  unfold State.bindKey State.isWriting
  rw [← Library.claimBinding_eq]
  cases s.store.op <;> rfl

theorem State.bindKey_refused {spec : JobSpec} {st : Status} (free : s.isWriting = false)
    (refused : s.specRefusal spec = some st) : s.bindKey k spec = (s, .status st) := by
  rw [State.bindKey_eq, if_neg (by simp [free]), refused]

theorem State.bindKey_bound {spec : JobSpec} (free : s.isWriting = false) (fits : s.specRefusal spec = none) :
    s.bindKey k spec =
      ({ s with
          keys := s.keys.set k { s.keys[k] with binding := some spec }
          lib := { s.lib with slots := s.lib.rebound s.keys[k].binding (some spec) } },
        .replaced s.keys[k].binding.isSome) := by
  rw [State.bindKey_eq, if_neg (by simp [free]), fits]

theorem State.unbindKey_eq :
    s.unbindKey k =
      if s.isWriting then (s, .status .saving)
      else
        ({ s with
            keys := s.keys.set k { s.keys[k] with binding := none }
            lib := { s.lib with slots := s.lib.rebound s.keys[k].binding none } },
          .replaced s.keys[k].binding.isSome) := by
  unfold State.unbindKey State.isWriting
  rw [← Library.unclaimBinding_eq]
  cases s.store.op <;> rfl

end

/-- Settles O35: BIND and UNBIND. -/
theorem bindAndUnbind : Obligations.BindAndUnbind := by
  intro s dt tag key ready slots
  constructor
  · intro template mode count mask cls report payload r misses some' fits c refused
    have answers {t : State} {body : ReplyBody} (e : (s.received dt).handleBind
        (key :: template :: mode :: count :: mask :: cls :: report :: payload) = (t, body)) :
        exec c s = .next { t with link := t.link.afterRequest r body } :=
      exec_handled (k := .bind) rfl ready misses nofun (by simp; omega) (by simp [RequestKind.lengthOk]; omega) e
    refine ⟨fun bad => ?_, fun k spec same specs => ?_⟩
    · refine answers (t := s.received dt) ?_
      rcases bad with bad | bad
      · simp [State.handleBind, keyOf_of_ge bad, State.badValue]
      · simp [State.handleBind, bad, State.badValue]
    have binds : (s.received dt).handleBind (key :: template :: mode :: count :: mask :: cls :: report :: payload) =
        (s.received dt).bindKey k spec := by simp [State.handleBind, keyOf_of_eq same, specs]
    split
    · next writing => exact answers (binds.trans ((State.bindKey_eq ..).trans (if_pos writing)))
    next free =>
    have free : s.isWriting = false := by simpa using free
    have refuses {st : Status} (e : (s.received dt).specRefusal spec = some st) : refused st :=
      answers (binds.trans (State.bindKey_refused free e))
    cases state : s.lib.slots[spec.template].state with
    | empty | draft | revising =>
      refine refuses (State.specRefusal_noTemplate ?_)
      change s.lib.slots[spec.template].state.usable = none
      rw [state]
      rfl
    | ready d =>
      have checks := State.specRefusal_ready (s := s.received dt) (spec := spec) state
      rw [jobSpecOf_payload specs] at checks
      dsimp only
      split
      · next bad => exact refuses (checks.trans (if_pos bad))
      next payloads =>
      rw [if_neg payloads] at checks
      split
      · next bad => exact refuses (checks.trans (if_pos bad))
      next repeats =>
      rw [if_neg repeats] at checks
      split
      · next bad => exact refuses (checks.trans (if_pos bad))
      next lines => exact answers (binds.trans (State.bindKey_bound (s := s.received dt) free (checks.trans (if_neg lines))))
  · intro misses answer
    have answers {t : State} {body : ReplyBody} (e : (s.received dt).handleUnbind [key] = (t, body)) :
        exec (.unbind dt tag key) s = .next { t with link := t.link.afterRequest ⟨0x29#8, tag, [key]⟩ body } :=
      exec_handled (k := .unbind) rfl ready misses nofun (by simp) rfl e
    refine ⟨fun bad => ?_, fun k same => ?_⟩
    · exact answers (t := s.received dt) (by simp [State.handleUnbind, keyOf_of_ge bad, State.badValue])
    have unbinds : (s.received dt).handleUnbind [key] = (s.received dt).unbindKey k := by
      simp [State.handleUnbind, keyOf_of_eq same]
    rw [State.unbindKey_eq] at unbinds
    split
    · next writing => exact answers (unbinds.trans (if_pos writing))
    · next free => exact answers (unbinds.trans (if_neg free))

end Sys2Proof.Machine
end

section
/-! PROOF. The Receiver Front End (07): changes of RXIN, filtered edges, and the timers of the receiver. -/

namespace Sys2Proof.Machine

/-! ### The burst slots (07 R125 to R129) -/

section

variable {rx : Receiver} {n m : SlotName} {start : Nat} {ivs : List Interval}

@[simp] theorem Receiver.slot_setSlot_same (rx : Receiver) (n : SlotName) (b : BurstSlot) :
    (rx.setSlot n b).slot n = b := by
  cases n <;> rfl

theorem Receiver.slot_setSlot_other (rx : Receiver) (b : BurstSlot) (other : n ≠ m) :
    (rx.setSlot n b).slot m = rx.slot m := by
  cases n <;> cases m <;> first | rfl | exact absurd rfl other

theorem BurstSlot.stored_resting {b : BurstSlot} (rests : b.isFilling = false) (iv : Interval) : b.stored iv = b := by
  cases b with
  | filling => exact absurd rests nofun
  | free | full => rfl

theorem BurstSlot.abandoned_resting {b : BurstSlot} (rests : b.isFilling = false) : b.abandoned = b := by
  cases b with
  | filling => exact absurd rests nofun
  | free | full => rfl

theorem BurstSlot.completed_resting {b : BurstSlot} (rests : b.isFilling = false) (stop order : Nat) :
    b.completed stop order = b := by
  cases b with
  | filling => exact absurd rests nofun
  | free | full => rfl

/-- 07 R127: an interval is stored in the one FILLING slot. -/
theorem Receiver.storeInterval_eq (other : n ≠ m) (fills : rx.slot n = .filling start ivs)
    (rests : (rx.slot m).isFilling = false) (kind : IKind) (edge : Nat) :
    rx.storeInterval kind edge =
      { rx.setSlot n (.filling start (ivs ++ [⟨kind, edge - rx.lastEdge⟩])) with lastEdge := edge } := by
  cases n <;> cases m <;> first | exact absurd rfl other | skip
  all_goals
    simp only [Receiver.slot] at fills rests
    simp only [Receiver.storeInterval, Receiver.setSlot, fills, BurstSlot.stored_resting rests]
    rfl

/-- 07 R128, R129: the one FILLING slot is freed. -/
theorem Receiver.leaveBurst_eq (other : n ≠ m) (fills : rx.slot n = .filling start ivs)
    (rests : (rx.slot m).isFilling = false) (dest : RxState) :
    rx.leaveBurst dest =
      { rx.setSlot n .free with state := dest, burstEnd := .stopped, markLimit := .stopped } := by
  cases n <;> cases m <;> first | exact absurd rfl other | skip
  all_goals
    simp only [Receiver.slot] at fills rests
    simp only [Receiver.leaveBurst, Receiver.setSlot, fills, BurstSlot.abandoned_resting rests]
    rfl

theorem Receiver.captured_eq (other : n ≠ m) (fills : rx.slot n = .filling start ivs)
    (rests : (rx.slot m).isFilling = false) : rx.captured = ivs.length := by
  have filling : rx.fillingSlot = some n := by
    unfold Receiver.fillingSlot
    cases n with
    | a =>
      rw [show rx.slotA = .filling start ivs from fills]
    | b =>
      rw [show rx.slotB = .filling start ivs from fills]
      cases m with
      | a =>
        rw [Receiver.slot] at rests
        cases slotA : rx.slotA with
        | filling => simp [slotA, BurstSlot.isFilling] at rests
        | free | full => rfl
      | b => exact absurd rfl other
  unfold Receiver.captured
  rw [filling]
  dsimp only
  rw [fills]
  rfl

end

/-! ### Filtered edges (07 R126 to R130) -/

section

variable {s : State} {k : IKind} {edge : Nat}

theorem State.receiverEdge_shut (shut : s.rx.state = .off ∨ s.rx.state = .blanked) : s.receiverEdge k edge = s := by
  unfold State.receiverEdge
  rcases shut with shut | shut <;> rw [shut]

theorem State.receiverEdge_quiet (quiet : s.rx.state = .quiet) :
    s.receiverEdge k edge =
      match k with
      | .mark => s.startBurst edge
      | .space => { s with rx := { s.rx with state := .discard, lastEdge := edge, burstEnd := s.burstEndDue edge } } := by
  unfold State.receiverEdge
  rw [quiet] <;> rfl

theorem State.receiverEdge_discard (discards : s.rx.state = .discard) :
    s.receiverEdge k edge =
      { s with
        rx :=
          { s.rx with
            state := .discard
            lastEdge := edge
            burstEnd :=
              match k with
              | .mark => .stopped
              | .space => s.burstEndDue edge } } := by
  have same : { s.rx with state := .discard } = s.rx := by rw [← discards]
  unfold State.receiverEdge
  rw [discards, ← same]
  cases k <;> rfl

theorem State.receiverEdge_inBurst (inBurst : s.rx.state = .inBurst) :
    s.receiverEdge k edge = (s.storeEdge k edge).afterStore k edge := by
  unfold State.receiverEdge
  rw [inBurst] <;> rfl

/-- 07 R126: a burst begins in the first FREE slot. -/
theorem State.startBurst_eq :
    s.startBurst edge =
      if s.rx.slotA = .free then
        { s with
          rx :=
            { s.rx with
              slotA := .filling edge [], state := .inBurst, lastEdge := edge, markLimit := .running (edge + 65001) } }
      else if s.rx.slotB = .free then
        { s with
          rx :=
            { s.rx with
              slotB := .filling edge [], state := .inBurst, lastEdge := edge, markLimit := .running (edge + 65001) } }
      else
        { s with
          rx := { s.rx with state := .discard, lastEdge := edge }
          link := s.link.post (.rxDropped .busy 0) } := by
  unfold State.startBurst Receiver.freeSlot
  cases slotA : s.rx.slotA with
  | free => rfl
  | filling | full => cases slotB : s.rx.slotB <;> simp [Receiver.setSlot] <;> rfl

/-- 07 R127, R128: an edge in IN_BURST, with one slot FILLING. -/
theorem State.edgeInBurst_eq {n m : SlotName} {start : Nat} {ivs : List Interval} (other : n ≠ m)
    (fills : s.rx.slot n = .filling start ivs) (rests : (s.rx.slot m).isFilling = false) {grown : List Interval}
    (grows : grown = ivs ++ [⟨k.other, edge - s.rx.lastEdge⟩]) {stored : Receiver}
    (stores : stored = { s.rx.setSlot n (.filling start grown) with lastEdge := edge }) :
    (s.storeEdge k edge).afterStore k edge =
      match k with
      | .space => { s with rx := { stored with markLimit := .stopped, burstEnd := s.burstEndDue edge } }
      | .mark =>
        if grown.length = 192 then
          { s with
            rx := { stored.setSlot n .free with state := .discard, burstEnd := .stopped, markLimit := .stopped }
            link := s.link.post (.rxDropped .overflow 192) }
        else { s with rx := { stored with burstEnd := .stopped, markLimit := .running (edge + 65001) } } := by
  have after : s.storeEdge k edge = { s with rx := stored } := by
    rw [State.storeEdge, Receiver.storeInterval_eq other fills rests, stores, grows]
  have fills' : stored.slot n = .filling start grown := by
    rw [stores]
    exact Receiver.slot_setSlot_same ..
  have rests' : (stored.slot m).isFilling = false := by
    rw [stores]
    exact (congrArg BurstSlot.isFilling (Receiver.slot_setSlot_other s.rx _ other)).trans rests
  rw [after]
  unfold State.afterStore
  cases k with
  | space => rfl
  | mark =>
    dsimp only
    have captured := Receiver.captured_eq other fills' rests'
    by_cases full : grown.length = 192
    · rw [if_pos full]
      refine (if_pos (captured.trans full)).trans ?_
      rw [State.dropBurst, Receiver.leaveBurst_eq other fills' rests']
      exact congrArg (fun c => ({ s with
        rx := { stored.setSlot n .free with state := .discard, burstEnd := .stopped, markLimit := .stopped }
        link := s.link.post (.rxDropped .overflow c) } : State)) (captured.trans full)
    · rw [if_neg full]
      exact if_neg fun c => full (captured.symm.trans c)

end

/-! ### Changes of RXIN (07 R121, R122) -/

section

variable {s : State} {high : Bool}

/-- 07 R122: no candidate is due. -/
theorem State.confirmGlitch_waits (waits : ∀ c ∈ s.rx.candidate, s.now < c.due) : s.confirmGlitch = s := by
  unfold State.confirmGlitch
  cases candidate : s.rx.candidate with
  | none => rfl
  | some c => exact if_neg (Nat.not_le.2 (waits c candidate))

theorem State.confirmGlitch_due {c : Candidate} (candidate : s.rx.candidate = some c) (due : c.due ≤ s.now) :
    s.confirmGlitch = s.filteredEdge s.rx.filtered.other c.since := by
  unfold State.confirmGlitch
  rw [candidate]
  exact if_pos due

theorem State.rxinChanges_awake (awake : s.doze.state = .awake) (moves : s.rx.lineHigh ≠ high) :
    s.rxinChanges high = (s.confirmGlitch.setRxinLine high).filterLine := by
  unfold State.rxinChanges
  rw [if_neg moves, awake]
  rfl

theorem State.lineCondition_setRxinLine (s : State) (high : Bool) :
    (s.setRxinLine high).lineCondition = if high = s.settings.rxHighActive then .mark else .space := rfl

theorem IKind.eq_other {a b : IKind} (differs : a ≠ b) : a = b.other := by
  cases a <;> cases b <;> first | rfl | exact absurd rfl differs

theorem State.filterLine_same (same : s.lineCondition = s.rx.filtered) :
    s.filterLine = { s with rx := { s.rx with candidate := none } } := if_pos same

theorem State.filterLine_edge (differs : s.lineCondition ≠ s.rx.filtered) (glitch : s.settings.rxGlitch = 0) :
    s.filterLine = s.filteredEdge s.lineCondition s.now := (if_neg differs).trans (if_pos glitch)

theorem State.filterLine_waits (differs : s.lineCondition ≠ s.rx.filtered) (glitch : s.settings.rxGlitch ≠ 0) :
    s.filterLine = { s with rx := { s.rx with candidate := some ⟨s.now, s.now + s.settings.rxGlitch⟩ } } :=
  (if_neg differs).trans (if_neg glitch)

/-- A receiver that an edge leaves QUIET or OFF was OFF. -/
theorem State.receiverEdge_state {k : IKind} {edge : Nat} (opened : s.rx.state ≠ .off) :
    (s.receiverEdge k edge).rx.state ≠ .quiet ∧ (s.receiverEdge k edge).rx.state ≠ .off := by
  cases state : s.rx.state with
  | off => exact absurd state opened
  | blanked => simp [State.receiverEdge_shut (.inr state), state]
  | discard => simp [State.receiverEdge_discard state]
  | quiet =>
    rw [State.receiverEdge_quiet state]
    cases k with
    | space => simp
    | mark =>
      dsimp only
      rw [State.startBurst_eq]
      split
      · simp
      · split <;> simp
  | inBurst =>
    rw [State.receiverEdge_inBurst state]
    cases k with
    | space => simp [State.afterStore, State.storeEdge, Receiver.storeInterval, state]
    | mark =>
      unfold State.afterStore
      dsimp only
      split
      · simp [State.dropBurst, Receiver.leaveBurst]
      · simp [State.storeEdge, Receiver.storeInterval, state]

/-- The part after a filtered edge is quiet only when it was quiet before (10 R189). -/
theorem State.filteredEdge_isQuiet {k : IKind} {edge : Nat} (quiet : (s.filteredEdge k edge).isQuiet = true) :
    s.isQuiet = true := by
  by_cases off : s.rx.state = .off
  · rw [State.filteredEdge, State.receiverEdge_shut (s := s.setFiltered k) (.inl off)] at quiet
    exact quiet
  · obtain ⟨notQuiet, notOff⟩ := State.receiverEdge_state (s := s.setFiltered k) (k := k) (edge := edge) off
    have busy : (s.filteredEdge k edge).rx.isQuiet = false := by
      simp [Receiver.isQuiet, State.filteredEdge, notQuiet, notOff]
    simp [State.isQuiet, busy] at quiet

theorem State.filterLine_isQuiet (quiet : s.filterLine.isQuiet = true) : s.isQuiet = true := by
  unfold State.filterLine at quiet
  split at quiet
  · exact quiet
  · split at quiet
    · exact State.filteredEdge_isQuiet quiet
    · exact quiet

/-- DOZE takes a value. The filter does not look at it. -/
def State.withDoze (d : Doze) (s : State) : State := { s with doze := d }

theorem State.receiverEdge_withDoze (k : IKind) (edge : Nat) (d : Doze) :
    (s.withDoze d).receiverEdge k edge = (s.receiverEdge k edge).withDoze d := by
  cases state : s.rx.state with
  | off => rw [State.receiverEdge_shut (s := s.withDoze d) (.inl state), State.receiverEdge_shut (.inl state)]
  | blanked => rw [State.receiverEdge_shut (s := s.withDoze d) (.inr state), State.receiverEdge_shut (.inr state)]
  | discard =>
    rw [State.receiverEdge_discard (s := s.withDoze d) state, State.receiverEdge_discard state]
    rfl
  | quiet =>
    rw [State.receiverEdge_quiet (s := s.withDoze d) state, State.receiverEdge_quiet state]
    cases k with
    | space => rfl
    | mark =>
      dsimp only
      rw [State.startBurst_eq, State.startBurst_eq, apply_ite (State.withDoze d), apply_ite (State.withDoze d)]
      rfl
  | inBurst =>
    rw [State.receiverEdge_inBurst (s := s.withDoze d) state, State.receiverEdge_inBurst state]
    cases k with
    | space => rfl
    | mark =>
      unfold State.afterStore
      dsimp only
      rw [apply_ite (State.withDoze d)]
      rfl

theorem State.filterLine_withDoze (d : Doze) : (s.withDoze d).filterLine = s.filterLine.withDoze d := by
  by_cases same : s.lineCondition = s.rx.filtered
  · rw [State.filterLine_same (s := s.withDoze d) same, State.filterLine_same same]
    rfl
  · by_cases glitch : s.settings.rxGlitch = 0
    · rw [State.filterLine_edge (s := s.withDoze d) same glitch, State.filterLine_edge same glitch]
      exact State.receiverEdge_withDoze (s := s.setFiltered s.lineCondition) _ _ _
    · rw [State.filterLine_waits (s := s.withDoze d) same glitch, State.filterLine_waits same glitch]
      rfl

end

/-- A doze delay timer that has been judged before is judged to the same, when the part is quiet only if it was
quiet then (10 R189). -/
theorem State.settle_again {s t : State} (awake : s.doze.state = .awake) (doze : t.doze = s.doze) (now : t.now = s.now)
    (settings : t.settings = s.settings) (quiet : t.isQuiet = true → s.isQuiet = true) :
    (t.withDoze s.settle.doze).settle = t.settle := by
  have delays : (t.withDoze s.settle.doze).delayAfter = t.delayAfter := by
    have still : (t.withDoze s.settle.doze).isQuiet = t.isQuiet := rfl
    unfold State.delayAfter
    rw [still, doze]
    simp only [State.withDoze, State.settle, awake, State.delayAfter, settings, now]
    by_cases on : s.settings.doze = true ∧ t.isQuiet = true
    · rw [if_pos on, if_pos on, if_pos ⟨on.1, quiet on.2⟩]
      cases s.doze.delay <;> rfl
    · rw [if_neg on, if_neg on]
  unfold State.settle
  rw [show (t.withDoze { s.doze with delay := s.delayAfter }).delayAfter = t.delayAfter from delays, doze]
  rfl

/-- Settles O36: changes of RXIN, and what a filtered edge does. -/
theorem receiverTakesEdges : Obligations.ReceiverTakesEdges := by
  intro s dt high runs now level
  have steps : exec (.rxinChange dt high) s = .next (State.settle ((s.advance dt).rxinChanges high)) :=
    congrArg Host.Outcome.next (if_neg (by simp [runs.1]))
  refine ⟨fun moves waits => ?_, fun c moves candidate due => ?_, fun c edge how => ?_⟩
  · rw [State.rxinChanges_awake (s := s.advance dt) runs.2 moves, State.confirmGlitch_waits (s := s.advance dt) waits] at steps
    have condition : ((s.advance dt).setRxinLine high).lineCondition = level := rfl
    refine ⟨fun same => ?_, fun differs glitch => ?_⟩
    · rw [steps, State.filterLine_same (condition.trans same)]
      rfl
    · rw [steps, State.filterLine_waits (fun same => differs (condition.symm.trans same)) glitch]
      rfl
  · let confirmed := (s.advance dt).confirmGlitch
    have still : confirmed.rx.candidate = none := by
      unfold confirmed
      rw [State.confirmGlitch_due (s := s.advance dt) candidate due]
      simp [State.filteredEdge, State.setFiltered]
    have first : exec (.glitchConfirm dt) s = .next confirmed.settle :=
      congrArg Host.Outcome.next (State.event_running runs dt _)
    have on : confirmed.settle.heldInReset = false := by
      simpa [State.settle, State.heldInReset_eq, confirmed] using runs.1
    have awake : confirmed.doze.state = .awake := by simpa [confirmed] using runs.2
    have moves' : confirmed.rx.lineHigh ≠ high := by simpa [confirmed] using moves
    have second : exec (.rxinChange 0 high) confirmed.settle =
        .next (State.settle (confirmed.settle.rxinChanges high)) := congrArg Host.Outcome.next (if_neg (by simp [on]))
    rw [State.rxinChanges_awake (s := confirmed.settle) awake moves',
      State.confirmGlitch_waits (s := confirmed.settle) (by simp [State.settle, still])] at second
    have runs2 : State.run [.glitchConfirm dt, .rxinChange 0 high] s = exec (.rxinChange 0 high) confirmed.settle := by
      rw [State.run, first]
      dsimp only
      rw [State.run, second]
      rfl
    rw [runs2, second, steps, State.rxinChanges_awake (s := s.advance dt) runs.2 moves]
    have commutes : (confirmed.settle.setRxinLine high).filterLine =
        ((confirmed.setRxinLine high).filterLine).withDoze confirmed.settle.doze :=
      State.filterLine_withDoze (s := confirmed.setRxinLine high) _
    rw [commutes]
    exact congrArg Host.Outcome.next (State.settle_again awake (by simp) (by simp) (by simp) State.filterLine_isQuiet)
  · intro kind rx ends limit becomes posts
    have edges : exec c s = .next (State.settle (State.receiverEdge kind edge { s with now := now, rx := rx })) := by
      rcases how with ⟨rfl, rfl, due, passed, candidate⟩ | ⟨rfl, moves, none, glitch, rfl, differs⟩
      · refine congrArg Host.Outcome.next ((State.event_running runs dt _).trans (congrArg State.settle ?_))
        exact State.confirmGlitch_due (s := s.advance dt) candidate passed
      · rw [steps, State.rxinChanges_awake (s := s.advance dt) runs.2 moves,
          State.confirmGlitch_waits (s := s.advance dt) (by simp [none]),
          State.filterLine_edge (s := (s.advance dt).setRxinLine high) differs glitch]
        have condition : ((s.advance dt).setRxinLine high).lineCondition = kind := IKind.eq_other differs
        rw [condition]
        rfl
    have leaves {r : Receiver} (e : State.receiverEdge kind edge { s with now := now, rx := rx } =
        { s with now := now, rx := r }) : becomes r :=
      edges.trans (congrArg (fun t => Host.Outcome.next (State.settle t)) e)
    have tells {n : Notice} {r : Receiver} (e : State.receiverEdge kind edge { s with now := now, rx := rx } =
        { s with now := now, rx := r, link := s.link.post n }) : posts n r :=
      edges.trans (congrArg (fun t => Host.Outcome.next (State.settle t)) e)
    have twice : kind.other = s.rx.filtered := by
      unfold kind
      cases s.rx.filtered <;> rfl
    clear_value kind
    cases state : s.rx.state with
    | off => exact leaves (State.receiverEdge_shut (.inl state))
    | blanked => exact leaves (State.receiverEdge_shut (.inr state))
    | discard => 
      have edge' := State.receiverEdge_discard (s := { s with now := now, rx := rx }) (k := kind) (edge := edge) state
      cases kind <;> exact leaves edge'
    | quiet =>
      have edge' := State.receiverEdge_quiet (s := { s with now := now, rx := rx }) (k := kind) (edge := edge) state
      cases kind with
      | space => exact leaves edge'
      | mark =>
        replace edge' := edge'.trans State.startBurst_eq
        dsimp only
        split
        · next free => exact leaves (edge'.trans (if_pos free))
        next taken =>
        replace edge' := edge'.trans (if_neg taken)
        split
        · next free => exact leaves (edge'.trans (if_pos free))
        · next full => exact tells (edge'.trans (if_neg full))
    | inBurst =>
      intro n m start ivs other fills rests grown stored
      have edge' := (State.receiverEdge_inBurst (s := { s with now := now, rx := rx }) (k := kind) (edge := edge)
        state).trans (State.edgeInBurst_eq (s := { s with now := now, rx := rx }) (k := kind) (edge := edge) other fills rests (grown := grown) (by rw [twice]) (stored := stored) rfl)
      cases kind with
      | space => exact leaves edge'
      | mark =>
        dsimp only
        split
        · next full => exact tells (edge'.trans (if_pos full))
        · next room => exact leaves (edge'.trans (if_neg room))

/-! ### The burst-end timer, the mark limit and the blank tail (07 R127 to R133, 08 R140 to R142) -/

section

variable {s : State} {due : Nat}

theorem State.burstEnds_inBurst (runs : s.rx.burstEnd = .running due) (passed : due ≤ s.now)
    (inBurst : s.rx.state = .inBurst) {n m : SlotName} {start : Nat} {ivs : List Interval} (other : n ≠ m)
    (fills : s.rx.slot n = .filling start ivs) (rests : (s.rx.slot m).isFilling = false) :
    s.burstEnds =
      State.matcherTake
        { s with
          rx :=
            { s.rx.setSlot n (.full start s.rx.lastEdge s.rx.nextOrder ivs) with
              state := .quiet, burstEnd := .stopped, nextOrder := s.rx.nextOrder + 1 } } := by
  unfold State.burstEnds
  rw [if_pos (by rw [runs]; exact (Timer.isDue_running _ _).2 passed), inBurst]
  dsimp only
  cases n <;> cases m <;> first | exact absurd rfl other | skip
  all_goals
    simp only [Receiver.slot] at fills rests
    simp only [Receiver.setSlot, fills, BurstSlot.completed_resting rests]
    rfl

theorem State.burstEnds_discard (runs : s.rx.burstEnd = .running due) (passed : due ≤ s.now)
    (discards : s.rx.state = .discard) :
    s.burstEnds = { s with rx := { s.rx with state := .quiet, burstEnd := .stopped } } := by
  unfold State.burstEnds
  rw [if_pos (by rw [runs]; exact (Timer.isDue_running _ _).2 passed), discards]

theorem State.markTooLong_eq (runs : s.rx.markLimit = .running due) (passed : due ≤ s.now)
    (inBurst : s.rx.state = .inBurst) {n m : SlotName} {start : Nat} {ivs : List Interval} (other : n ≠ m)
    (fills : s.rx.slot n = .filling start ivs) (rests : (s.rx.slot m).isFilling = false) :
    s.markTooLong =
      { s with
        rx := { s.rx.setSlot n .free with state := .discard, burstEnd := .stopped, markLimit := .stopped }
        link := s.link.post (.rxDropped .stuck ivs.length) } := by
  unfold State.markTooLong
  rw [if_pos ⟨by rw [runs]; exact (Timer.isDue_running _ _).2 passed, inBurst⟩, State.dropBurst,
    Receiver.leaveBurst_eq other fills rests, Receiver.captured_eq other fills rests]

theorem Receiver.unblank_eq (rx : Receiver) :
    rx.unblank =
      { rx with
        state :=
          match rx.state, rx.filtered with
          | .blanked, .space => .quiet
          | .blanked, .mark => .discard
          | other, _ => other } := by
  obtain ⟨lineHigh, filtered, candidate, state, lastEdge, burstEnd, markLimit, blankTail, slotA, slotB, order⟩ := rx
  cases state <;> cases filtered <;> rfl

theorem State.blankTailExpires_eq (runs : s.rx.blankTail = .running due) (passed : due ≤ s.now) :
    s.blankTailExpires =
      { s with
        rx :=
          { s.rx with
            blankTail := .stopped
            state :=
              match s.rx.state, s.rx.filtered with
              | .blanked, .space => .quiet
              | .blanked, .mark => .discard
              | other, _ => other } } := by
  unfold State.blankTailExpires
  rw [if_pos (by rw [runs]; exact (Timer.isDue_running _ _).2 passed), Receiver.unblank_eq]

/-! ### The Matcher takes (08 R140 to R142) -/

theorem State.matcherTakeOne_busy (busy : s.matcher ≠ none) : s.matcherTakeOne = s := by
  unfold State.matcherTakeOne
  cases matcher : s.matcher with
  | none => exact absurd matcher busy
  | some m => rfl

theorem State.matcherTake_busy (busy : s.matcher ≠ none) : s.matcherTake = s := by
  rw [State.matcherTake, State.matcherTakeOne_busy busy, State.matcherTakeOne_busy busy]

theorem State.matcherTakeOne_none (none : s.rx.oldestFull = none) : s.matcherTakeOne = s := by
  unfold State.matcherTakeOne
  rw [none]
  cases s.matcher <;> rfl

theorem Receiver.oldestFull_eq {rx : Receiver} {n m : SlotName} (other : n ≠ m) (full : (rx.slot n).isFull = true)
    (rests : (rx.slot m).isFull = false) : rx.oldestFull = some n := by
  unfold Receiver.oldestFull
  cases n <;> cases m <;> first | exact absurd rfl other | skip
  all_goals
    simp only [Receiver.slot] at full rests
    cases slotA : rx.slotA <;> cases slotB : rx.slotB <;> simp_all [BurstSlot.isFull]

theorem Receiver.oldestFull_none {rx : Receiver} {n m : SlotName} (other : n ≠ m) (restsN : (rx.slot n).isFull = false)
    (rests : (rx.slot m).isFull = false) : rx.oldestFull = none := by
  unfold Receiver.oldestFull
  cases n <;> cases m <;> first | exact absurd rfl other | skip
  all_goals
    simp only [Receiver.slot] at restsN rests
    cases slotA : rx.slotA <;> cases slotB : rx.slotB <;> simp_all [BurstSlot.isFull]

/-- 08 R140, R141, R142: an idle Matcher with one FULL slot. -/
theorem State.matcherTake_one {n m : SlotName} (idle : s.matcher = none) (other : n ≠ m)
    (full : (s.rx.slot n).isFull = true) (rests : (s.rx.slot m).isFull = false) :
    s.matcherTake =
      if s.learn.isArmed then s.divert n
      else { s with matcher := some { slot := n, untried := s.lib.listening, result := none } } := by
  have first : s.matcherTakeOne =
      if s.learn.isArmed then s.divert n
      else { s with matcher := some { slot := n, untried := s.lib.listening, result := none } } := by
    unfold State.matcherTakeOne
    rw [idle, Receiver.oldestFull_eq other full rests]
    cases s.learn <;> rfl
  rw [State.matcherTake, first]
  split
  · refine State.matcherTakeOne_none (Receiver.oldestFull_none other ?_ ?_)
    · simp [State.divert, BurstSlot.isFull]
    · exact (congrArg BurstSlot.isFull (Receiver.slot_setSlot_other s.rx _ other)).trans rests
  · exact State.matcherTakeOne_busy nofun

theorem State.matcherTake_none {n m : SlotName} (other : n ≠ m) (restsN : (s.rx.slot n).isFull = false)
    (rests : (s.rx.slot m).isFull = false) : s.matcherTake = s := by
  have none := Receiver.oldestFull_none other restsN rests
  rw [State.matcherTake, State.matcherTakeOne_none none, State.matcherTakeOne_none none]

end

/-- Settles O37: the timers of the receiver, and what an idle Matcher takes. -/
theorem receiverTimersExpire : Obligations.ReceiverTimersExpire := by
  intro s dt due runs passed now
  have burst {t : State} (e : (s.advance dt).burstEnds = t) : exec (.burstEndTimer dt) s = .next t.settle :=
    congrArg Host.Outcome.next ((State.event_running runs dt _).trans (congrArg State.settle e))
  refine ⟨fun n m start ivs other fills inBurst => ⟨fun ends => ?_, fun limit rests => ?_⟩, fun discards ends => ?_,
    fun tail => ?_⟩
  · intro done rx
    have completes (rests : (s.rx.slot m).isFilling = false) :
        (s.advance dt).burstEnds = State.matcherTake { s with now := now, rx := rx } :=
      State.burstEnds_inBurst (s := s.advance dt) ends passed inBurst other fills rests
    have full : (rx.slot n).isFull = true := congrArg BurstSlot.isFull (Receiver.slot_setSlot_same ..)
    have rest (b : BurstSlot) (free : s.rx.slot m = b) : rx.slot m = b :=
      (Receiver.slot_setSlot_other s.rx _ other).trans free
    refine ⟨fun w working rests => ?_, fun idle free armed => ?_, fun idle free armed => ?_⟩
    · exact burst ((completes rests).trans (State.matcherTake_busy (by simp [working])))
    · have takes := State.matcherTake_one (s := { s with now := now, rx := rx }) idle other full (by rw [rest _ free]; rfl)
      refine burst ((completes (by rw [free]; rfl)).trans (takes.trans ((if_pos armed).trans ?_)))
      have intervals : (rx.slot n).intervals = ivs := congrArg BurstSlot.intervals (Receiver.slot_setSlot_same ..)
      unfold State.divert
      dsimp only
      rw [intervals]
    · have takes := State.matcherTake_one (s := { s with now := now, rx := rx }) idle other full (by rw [rest _ free]; rfl)
      exact burst ((completes (by rw [free]; rfl)).trans (takes.trans (if_neg (by simp [armed]))))
  · exact congrArg Host.Outcome.next ((State.event_running runs dt _).trans (congrArg State.settle
      (State.markTooLong_eq (s := s.advance dt) limit passed inBurst other fills rests)))
  · exact burst (State.burstEnds_discard (s := s.advance dt) ends passed discards)
  · exact congrArg Host.Outcome.next ((State.event_running runs dt _).trans (congrArg State.settle
      (State.blankTailExpires_eq (s := s.advance dt) tail passed)))

end Sys2Proof.Machine
end

section
/-! PROOF. The Matcher, the Receive Tracker and the Learn Buffer (08). -/

namespace Sys2Proof.Machine

/-! ### The trials of a candidate (08 R142, R148) -/

theorem within_eq_true (tolerance expected got : Nat) :
    within tolerance expected got = true ↔ (got - expected + (expected - got)) * 100 ≤ expected * tolerance := by
  simp [within]

/-- 08 R148: a burst that the marker trial accepts, interval by interval. -/
theorem markerTrial_iff (d : Template) (burst : List Interval) :
    markerTrial d burst = true ↔
      List.Forall₂
        (fun got e => got.kind = e.kind ∧ (got.dur - e.dur + (e.dur - got.dur)) * 100 ≤ e.dur * d.tolerance)
        burst d.markerFrame := by
  rw [List.forall₂_iff_zip]
  simp only [markerTrial, Bool.and_eq_true, decide_eq_true_eq, List.all_eq_true, within_eq_true, Prod.forall]

theorem Tracker.heldOn_iff (tracker : Tracker) (t : Fin 16) :
    tracker.heldOn t = true ↔ ∃ code, tracker = .held code ∧ code.template = t := by
  cases tracker with
  | quiet => simp [Tracker.heldOn]
  | held code => simp [Tracker.heldOn]

section

variable {s : State} {burst : List Interval} {t : Fin 16} {d : Template}

theorem tryCandidate_full (isReady : s.lib.slots[t].state = .ready d) {payload : List Byte}
    (decodes : fullFrameTrial d burst = some payload) : tryCandidate s burst t = some (.fullFrame t payload) := by
  unfold tryCandidate
  rw [State.templateOf_ready isReady]
  dsimp only
  rw [decodes]

theorem tryCandidate_marker (isReady : s.lib.slots[t].state = .ready d) (fails : fullFrameTrial d burst = none) :
    tryCandidate s burst t =
      if d.repeatForm = .marker ∧ s.tracker.heldOn t ∧ markerTrial d burst then some (.marker t) else none := by
  unfold tryCandidate
  rw [State.templateOf_ready isReady]
  dsimp only
  rw [fails]

end

/-! ### The trials of a burst (08 R140, R142) -/

theorem runTrials_done {s : State} {burst : List Interval} {m : Matching} {r : MatchResult} (found : m.result = some r)
    (n : Nat) : runTrials s burst n m = m := by
  cases n with
  | zero => rfl
  | succ n =>
    unfold runTrials
    rw [found]

theorem runTrials_untried (s : State) (burst : List Interval) (n : Nat) (m : Matching) :
    ∀ t ∈ (runTrials s burst n m).untried, t ∈ m.untried := by
  induction n generalizing m with
  | zero => exact fun t mem => mem
  | succ n ih =>
    unfold runTrials
    split
    · next first rest result untried =>
      rw [untried]
      exact fun t mem => List.mem_cons_of_mem _ (ih _ t mem)
    · exact fun t mem => mem

/-- 08 R142: the result once every remaining trial has been made: the one found, or the first that matches. -/
theorem runTrials_result (s : State) (burst : List Interval) (m : Matching) :
    (runTrials s burst m.untried.length m).result =
      match m.result with
      | some r => some r
      | none => m.untried.findSome? (tryCandidate s burst) := by
  cases found : m.result with
  | some r => rw [runTrials_done found, found]
  | none =>
    obtain ⟨slot, untried, result⟩ := m
    obtain rfl : result = none := found
    dsimp only
    induction untried with
    | nil => rfl
    | cons t rest ih =>
      rw [List.length_cons, runTrials]
      dsimp only
      rw [List.findSome?_cons]
      cases tried : tryCandidate s burst t with
      | some r => rw [runTrials_done (r := r) rfl]
      | none => exact ih

/-! ### The matching end (08 R140, R149 to R154) -/

theorem State.receivedToggle_eq (s : State) (t : Fin 16) (payload : List Byte) :
    s.receivedToggle t payload = (s.lib.slots[t].state.usable.bind Template.toggle).map (payloadBit payload) := by
  unfold State.receivedToggle State.templateOf
  rw [Option.map_bind]
  rfl

/-- 08 R150: what a session begins with. -/
theorem State.beginSession_eq (s : State) (t : Fin 16) (payload : List Byte) (burstEnd : Nat) :
    s.beginSession t payload burstEnd =
      { s with
        tracker := .held
          { template := t, payload := payload
            toggle := (s.lib.slots[t].state.usable.bind Template.toggle).map (payloadBit payload)
            repeats := 0, deadline := burstEnd + s.settings.rxWindow * 1000 }
        link :=
          s.link.post
            (.rxCode t ((s.lib.slots[t].state.usable.bind Template.toggle).map (payloadBit payload)) payload) } := by
  unfold State.beginSession
  rw [State.receivedToggle_eq]
  rfl

section

variable {s : State} {t : Fin 16} {code : Tracked}

theorem State.trackFull_quiet (quiet : s.tracker = .quiet) (payload : List Byte) (burstEnd : Nat) :
    s.trackFull t payload burstEnd = s.beginSession t payload burstEnd := by
  unfold State.trackFull
  rw [quiet]

theorem State.trackFull_held (held : s.tracker = .held code) (payload : List Byte) (burstEnd : Nat) :
    s.trackFull t payload burstEnd =
      if code.template = t ∧ code.payload = payload then s.countRepeat code .fullFrame burstEnd
      else (s.endSession code .changed).beginSession t payload burstEnd := by
  unfold State.trackFull
  rw [held]

theorem State.trackMarker_quiet (quiet : s.tracker = .quiet) (burst : List Interval) (burstEnd : Nat) :
    s.trackMarker t burst burstEnd = s.reportUnknown burst := by
  unfold State.trackMarker
  rw [quiet]

theorem State.trackMarker_held (held : s.tracker = .held code) (burst : List Interval) (burstEnd : Nat) :
    s.trackMarker t burst burstEnd =
      if code.template = t then s.countRepeat code .markerFrame burstEnd else s.reportUnknown burst := by
  unfold State.trackMarker
  rw [held]

end

/-- 08 R140 to R142: the burst slot becomes FREE, and a FULL slot that waits is taken. -/
theorem State.freeBurst_take {s : State} {n b : SlotName} (other : n ≠ b) :
    (s.freeBurst b).matcherTake =
      if (s.rx.slot n).isFull = true ∧ s.learn.isArmed = true then
        { s with
          rx := (s.rx.setSlot b .free).setSlot n .free
          matcher := none
          learn := .filled (s.rx.slot n).intervals
          link := s.link.post (.learnDone (s.rx.slot n).intervals.length (total (s.rx.slot n).intervals)) }
      else
        { s with
          rx := s.rx.setSlot b .free
          matcher :=
            if (s.rx.slot n).isFull then some { slot := n, untried := s.lib.listening, result := none } else none } := by
  have waits : (s.freeBurst b).rx.slot n = s.rx.slot n := Receiver.slot_setSlot_other s.rx _ other.symm
  have freed : ((s.freeBurst b).rx.slot b).isFull = false :=
    congrArg BurstSlot.isFull (Receiver.slot_setSlot_same ..)
  by_cases full : (s.rx.slot n).isFull = true
  · rw [State.matcherTake_one rfl other (by rw [waits, full]) freed]
    by_cases armed : s.learn.isArmed = true
    · rw [if_pos (show (s.freeBurst b).learn.isArmed = true from armed), if_pos ⟨full, armed⟩, State.divert, waits]
      rfl
    · rw [if_neg (show ¬(s.freeBurst b).learn.isArmed = true from armed), if_neg fun h => armed h.2, if_pos full]
      rfl
  · rw [State.matcherTake_none other (by rw [waits]; simpa using full) freed, if_neg fun h => full h.1, if_neg full]
    rfl

/-- Settles O38: the trials of a candidate, and the matching end. -/
theorem matchingEndDelivers : Obligations.MatchingEndDelivers := by
  constructor
  · intro s burst t d isReady marks counts
    refine ⟨fun payload decodes => tryCandidate_full isReady decodes, fun fails => ?_⟩
    have tries := tryCandidate_marker isReady fails
    have same : (d.repeatForm = .marker ∧ s.tracker.heldOn t ∧ markerTrial d burst) ↔ counts := by
      rw [markerTrial_iff, Tracker.heldOn_iff]
    exact ⟨fun yes => tries.trans (if_pos (same.2 yes)), fun no => tries.trans (if_neg fun h => no (same.1 h))⟩
  · intro s dt m n runs matcher other burst deadline winner becomes unmatched repeated begun
    have ends : (s.advance dt).matchingEnds =
        (((s.advance dt).applyMatch burst (s.rx.slot m.slot).endTime winner).freeBurst m.slot).matcherTake := by
      unfold State.matchingEnds
      rw [show (s.advance dt).matcher = some m from matcher]
      dsimp only
      rw [State.deliver, runTrials_result]
      rfl
    have delivers {T : Tracker} {L : Link} (applies :
        (s.advance dt).applyMatch burst (s.rx.slot m.slot).endTime winner =
          { s.advance dt with tracker := T, link := L }) : becomes T L := by
      refine congrArg Host.Outcome.next ((State.event_running runs dt _).trans (congrArg State.settle ?_))
      rw [ends, applies, State.freeBurst_take (n := n) other]
      rfl
    have unknown (e : (s.advance dt).applyMatch burst (s.rx.slot m.slot).endTime winner =
        (s.advance dt).reportUnknown burst) : unmatched := delivers e
    have begins {t : Fin 16} {payload : List Byte} (e : (s.advance dt).applyMatch burst (s.rx.slot m.slot).endTime winner =
        (s.advance dt).beginSession t payload (s.rx.slot m.slot).endTime) : begun t payload s.link :=
      delivers (e.trans (State.beginSession_eq ..))
    clear_value winner
    cases winner with
    | none => exact unknown rfl
    | some result =>
      cases result with
      | marker t =>
        cases tracker : s.tracker with
        | quiet => exact unknown (State.trackMarker_quiet (s := s.advance dt) tracker ..)
        | held code =>
          have tracks := State.trackMarker_held (s := s.advance dt) (t := t) tracker burst (s.rx.slot m.slot).endTime
          dsimp only
          split
          · next same => exact delivers (tracks.trans (if_pos same))
          · next differs => exact unknown (tracks.trans (if_neg differs))
      | fullFrame t payload =>
        cases tracker : s.tracker with
        | quiet => exact begins (State.trackFull_quiet (s := s.advance dt) tracker ..)
        | held code =>
          have tracks := State.trackFull_held (s := s.advance dt) (t := t) tracker payload (s.rx.slot m.slot).endTime
          dsimp only
          split
          · next same => exact delivers (tracks.trans (if_pos same))
          · next differs => exact delivers ((tracks.trans (if_neg differs)).trans (State.beginSession_eq ..))

/-! ### The window deadline and the Learn Buffer (08 R152, R157 to R159) -/

/-- 08 R143, R152: a session whose window deadline has passed. -/
theorem State.windowExpires_eq {s : State} {code : Tracked} (held : s.tracker = .held code) (passed : code.deadline ≤ s.now) :
    s.windowExpires = s.matcherReached.endSession code .timeout := by
  unfold State.windowExpires
  rw [held]
  exact if_pos passed

theorem State.matcherReached_none {s : State} (idle : s.matcher = none) : s.matcherReached = s := by
  unfold State.matcherReached
  rw [idle]

theorem State.matcherReached_some {s : State} {m : Matching} (working : s.matcher = some m) :
    s.matcherReached =
      { s with
        matcher := some (runTrials s (s.rx.slot m.slot).intervals (Config.matcherPace s.freeUses) m)
        freeUses := s.freeUses + 1 } := by
  unfold State.matcherReached
  rw [working]

theorem State.learnExpires_eq {s : State} {expiry : Nat} (armed : s.learn = .armed expiry) (passed : expiry ≤ s.now) :
    s.learnExpires = { s with learn := .idle, link := s.link.post .learnExpired } := by
  unfold State.learnExpires
  rw [armed]
  exact if_pos passed

theorem State.learnArm_eq (s : State) (timeout : Nat) :
    s.learnArm timeout =
      if timeout < 1 ∨ 30 < timeout then (s, .status .badValue)
      else if s.learn.isArmed then (s, .status .learnBusy)
      else ({ s with learn := .armed (s.now + timeout * 1000000) }, .status .ok) := by
  unfold State.learnArm
  cases s.learn <;> rfl

theorem State.learnRead_eq (s : State) (offset : Nat) :
    s.learnRead offset =
      (s,
        if 190 < offset then .status .badValue
        else
          match s.learn with
          | .idle | .armed _ => .status .notFilled
          | .filled ivs =>
            if offset < ivs.length then .learnData ivs.length offset ((ivs.drop offset).take 24)
            else .status .badValue) := by
  unfold State.learnRead
  split
  · rfl
  · cases s.learn with
    | idle | armed => rfl
    | filled ivs => dsimp only; split <;> rfl

/-- Settles O39: the window and learn timers, and the three learn requests. -/
theorem trackerAndLearnBuffer : Obligations.TrackerAndLearnBuffer := by
  intro s dt tag b runs
  refine ⟨fun code held passed => ?_, fun expiry armed passed => ?_, fun ready misses => ?_, fun ready misses => ?_,
    fun ready misses => ?_⟩
  · have steps : exec (.rxWindowExpiry dt) s = .next (State.settle ((s.advance dt).matcherReached.endSession code .timeout)) :=
      congrArg Host.Outcome.next ((State.event_running runs dt _).trans
        (congrArg State.settle (State.windowExpires_eq (s := s.advance dt) held passed)))
    refine ⟨fun idle => ?_, fun m working => ?_⟩
    · rw [steps, State.matcherReached_none (s := s.advance dt) idle]
      rfl
    · rw [steps, State.matcherReached_some (s := s.advance dt) working]
      exact ⟨_, rfl, runTrials_slot .., runTrials_untried _ _ _ _, fun r found => runTrials_done found _⟩
  · exact congrArg Host.Outcome.next ((State.event_running runs dt _).trans
      (congrArg State.settle (State.learnExpires_eq (s := s.advance dt) armed passed)))
  · have arms := State.learnArm_eq (s.received dt) b.toNat
    have answers {t : State} {body : ReplyBody} (e : (s.received dt).learnArm b.toNat = (t, body)) :
        exec (.learnArm dt tag b) s = .next { t with link := t.link.afterRequest ⟨0x30#8, tag, [b]⟩ body } :=
      exec_handled (k := .learnArm) rfl ready misses nofun (by simp) rfl e
    split
    · next bad => exact answers (arms.trans (if_pos bad))
    next good =>
    replace arms := arms.trans (if_neg good)
    split
    · next busy => exact answers (arms.trans (if_pos busy))
    · next free => exact answers (arms.trans (if_neg free))
  · have handled := exec_handled (c := .learnCancel dt tag) (k := .learnCancel) rfl ready misses nofun
      (by simp) rfl rfl
    refine handled.trans (congrArg (fun code => Host.Outcome.next
      { s.answered dt ⟨0x31#8, tag, []⟩ (.learnWas code) with learn := .idle }) ?_)
    change s.learn.code = _
    cases s.learn <;> rfl
  · exact exec_handled (k := .learnRead) rfl ready misses nofun (by simp) rfl (State.learnRead_eq ..)

end Sys2Proof.Machine
end

section
/-! PROOF. The requests that no block sees (09 R167), SET and GET (09 R176). -/

namespace Sys2Proof.Machine

/-! ### Requests that reach no block (09 R167 steps 2 and 3) -/

theorem RequestKind.code_inUse (k : RequestKind) : k.code ∈ kindsInUse := by
  cases k <;> decide

theorem RequestKind.ofByte_unused {kind : Byte} (unused : kind ∉ kindsInUse) : RequestKind.ofByte kind = none := by
  refine List.find?_eq_none.2 fun k _ named => unused ?_
  rw [← of_decide_eq_true named]
  exact k.code_inUse

theorem State.carryOut_unknown {kind : Byte} (unused : kind ∉ kindsInUse) (tag : Byte) (payload : List Byte)
    (s : State) : s.carryOut ⟨kind, tag, payload⟩ = (s, .status .unknownKind) := by
  simp [State.carryOut, RequestKind.ofByte_unused unused]

/-- Settles O41: a request of an unknown kind or of a wrong length reaches no block. -/
theorem badRequestsReachNoBlock : Obligations.BadRequestsReachNoBlock := by
  intro s dt tag payload ready fits
  refine ⟨fun kind request unused misses => ?_, fun k notRestart refused misses => ?_⟩
  · have notRestart : kind ≠ RequestKind.restart.code := fun same =>
      unused (same ▸ RequestKind.restart.code_inUse)
    exact congrArg Host.Outcome.next
      ((State.receive_ready ready (decide_eq_true request) fits misses).trans
        (State.answered_of_carryOut notRestart (State.carryOut_unknown unused tag payload _)))
  · have kinds : k.code ≠ RequestKind.restart.code := by
      cases k <;> first | exact absurd rfl notRestart | decide
    exact congrArg Host.Outcome.next
      (State.receive_answered ready kinds fits misses (State.carryOut_badLength tag _ refused))

/-! ### The value of a SET (11 R192) -/

theorem word32_u32 (v : BitVec 32) :
    word32 (u8 v.toNat) (u8 (v.toNat / 256)) (u8 (v.toNat / 65536)) (u8 (v.toNat / 16777216)) = v.toNat := by
  have small := v.isLt
  simp only [word32, u8, BitVec.toNat_ofNat]
  omega

/-! ### The refusals of a SET -/

theorem State.lineBlocked_eq (s : State) (i : SettingId) (v : Nat) :
    s.lineBlocked i v = true ↔
      s.settings.get i ≠ v
        ∧ ∃ e : Fin 3, i = [SettingId.lineE0, .lineE1, .lineE2][e]
          ∧ ∃ j ∈ s.liveJobs, names j.spec.mask e = true := by
  have lines (e : Fin 3) : i.emitter = some e ↔ i = [SettingId.lineE0, .lineE1, .lineE2][e] := by
    fin_cases e <;> cases i <;> decide
  have named : (∃ e : Fin 3, i = [SettingId.lineE0, .lineE1, .lineE2][e]
      ∧ ∃ j ∈ s.liveJobs, names j.spec.mask e = true) ↔ ∃ e, i.emitter = some e ∧ s.lineInUse e = true :=
    exists_congr fun e => and_congr (lines e).symm List.any_eq_true.symm
  rw [named]
  unfold State.lineBlocked
  cases i.emitter <;> simp

/-! ### What a changed value does (06 R105, 07 R132 to R135) -/

theorem State.putSetting_same {s : State} {i : SettingId} {v : Nat} (same : s.settings.get i = v) :
    s.putSetting i v = s := if_pos same

theorem State.putSetting_changed {s : State} {i : SettingId} {v : Nat} (changed : s.settings.get i ≠ v) :
    s.putSetting i v = { s with settings := s.settings.put i v }.settingActs i s.settings.keyEnable :=
  if_neg changed

theorem KeyRec.enableChanged_eq (r : KeyRec) (enabled high : Bool) :
    r.enableChanged enabled high =
      { r with expiry := .stopped, state := if enabled = true ∧ high = false then .locked else .up } := by
  cases enabled <;> cases high <;> rfl

theorem State.polarityChanged_eq (s : State) :
    s.polarityChanged =
      if s.rx.state = .off ∨ s.rx.state = .blanked then s.readLine
      else
        { s with
          rx :=
            { s.rx.leaveBurst .discard with
              filtered := s.lineCondition, candidate := none, lastEdge := s.now
              burstEnd := if s.lineCondition = .space then s.burstEndDue s.now else .stopped } } := by
  have read : s.readLine.rx.state = s.rx.state := rfl
  unfold State.polarityChanged State.discardAfresh
  rw [read]
  cases s.rx.state with
  | off | blanked => rfl
  | quiet | inBurst | discard =>
    dsimp only [State.readLine]
    cases s.lineCondition <;> rfl

theorem Receiver.unblank_ite (rx : Receiver) :
    rx.unblank =
      if rx.state = .blanked then { rx with state := if rx.filtered = .space then .quiet else .discard }
      else rx := by
  obtain ⟨lineHigh, filtered, candidate, state⟩ := rx
  cases state <;> cases filtered <;> rfl

theorem State.blankChanged_eq (s : State) :
    s.blankChanged =
      { s with
        rx :=
          if s.settings.rxBlank then
            (if s.blankingHolds = true ∧ s.rx.state ≠ .off then s.rx.leaveBurst .blanked else s.rx)
          else if s.rx.state = .blanked then
            { s.rx with state := if s.rx.filtered = .space then .quiet else .discard }
          else s.rx } := by
  unfold State.blankChanged
  split
  · rw [Receiver.blank_eq]
    by_cases blanks : s.blankingHolds = true <;> by_cases off : s.rx.state = .off <;> simp [blanks, off]
  · rw [Receiver.unblank_ite]

/-! ### The Supply Watch compares (10 R183, R186) -/

theorem State.compareSupply_same {s : State}
    (same : supplyAfter s.supply.vdd s.settings.supplyThreshold s.supply.low = s.supply.low) :
    s.compareSupply = s := if_pos same

theorem State.compareSupply_toOk {s : State} (low : s.supply.low = true)
    (above : s.settings.supplyThreshold * 100 + 100 < s.supply.vdd) :
    s.compareSupply = s.supplyBecomes false := by
  unfold State.compareSupply supplyAfter
  rw [if_neg (c := s.supply.vdd < _) (by omega), if_pos above, if_neg (by simp [low]), if_pos low]

theorem State.compareSupply_toLow {s : State} (ok : s.supply.low = false)
    (below : s.supply.vdd < s.settings.supplyThreshold * 100) :
    s.compareSupply = (s.supplyBecomes true).abandonSave := by
  unfold State.compareSupply supplyAfter
  rw [if_pos below, if_neg (by simp [ok]), if_neg (by simp [ok])]

theorem State.abandonSave_notWriting {s : State} (rests : s.isWriting = false) : s.abandonSave = s := by
  unfold State.abandonSave
  unfold State.isWriting at rests
  cases op : s.store.op with
  | writing => simp [op] at rests
  | idle | wiping => rfl

/-- A comparison that abandons no save (10 R186). -/
theorem State.compareSupply_notWriting {s : State} (rests : s.isWriting = false) :
    s.compareSupply =
      if supplyAfter s.supply.vdd s.settings.supplyThreshold s.supply.low = s.supply.low then s
      else s.supplyBecomes (supplyAfter s.supply.vdd s.settings.supplyThreshold s.supply.low) := by
  split
  · next same => exact State.compareSupply_same same
  · next changes =>
    cases was : s.supply.low with
    | true =>
      rw [was, Bool.not_eq_true] at changes
      rw [changes]
      exact (if_neg (by simp [was, changes])).trans (if_pos was)
    | false =>
      rw [was, Bool.not_eq_false] at changes
      rw [changes, ← State.abandonSave_notWriting (s := s.supplyBecomes true) rests]
      exact (if_neg (by simp [was, changes])).trans (if_neg (by simp [was]))

/-! ### SET and GET -/

/-- Settles O42: SET: its refusals in order and the effect of a changed value; GET. -/
theorem setActsAtOnce : Obligations.SetActsAtOnce := by
  refine ⟨fun s dt tag id v ready misses => ?_, fun s dt tag id ready misses => ?_,
    fun c i j v range => ?_⟩
  · have handles : (s.received dt).handleSet (id :: u32 v.toNat) = (s.received dt).setSetting id v.toNat :=
      congrArg (State.setSetting id · (s.received dt)) (word32_u32 v)
    have answers {t : State} {body : ReplyBody} (e : (s.received dt).setSetting id v.toNat = (t, body)) :
        exec (.set dt tag id v) s =
          .next { t with link := t.link.afterRequest ⟨0x03#8, tag, id :: u32 v.toNat⟩ body } :=
      exec_handled (k := .set) rfl ready misses nofun (by simp [u32]) rfl (handles.trans e)
    unfold State.setSetting at answers
    dsimp only
    cases named : SettingId.ofByte id with
    | none => exact answers (by rw [named])
    | some i =>
      rw [named] at answers
      dsimp only at answers ⊢
      split
      · next bad => exact answers (if_pos (by rw [bad]; rfl))
      next range =>
      rw [if_neg (by simp [range])] at answers
      split
      · next writes => exact answers (if_pos writes)
      next rests =>
      rw [if_neg (show ¬ (s.received dt).isWriting = true from rests)] at answers
      have blocked := (s.received dt).lineBlocked_eq i v.toNat
      split
      · next same =>
        rw [if_neg (fun blocks => (blocked.1 blocks).1 same), State.putSetting_same (s := s.received dt) same]
          at answers
        exact answers rfl
      next changed =>
      split
      · next inUse => exact answers (if_pos (blocked.2 ⟨changed, inUse⟩))
      next free =>
      rw [if_neg (fun blocks => free (blocked.1 blocks).2), State.putSetting_changed (s := s.received dt) changed]
        at answers
      cases i with
      | keyEnable =>
        simp only [State.settingActs, State.enableChanged, KeyRec.enableChanged_eq] at answers
        exact answers rfl
      | rxEnable =>
        dsimp only
        split
        · next on => exact answers (congrArg (·, _) (if_pos on))
        · next off => exact answers (congrArg (·, _) (if_neg off))
      | rxPolarity =>
        have changes := State.polarityChanged_eq
          { s.received dt with settings := s.settings.put .rxPolarity v.toNat }
        dsimp only
        split
        · next keeps => exact answers (congrArg (·, _) (changes.trans (if_pos keeps)))
        · next listens => exact answers (congrArg (·, _) (changes.trans (if_neg listens)))
      | rxBlank => exact answers (congrArg (·, _) (State.blankChanged_eq _))
      | supplyThreshold =>
        have compares := State.compareSupply_notWriting
          (s := { s.received dt with settings := s.settings.put .supplyThreshold v.toNat })
          (Bool.not_eq_true _ ▸ rests)
        change _ = Host.Outcome.next
          (if supplyAfter s.supply.vdd v.toNat s.supply.low = s.supply.low then _ else _)
        split
        · next same => exact answers (congrArg (·, _) (compares.trans (if_pos same)))
        · next turns =>
          have posts := Link.post_hunting
            (.supply (supplyAfter s.supply.vdd v.toNat s.supply.low) v.toNat) s.link
          refine (answers (congrArg (·, _) (compares.trans (if_neg turns)))).trans ?_
          exact congrArg (fun link => Host.Outcome.next
            { s.answered dt ⟨0x03#8, tag, id :: u32 v.toNat⟩ (.status .ok) with
              settings := s.settings.put .supplyThreshold v.toNat
              supply := { s.supply with low := supplyAfter s.supply.vdd v.toNat s.supply.low }
              link := Link.afterRequest link ⟨0x03#8, tag, id :: u32 v.toNat⟩ (.status .ok) }) posts
      | _ => exact answers rfl
  · refine exec_refused (c := .get dt tag id) (k := .get) rfl ready misses nofun (by simp) rfl ?_
    show State.getSetting id _ = _
    unfold State.getSetting
    cases SettingId.ofByte id <;> rfl
  · split
    · next same =>
      subst same
      exact c.get_put_self range
    · next other => exact c.get_put_other other v

end Sys2Proof.Machine
end

section
/-! PROOF. The five status requests (10 R185, 01 R21, 04 R76, 06 R117, 07 R137). -/

namespace Sys2Proof.Machine

/-! ### Entries of one length each -/

section

variable {α β : Type} {f : α → List β} {width : Nat}

theorem length_flatMap_uniform (widths : ∀ a, (f a).length = width) (l : List α) :
    (l.flatMap f).length = width * l.length := by
  induction l with
  | nil => rfl
  | cons a l ih => rw [List.flatMap_cons, List.length_append, widths, ih, List.length_cons, Nat.mul_succ, Nat.add_comm]

/-- The entry `i` of a list of entries of one length stands at `i` times that length. -/
theorem flatMap_slice (widths : ∀ a, (f a).length = width) {l : List α} {i : Nat} (inside : i < l.length)
    (rest : List β) : ((l.flatMap f ++ rest).drop (width * i)).take width = f l[i] := by
  induction l generalizing i with
  | nil => exact absurd inside (Nat.not_lt_zero i)
  | cons a l ih =>
    cases i with
    | zero => simp [List.flatMap_cons, ← widths a]
    | succ i =>
      have skips : width * (i + 1) = (f a).length + width * i := by rw [widths, Nat.mul_succ, Nat.add_comm]
      rw [List.flatMap_cons, List.append_assoc, skips, List.drop_length_add_append]
      exact ih (Nat.lt_of_succ_lt_succ inside)

end

/-! ### TPL_STATUS (01 R21) -/

theorem State.slotBytes_length (s : State) (t : Fin 16) : (s.slotBytes t).length = 3 := rfl

theorem State.draftBytes_length (s : State) : s.draftBytes.length = 6 := by
  unfold State.draftBytes
  cases s.lib.draft <;> rfl

theorem State.slots_length (s : State) : ((List.finRange 16).flatMap s.slotBytes).length = 48 :=
  length_flatMap_uniform s.slotBytes_length _

theorem State.tplStatus_slot (s : State) (t : Fin 16) :
    (s.tplStatus.drop (3 * t.val)).take 3 = s.slotBytes t := by
  have slice := flatMap_slice s.slotBytes_length (l := List.finRange 16) (i := t.val) (by simp) s.draftBytes
  rwa [List.getElem_finRange] at slice

theorem State.tplStatus_draft (s : State) : s.tplStatus.drop 48 = s.draftBytes :=
  List.drop_left' s.slots_length

/-- The sections in the order of their bits in the put set (11 section 11.5). -/
theorem Part.bit_eq_iff (p : Part) (i : Nat) :
    p.bit = i ↔
      ([.carrier, .lead, .symbol 0, .symbol 1, .symbol 2, .symbol 3, .format, .trailer, .repetition, .spacing,
        .receive] : List Part)[i]? = some p := by
  constructor
  · rintro rfl
    cases p with
    | symbol n => fin_cases n <;> rfl
    | _ => rfl
  · intro named
    have inside := (List.getElem?_eq_some_iff.1 named).1
    simp only [List.length_cons, List.length_nil] at inside
    interval_cases i <;> cases named <;> rfl

theorem putMask_bits (put : List Part) {i : Nat} (small : i < 16) :
    (BitVec.ofNat 16 (putMask put)).getLsbD i = true ↔
      ∃ p ∈ ([.carrier, .lead, .symbol 0, .symbol 1, .symbol 2, .symbol 3, .format, .trailer, .repetition,
        .spacing, .receive] : List Part)[i]?, p ∈ put := by
  simp only [BitVec.getLsbD_ofNat, small, decide_true, Bool.true_and, putMask_testBit, List.any_eq_true,
    decide_eq_true_eq, Part.bit_eq_iff, Option.mem_def]
  exact exists_congr fun p => and_comm

theorem u16_eq_setWidth (n : Nat) :
    u16 n = [(BitVec.ofNat 16 n).setWidth 8, (BitVec.ofNat 16 n >>> 8).setWidth 8] := by
  have low : u8 n = (BitVec.ofNat 16 n).setWidth 8 := by
    apply BitVec.eq_of_toNat_eq
    simp only [u8, BitVec.toNat_ofNat, BitVec.toNat_setWidth]
    omega
  have high : u8 (n / 256) = (BitVec.ofNat 16 n >>> 8).setWidth 8 := by
    apply BitVec.eq_of_toNat_eq
    simp only [u8, BitVec.toNat_ofNat, BitVec.toNat_setWidth, BitVec.toNat_ushiftRight, Nat.shiftRight_eq_div_pow]
    omega
  rw [u16, low, high]

theorem Draft.seconds_running {d : Draft} {due : Nat} (runs : d.expiry = .running due) (now : Nat) :
    d.seconds now = max 1 ((due - now + 999999) / 1000000) := by
  unfold Draft.seconds ceilDiv
  rw [runs, Timer.left, Nat.add_sub_assoc (by omega)]

/-! ### QUEUE_STATUS (04 R76) -/

theorem Job.summary_length (j : Job) : j.summary.length = 5 := rfl

theorem State.queueStatus_length (s : State) : s.queueStatus.length + 1 = 10 + 5 * s.queue.jobs.length := by
  have jobs := length_flatMap_uniform Job.summary_length s.queue.jobs
  unfold State.queueStatus
  cases s.engine.current <;> simp [jobs, Job.summary_length] <;> omega

/-! ### KEY_STATUS (06 R117) -/

theorem State.keyBytes_length (s : State) (k : Fin 8) : (s.keyBytes k).length = 4 := rfl

theorem State.keyStatus_key (s : State) (k : Fin 8) : (s.keyStatus.drop (4 * k.val)).take 4 = s.keyBytes k := by
  have slice := flatMap_slice s.keyBytes_length (l := List.finRange 8) (i := k.val) (by simp) []
  rwa [List.getElem_finRange, List.append_nil] at slice

/-! ### STORE_STATUS (10 R185) -/

theorem Bank.bytes_length (b : Bank) : b.bytes.length = 5 := by
  cases b <;> rfl

theorem StoreOp.bytes_length (op : StoreOp) (now : Nat) : (op.bytes now).length = 7 := by
  cases op <;> rfl

theorem State.storeStatus_length (s : State) : s.storeStatus.length + 1 = 19 := by
  simp [State.storeStatus, Bank.bytes_length, StoreOp.bytes_length]

/-! ### RX_STATUS (07 R137) -/

theorem State.rxStatus_length (s : State) : s.rxStatus.length + 1 = 16 := by
  have tracker : s.tracker.bytes.length = 4 := by cases s.tracker <;> rfl
  have learn : s.learn.bytes.length = 2 := by cases s.learn <;> rfl
  simp [State.rxStatus, State.slotStatus, tracker, learn]

/-- Settles O43: the five status requests are answered in every state and change nothing but the link. -/
theorem statusRequestsChangeNothing : Obligations.StatusRequestsChangeNothing := by
  intro s dt tag ready at' yes summary slot bank name left
  have summaries : Job.summary = summary := by
    funext j
    refine congrArg₂ List.cons rfl
      (congrArg₂ List.cons ?_ (congrArg₂ List.cons ?_ (congrArg₂ List.cons ?_ rfl)))
    · cases j.source <;> cases j.spec.cls <;> rfl
    · cases j.state <;> obtain _ | ⟨_ | _ | _⟩ := j.endPending <;> rfl
    · cases j.spec.length <;> rfl
  refine ⟨fun misses => exec_refused (k := .storeStatus) rfl ready misses nofun (by simp) rfl rfl,
    fun misses => exec_refused (k := .tplStatus) rfl ready misses nofun (by simp) rfl rfl,
    fun misses => exec_refused (k := .queueStatus) rfl ready misses nofun (by simp) rfl rfl,
    fun misses => exec_refused (k := .keyStatus) rfl ready misses nofun (by simp) rfl rfl,
    fun misses => exec_refused (k := .rxStatus) rfl ready misses nofun (by simp) rfl rfl,
    at'.storeStatus_length, ?_, s.queueStatus_length, ?_, s.rxStatus_length, fun t => ?_, fun noDraft => ?_,
    fun d due draft runs => ?_, fun k => ?_, ?_, ?_, ?_⟩
  · rw [State.tplStatus, List.length_append, State.slots_length, State.draftBytes_length]
  · rw [State.keyStatus, length_flatMap_uniform s.keyBytes_length, List.length_finRange]
  · refine (at'.tplStatus_slot t).trans ?_
    change [s.lib.slots[t].state.code, _, _] = _
    cases s.lib.slots[t].state <;> rfl
  · rw [at'.tplStatus_draft, State.draftBytes, show at'.lib.draft = none from noDraft]
  · refine ⟨BitVec.ofNat 16 (putMask d.put), ?_, fun i small => putMask_bits d.put small⟩
    rw [at'.tplStatus_draft, State.draftBytes, show at'.lib.draft = some d from draft]
    dsimp only
    rw [u16_eq_setWidth, Draft.seconds_running runs]
    cases d.mode <;> rfl
  · refine (s.keyStatus_key k).trans ?_
    unfold State.keyBytes State.keyEnabled State.keyHigh
    refine congrArg₂ List.cons (congrArg u8 ?_) (congrArg₂ List.cons ?_ (congrArg₂ List.cons ?_ rfl))
    · cases s.settings.keyEnable.getLsbD k.val <;> cases s.kLines.getLsbD k.val
        <;> cases s.keys[k].binding <;> rfl
    · cases s.keys[k].state <;> rfl
    · cases s.keys[k].binding <;> rfl
  · unfold State.queueStatus
    rw [summaries]
    cases s.engine.state <;> cases s.engine.current <;> rfl
  · have slots : s.slotStatus = slot := by
      funext n
      refine congrArg₂ List.cons ?_ (congrArg₂ List.cons rfl (congrArg₂ List.cons (congrArg flagByte ?_) rfl))
      · cases s.rx.slot n <;> rfl
      · unfold State.matcherOn
        cases s.matcher <;> rfl
    unfold State.rxStatus
    rw [slots]
    cases s.rx.state <;> cases s.rx.filtered <;> cases s.tracker <;> cases s.learn <;> rfl
  · have banks : Bank.bytes = bank := by
      funext b
      cases b <;> rfl
    have rounds (done : Nat) : u16 (msUntil at'.now done) = left done := by
      rw [msUntil, ceilDiv, Nat.add_sub_assoc (by omega)]
      rfl
    have names : BankName.code = name := by
      funext n
      cases n <;> rfl
    unfold State.storeStatus
    rw [banks]
    change (s.store.op.code :: bank s.store.bankA ++ bank s.store.bankB ++ s.store.op.bytes at'.now) = _
    cases s.store.op with
    | idle => rfl
    | writing target gen done img =>
      rw [StoreOp.bytes, rounds, names] <;> rfl
    | wiping target done second =>
      rw [StoreOp.bytes, rounds, names] <;> rfl

end Sys2Proof.Machine
end

section
/-! PROOF. Whole link frames and the reply cache (09 R164 to R168). -/

namespace Sys2Proof.Machine

/-! ### The handler stands (09 R167) -/

theorem State.takeRequest_stands {s : State} (stands : s.link.handler = .restarting ∨ 2 ≤ s.link.replies.length) :
    s.takeRequest = s := by
  unfold State.takeRequest
  cases s.link.intake with
  | nil => rfl
  | cons r rest =>
    refine if_neg fun takes => ?_
    obtain ⟨idle, room⟩ := takes
    obtain restarts | full := stands
    · simp [restarts] at idle
    · exact absurd room (Nat.not_lt.2 full)

theorem State.takeRequests_stands {s : State} (stands : s.link.handler = .restarting ∨ 2 ≤ s.link.replies.length) :
    s.takeRequests = s := by
  unfold State.takeRequests
  rw [State.takeRequest_stands stands, State.takeRequest_stands stands, State.takeRequest_stands stands]

/-! ### A frame is judged (09 R166) -/

theorem State.receiveFrame_fits {payload : List Byte} (fits : payload.length ≤ 60) (kind tag check : Byte) (s : State) :
    s.receiveFrame kind tag payload check = s.toHunt.stopDelay.judge kind tag payload check :=
  if_neg (Nat.not_lt.2 fits)

section

variable {s t : State} {dt : Nat} {kind tag check : Byte} {payload : List Byte}

/-- A running part judges a whole frame, and is busy with it (10 R189). -/
theorem exec_frame (runs : s.Running) (fits : payload.length ≤ 60)
    (judged : (s.advance dt).toHunt.stopDelay.judge kind tag payload check = t) :
    exec (.linkFrameReceived dt kind tag payload check) s =
      .next { t with doze := { t.doze with delay := .stopped } } :=
  exec_busy rfl runs ((State.receiveFrame_fits fits ..).trans judged) (judged ▸ by simpa using runs.2)
    (judged ▸ State.judge_notQuiet ..)

/-- A frame that is lost leaves its notice alone behind. -/
theorem exec_frame_lost {n : Notice} (runs : s.Running) (fits : payload.length ≤ 60)
    (lost : (s.advance dt).toHunt.stopDelay.judge kind tag payload check =
      (s.advance dt).toHunt.stopDelay.post n) :
    exec (.linkFrameReceived dt kind tag payload check) s =
      .next
        { s with
          now := s.now + dt, link := (s.link.post n).hunting, doze := { s.doze with delay := .stopped } } := by
  rw [exec_frame runs fits lost, ← Link.post_hunting]
  rfl

end

theorem Link.answer_getLast? (r : Request) (body : ReplyBody) (l : Link) :
    (l.answer r body).replies.getLast? =
      some
        { kind := r.kind + 0x80#8, tag := r.tag, body := body, resent := false
          ofEntry := decide (r.kind ≠ 0x02#8) } := by
  unfold Link.answer
  split
  · next restarts =>
    have restarts : r.kind = 0x02#8 := restarts
    simp [Link.addReply_eq, Request.reply, restarts]
  · next other =>
    have other : r.kind ≠ 0x02#8 := other
    simp [Link.addReply_eq, Request.reply, other]

/-- Settles O44: a whole link frame is judged, and waits in the intake queue or is handled at once. -/
theorem framesAreJudgedInOrder : Obligations.FramesAreJudgedInOrder := by
  intro s dt kind tag payload check runs fits
  dsimp only
  have judges : (s.advance dt).toHunt.stopDelay.judge kind tag payload check = _ := rfl
  unfold State.judge at judges
  split
  · next bad => exact exec_frame_lost runs fits (judges.trans (if_pos bad))
  next good =>
  replace judges := judges.trans (if_neg good)
  split
  · next noRequest =>
    exact exec_frame_lost runs fits (judges.trans (if_pos (by simpa [isRequest] using noRequest)))
  next request =>
  have kinds : isRequest kind = true := decide_eq_true (Nat.lt_of_not_le request)
  replace judges := judges.trans (if_neg (by simp [kinds]))
  split
  · next full => exact exec_frame_lost runs fits (judges.trans (if_pos full))
  next room =>
  replace judges := judges.trans (if_neg room)
  split
  · next stands => exact exec_frame runs fits (judges.trans (State.takeRequests_stands stands))
  next takes =>
  rw [not_or, Nat.not_le] at takes
  obtain ⟨notRestarting, replies⟩ := takes
  intro empty misses
  have idle : s.link.handler = .idle := by
    cases handler : s.link.handler with
    | idle => rfl
    | restarting => exact absurd handler notRestarting
  obtain rfl : check = frameCheck kind tag payload := not_not.1 good
  exact ⟨_, ((s.received dt).carryOut ⟨kind, tag, payload⟩).2,
    congrArg Host.Outcome.next (State.receive_ready ⟨runs, empty, idle, replies⟩ kinds fits misses),
    Link.answer_getLast? .., by simp [formReply, State.received, empty]⟩

/-! ### The reply cache (09 R168) -/

/-- A request that the reply cache answers, alone in the intake queue. -/
theorem State.takeRequests_single_hit {s : State} {r : Request} {e : CacheEntry} (waits : s.link.intake = [r])
    (idle : s.link.handler = .idle) (room : s.link.replies.length < 2) (hits : s.link.hit r s.now = some e) :
    s.takeRequests = { s with link := Link.resend e { s.link with intake := [] } } := by
  have alone : ({ s with link := Link.resend e { s.link with intake := [] } } : State).link.intake = [] := by simp
  unfold State.takeRequests
  rw [State.takeRequest_cons waits idle room, State.handle_hit (by exact hits)]
  rw [State.takeRequest_empty alone, State.takeRequest_empty alone]

theorem Link.hit_of_cached {l : Link} {e : CacheEntry} {now : Nat} (cached : l.cache = some e)
    (stays : ∀ due, e.closing = .running due → now ≤ due) : l.hit e.request now = some e := by
  have lasts : e.isOpen now = true := by
    unfold CacheEntry.isOpen
    cases closing : e.closing with
    | running due => exact decide_eq_true (stays due closing)
    | stopped | paused => rfl
  unfold Link.hit
  rw [cached]
  exact if_pos ⟨rfl, lasts⟩

theorem Link.resend_eq (e : CacheEntry) (l : Link) :
    l.resend e =
      { l with
        replies := l.replies ++ [e.request.reply e.reply true true]
        cache := some { e with closing := .stopped }
        sending :=
          match l.sending with
          | none => some .reply
          | some x => some x } :=
  Link.addReply_eq ..

theorem Status.code_low (st : Status) : st.code.getLsbD 7 = false := by
  cases st <;> rfl

/-- Settles O47: the reply cache answers a repeated request with a RESENT copy and does nothing else. -/
theorem replyCacheAnswersAgain : Obligations.ReplyCacheAnswersAgain := by
  intro s dt e runs cached
  refine ⟨fun r empty idle room same request fits window => ?_, fun due closes passed => ?_⟩
  · subst same
    have takes := State.receiveRequest_eq (s := s.advance dt) (tag := e.request.tag) (decide_eq_true request) fits
      (show s.link.intake.length < 3 by simp [empty])
    have hits : ({ s.link with
          receiver := .hunt, interByte := .stopped
          intake := s.link.intake ++ [⟨e.request.kind, e.request.tag, e.request.payload⟩] } : Link).hit
        e.request (s.now + dt) = some e := Link.hit_of_cached cached window
    have judged := (State.receiveFrame_fits fits ..).symm.trans (takes.trans
      (State.takeRequests_single_hit (r := e.request) (by simp [empty]) idle room hits))
    rw [Link.resend_eq] at judged
    refine ⟨(exec_frame runs fits judged).trans ?_, ?_, rfl, fun b status => ?_⟩
    · simp only [empty] <;> rfl
    · simp [Reply.payload]
    · obtain rfl : e.reply.statusOf.code = b := by simpa [Reply.payload] using status
      exact Status.code_low _
  · have acts : (s.advance dt).windowCloses =
        { s.advance dt with link := { s.link with cache := none } } := by
      unfold State.windowCloses
      rw [show (s.advance dt).link.cache = some e from cached]
      exact if_pos (by rw [closes]; exact (Timer.isDue_running _ _).2 passed)
    exact congrArg Host.Outcome.next ((State.event_running runs dt _).trans (congrArg State.settle acts))

end Sys2Proof.Machine
end

section
/-! PROOF. The handling of a request neither reads nor writes the doze state and the intake queue, so that it
commutes with a change of both (09 R167). -/

namespace Sys2Proof.Machine

/-! ### Another doze state and other waiting requests -/

/-- The link with other requests waiting in the intake queue. -/
def Link.refit (w : List Request) (l : Link) : Link := { l with intake := w }

/-- The part with another doze state and other requests waiting. -/
def State.refit (d : Doze) (w : List Request) (s : State) : State := { s with doze := d, link := s.link.refit w }

/-- A block's reply with the state after it changed so. -/
def refitReply {β : Type} (d : Doze) (w : List Request) (p : State × β) : State × β := (p.1.refit d w, p.2)

section

variable (d : Doze) (w : List Request) (s : State)

@[simp] theorem State.refit_frame :
    (s.refit d w).now = s.now ∧ (s.refit d w).settings = s.settings ∧ (s.refit d w).lib = s.lib ∧
      (s.refit d w).queue = s.queue ∧ (s.refit d w).engine = s.engine ∧ (s.refit d w).carrier = s.carrier ∧
      (s.refit d w).ind = s.ind ∧ (s.refit d w).keys = s.keys ∧ (s.refit d w).kLines = s.kLines ∧
      (s.refit d w).rx = s.rx ∧ (s.refit d w).matcher = s.matcher ∧ (s.refit d w).tracker = s.tracker ∧
      (s.refit d w).learn = s.learn ∧ (s.refit d w).store = s.store ∧ (s.refit d w).supply = s.supply ∧
      (s.refit d w).freeUses = s.freeUses ∧ (s.refit d w).link = s.link.refit w :=
  ⟨rfl, rfl, rfl, rfl, rfl, rfl, rfl, rfl, rfl, rfl, rfl, rfl, rfl, rfl, rfl, rfl, rfl⟩

/-- What a request asks about the part. -/
@[simp] theorem State.refit_reads :
    (∀ t, (s.refit d w).templateOf t = s.templateOf t) ∧ (∀ j, (s.refit d w).reachedMin j = s.reachedMin j) ∧
      (∀ id, (s.refit d w).findJob id = s.findJob id) ∧ (s.refit d w).isWriting = s.isWriting ∧
      (∀ i v, (s.refit d w).lineBlocked i v = s.lineBlocked i v) ∧
      (s.refit d w).deadlineAhead = s.deadlineAhead ∧
      (∀ spec, (s.refit d w).specRefusal spec = s.specRefusal spec) ∧
      (∀ spec, (s.refit d w).admissionRefusal spec = s.admissionRefusal spec) ∧
      (s.refit d w).blankingHolds = s.blankingHolds ∧ (s.refit d w).lineCondition = s.lineCondition ∧
      (s.refit d w).draftDue = s.draftDue ∧ (s.refit d w).allocate = s.allocate :=
  ⟨fun _ => rfl, fun _ => rfl, fun _ => rfl, rfl, fun _ _ => rfl, rfl, fun _ => rfl, fun _ => rfl, rfl, rfl, rfl, rfl⟩

/-! ### The link -/

theorem Link.startNext_refit (l : Link) : (l.refit w).startNext = l.startNext.refit w := by
  obtain ⟨receiver, interByte, listenFrom, intake, handler, replies, cache, notices, lost, seq, sending, fast⟩ := l
  cases sending with
  | some x => rfl
  | none =>
    cases replies with
    | cons r rest => rfl
    | nil => cases notices <;> rfl

theorem Link.post_refit (n : Notice) (l : Link) : (l.refit w).post n = (l.post n).refit w := by
  unfold Link.post
  rw [apply_ite (Link.refit w)]
  exact congrArg (fun joined => ite (l.notices.length < Config.noticeRoom) joined _)
    (Link.startNext_refit w { l with notices := l.notices ++ [n] })

theorem Link.postJobEnd_refit (j : Job) (reason : EndReason) (l : Link) :
    (l.refit w).postJobEnd j reason = (l.postJobEnd j reason).refit w := by
  unfold Link.postJobEnd
  cases j.spec.report with
  | never => rfl
  | atEnd | both => exact Link.post_refit ..

theorem Link.addReply_refit (r : Reply) (l : Link) : (l.refit w).addReply r = (l.addReply r).refit w :=
  Link.startNext_refit w { l with replies := l.replies ++ [r] }

theorem Link.answer_refit (r : Request) (body : ReplyBody) (l : Link) :
    (l.refit w).answer r body = (l.answer r body).refit w := by
  unfold Link.answer
  rw [apply_ite (Link.refit w), ← Link.addReply_refit, ← Link.addReply_refit]
  rfl

theorem State.post_refit (n : Notice) : (s.refit d w).post n = (s.post n).refit d w :=
  congrArg (fun link => { s with doze := d, link := link }) (Link.post_refit w n s.link)

/-! ### Jobs (04) -/

theorem State.jobLeaves_refit (j : Job) (reason : EndReason) :
    (s.refit d w).jobLeaves j reason = (s.jobLeaves j reason).refit d w :=
  congrArg
    (fun link =>
      { s with doze := d, link := link, lib := s.lib.unclaim j.spec.template, keys := clearLive j s.keys })
    (Link.postJobEnd_refit w j reason s.link)

theorem State.removeJob_refit (j : Job) (reason : EndReason) :
    (s.refit d w).removeJob j reason = (s.removeJob j reason).refit d w :=
  State.jobLeaves_refit d w
    { s with queue := { s.queue with jobs := s.queue.jobs.filter fun k => decide (k.id ≠ j.id) } } j reason

theorem State.endSoon_refit (j : Job) (reason : PendingEnd) :
    (s.refit d w).endSoon j reason = refitReply d w (s.endSoon j reason) := by
  unfold State.endSoon
  rw [State.removeJob_refit, apply_ite (refitReply d w)]
  rfl

theorem State.release_refit (id : Nat) : (s.refit d w).release id = refitReply d w (s.release id) := by
  unfold State.release
  simp only [State.refit_reads, State.endSoon_refit]
  cases s.findJob id with
  | none => rfl
  | some j => dsimp only; (repeat' split) <;> rfl

theorem State.cancel_refit (id : Nat) : (s.refit d w).cancel id = refitReply d w (s.cancel id) := by
  unfold State.cancel
  simp only [State.refit_reads, State.endSoon_refit, State.removeJob_refit]
  cases s.findJob id with
  | none => rfl
  | some j => dsimp only; (repeat' split) <;> rfl

theorem flushJobs_refit (jobs : List Job) : flushJobs jobs (s.refit d w) = (flushJobs jobs s).refit d w := by
  induction jobs generalizing s with
  | nil => rfl
  | cons j rest ih => rw [flushJobs, flushJobs, State.jobLeaves_refit, ih]

theorem State.flush_refit : (s.refit d w).flush = refitReply d w s.flush :=
  congrArg (·, ReplyBody.removed s.queue.jobs.length)
    (flushJobs_refit d w { s with queue := { s.queue with jobs := [] } } s.queue.jobs)

/-! ### The engine (05) -/

theorem State.flipToggle_refit (j : Job) : (s.refit d w).flipToggle j = refitReply d w (s.flipToggle j) := by
  unfold State.flipToggle
  simp only [State.refit_reads]
  cases s.templateOf j.spec.template with
  | none => rfl
  | some t => dsimp only; cases t.toggle <;> rfl

theorem State.startFrame_refit (j : Job) : (s.refit d w).startFrame j = (s.startFrame j).refit d w := rfl

theorem State.startFirst_refit (j : Job) : (s.refit d w).startFirst j = (s.startFirst j).refit d w := by
  unfold State.startFirst State.postJobStart
  rw [State.startFrame_refit]
  cases j.spec.report with
  | both => exact State.post_refit ..
  | never | atEnd => rfl

theorem State.takeJob_refit (j : Job) : (s.refit d w).takeJob j = (s.takeJob j).refit d w := by
  have begins : (s.refit d w).beginJob j = (s.beginJob j).refit d w := by
    unfold State.beginJob
    rw [State.flipToggle_refit]
    exact State.startFirst_refit ..
  unfold State.takeJob
  rw [begins]
  cases j.state <;> rfl

theorem State.takeHead_refit : (s.refit d w).takeHead = s.takeHead.refit d w := by
  unfold State.takeHead
  simp only [State.refit_frame]
  cases s.queue.jobs with
  | nil => rfl
  | cons j rest => exact State.takeJob_refit d w { s with queue := { s.queue with jobs := rest } } j

theorem State.admitted_refit : (s.refit d w).admitted = s.admitted.refit d w := by
  unfold State.admitted
  rw [State.takeHead_refit]
  simp only [State.refit_frame]
  cases s.engine.state <;> rfl

theorem State.send_refit (spec : JobSpec) : (s.refit d w).send spec = refitReply d w (s.send spec) := by
  unfold State.send
  simp only [State.refit_reads]
  cases s.admissionRefusal spec with
  | some st => rfl
  | none => exact congrArg (·, _) (State.admitted_refit d w (s.enrol .host spec))

theorem State.resumeEngine_refit : (s.refit d w).resumeEngine = s.resumeEngine.refit d w := by
  have takes : (s.refit d w).takeOrIdle = s.takeOrIdle.refit d w := by
    unfold State.takeOrIdle
    rw [State.takeHead_refit]
    simp only [State.refit_frame]
    cases s.queue.jobs <;> rfl
  unfold State.resumeEngine
  rw [takes, apply_ite (State.refit d w)]
  rfl

theorem State.cutCurrent_refit : (s.refit d w).cutCurrent = s.cutCurrent.refit d w := by
  unfold State.cutCurrent State.endCurrent
  simp only [State.refit_frame, State.jobLeaves_refit]
  cases s.engine.current <;> rfl

theorem State.stopEngine_refit : (s.refit d w).stopEngine = s.stopEngine.refit d w := by
  have cuts : (s.refit d w).cutFrame = s.cutFrame.refit d w := rfl
  unfold State.stopEngine
  rw [cuts, State.cutCurrent_refit, State.cutCurrent_refit]
  simp only [State.refit_frame]
  cases s.engine.state <;> rfl

/-! ### The library and the Matcher (01, 08) -/

theorem runTrials_refit (burst : List Interval) (n : Nat) (m : Matching) :
    runTrials (s.refit d w) burst n m = runTrials s burst n m := by
  induction n generalizing m with
  | zero => rfl
  | succ n ih =>
    unfold runTrials
    simp only [ih]
    rfl

theorem State.slotLeavesReady_refit (t : Fin 16) :
    (s.refit d w).slotLeavesReady t = (s.slotLeavesReady t).refit d w := by
  have reached : (s.refit d w).matcherReached = s.matcherReached.refit d w := by
    unfold State.matcherReached
    simp only [State.refit_frame, runTrials_refit]
    cases s.matcher <;> rfl
  have drops (u : State) : (u.refit d w).dropTemplate t = (u.dropTemplate t).refit d w := rfl
  unfold State.slotLeavesReady
  rw [reached, drops]
  generalize s.matcherReached.dropTemplate t = u
  unfold State.endSessionOn State.endSession
  simp only [State.refit_frame, Link.post_refit]
  cases u.tracker with
  | quiet => rfl
  | held code => dsimp only; split <;> rfl

theorem State.tplOpen_refit (t : Fin 16) (mode : DraftMode) :
    (s.refit d w).tplOpen t mode = refitReply d w (s.tplOpen t mode) := by
  unfold State.tplOpen
  simp only [State.refit_reads, State.refit_frame, State.slotLeavesReady_refit]
  split
  · rfl
  split
  · rfl
  cases mode with
  | new => cases s.lib.slots[t].state <;> rfl
  | revise =>
    cases s.lib.slots[t].state with
    | ready work => dsimp only; split <;> rfl
    | empty | draft | revising => rfl

theorem State.tplPut_refit (data : Option PartData) :
    (s.refit d w).tplPut data = refitReply d w (s.tplPut data) := by
  unfold State.tplPut
  simp only [State.refit_reads, State.refit_frame]
  cases s.lib.draft with
  | none => rfl
  | some draft => dsimp only; (repeat' split) <;> rfl

theorem State.tplCommit_refit : (s.refit d w).tplCommit = refitReply d w s.tplCommit := by
  unfold State.tplCommit
  simp only [State.refit_reads, State.refit_frame]
  split
  · rfl
  cases s.lib.draft with
  | none => rfl
  | some draft => dsimp only; cases draft.work.invalid? <;> rfl

theorem State.tplAbort_refit : (s.refit d w).tplAbort = refitReply d w s.tplAbort := by
  unfold State.tplAbort
  simp only [State.refit_frame]
  cases s.lib.draft <;> rfl

theorem State.tplErase_refit (t : Fin 16) : (s.refit d w).tplErase t = refitReply d w (s.tplErase t) := by
  unfold State.tplErase
  simp only [State.refit_reads, State.refit_frame, State.slotLeavesReady_refit]
  split
  · rfl
  cases s.lib.slots[t].state with
  | ready work => dsimp only; split <;> rfl
  | empty | draft | revising => rfl

theorem State.readDraft_refit (t : Fin 16) (p : Part) :
    (s.refit d w).readDraft t p = refitReply d w (s.readDraft t p) := by
  unfold State.readDraft
  simp only [State.refit_reads, State.refit_frame]
  cases s.lib.draft with
  | none => rfl
  | some draft => dsimp only; split <;> rfl

theorem State.readStored_refit (t : Fin 16) (p : Part) :
    (s.refit d w).readStored t p = refitReply d w (s.readStored t p) := by
  unfold State.readStored
  simp only [State.refit_frame]
  cases s.lib.slots[t].state.definition <;> rfl

/-! ### The store, the settings and the Learn Buffer (10, 09 R176, 08) -/

theorem State.save_refit : (s.refit d w).save = refitReply d w s.save := by
  unfold State.save
  simp only [State.refit_frame]
  split
  · rfl
  cases s.store.op with
  | idle => dsimp only; split <;> rfl
  | writing | wiping => rfl

theorem State.wipe_refit : (s.refit d w).wipe = refitReply d w s.wipe := by
  unfold State.wipe
  simp only [State.refit_frame]
  cases s.store.op <;> rfl

theorem State.compareSupply_refit : (s.refit d w).compareSupply = s.compareSupply.refit d w := by
  have turns (low : Bool) : (s.refit d w).supplyBecomes low = (s.supplyBecomes low).refit d w :=
    State.post_refit d w { s with supply := { s.supply with low := low } } _
  have abandons (u : State) : (u.refit d w).abandonSave = u.abandonSave.refit d w := by
    unfold State.abandonSave
    simp only [State.refit_frame]
    cases u.store.op with
    | writing target gen done img => exact State.post_refit d w { u with store := { u.store with op := .idle } } _
    | idle | wiping => rfl
  unfold State.compareSupply
  rw [turns, turns, abandons]
  simp only [State.refit_frame]
  (repeat' split) <;> rfl

theorem State.settingActs_refit (i : SettingId) (old : BitVec 8) :
    (s.refit d w).settingActs i old = (s.settingActs i old).refit d w := by
  cases i with
  | supplyThreshold => exact State.compareSupply_refit d w s
  | rxEnable =>
    unfold State.settingActs
    dsimp only
    rw [apply_ite (State.refit d w)]
    rfl
  | rxPolarity =>
    unfold State.settingActs
    simp only [State.polarityChanged_eq, apply_ite (State.refit d w)]
    rfl
  | rxBlank =>
    unfold State.settingActs
    simp only [State.blankChanged_eq]
    rfl
  | _ => rfl

theorem State.setSetting_refit (id : Byte) (v : Nat) :
    (s.refit d w).setSetting id v = refitReply d w (s.setSetting id v) := by
  have puts (i : SettingId) : (s.refit d w).putSetting i v = (s.putSetting i v).refit d w := by
    unfold State.putSetting
    rw [apply_ite (State.refit d w)]
    exact congrArg (ite _ _) (State.settingActs_refit d w { s with settings := s.settings.put i v } i _)
  unfold State.setSetting
  simp only [State.refit_reads, puts]
  cases SettingId.ofByte id with
  | none => rfl
  | some i => dsimp only; (repeat' split) <;> rfl

theorem State.learnArm_refit (timeout : Nat) : (s.refit d w).learnArm timeout = refitReply d w (s.learnArm timeout) := by
  unfold State.learnArm
  simp only [State.refit_frame]
  split
  · rfl
  · cases s.learn <;> rfl

theorem State.learnRead_refit (offset : Nat) : (s.refit d w).learnRead offset = refitReply d w (s.learnRead offset) := by
  unfold State.learnRead
  simp only [State.refit_frame]
  split
  · rfl
  cases s.learn with
  | filled ivs => dsimp only; split <;> rfl
  | idle | armed => rfl

/-! ### Keys (06) -/

theorem State.bindKey_refit (k : Fin 8) (spec : JobSpec) :
    (s.refit d w).bindKey k spec = refitReply d w (s.bindKey k spec) := by
  unfold State.bindKey
  simp only [State.refit_frame, State.refit_reads]
  cases s.specRefusal spec <;> cases s.store.op <;> rfl

theorem State.unbindKey_refit (k : Fin 8) : (s.refit d w).unbindKey k = refitReply d w (s.unbindKey k) := by
  unfold State.unbindKey
  simp only [State.refit_frame]
  cases s.store.op <;> rfl

/-! ### A request is handled (09 R167) -/

theorem State.handleRead_refit (payload : List Byte) :
    (s.refit d w).handleRead payload = refitReply d w (s.handleRead payload) := by
  unfold State.handleRead
  simp only [State.readStored_refit, State.readDraft_refit]
  (repeat' split) <;> rfl

theorem State.dispatch_refit (k : RequestKind) (payload : List Byte) :
    (s.refit d w).dispatch k payload = refitReply d w (s.dispatch k payload) := by
  cases k with
  | ping | storeStatus | tplStatus | queueStatus | keyStatus | rxStatus | learnCancel => rfl
  | restart =>
    show (s.refit d w).handleRestart = refitReply d w s.handleRestart
    unfold State.handleRestart
    simp only [State.refit_frame]
    cases s.store.op <;> rfl
  | set =>
    show (s.refit d w).handleSet payload = refitReply d w (s.handleSet payload)
    unfold State.handleSet
    simp only [State.setSetting_refit]
    split <;> rfl
  | get =>
    show (s.refit d w).handleGet payload = refitReply d w (s.handleGet payload)
    unfold State.handleGet State.getSetting
    (repeat' split) <;> rfl
  | save => exact State.save_refit d w s
  | wipe => exact State.wipe_refit d w s
  | tplOpen =>
    show (s.refit d w).handleOpen payload = refitReply d w (s.handleOpen payload)
    unfold State.handleOpen
    simp only [State.tplOpen_refit]
    (repeat' split) <;> rfl
  | tplPut =>
    show (s.refit d w).handlePut payload = refitReply d w (s.handlePut payload)
    unfold State.handlePut
    simp only [State.tplPut_refit]
    split <;> rfl
  | tplCommit => exact State.tplCommit_refit d w s
  | tplAbort => exact State.tplAbort_refit d w s
  | tplErase =>
    show (s.refit d w).handleErase payload = refitReply d w (s.handleErase payload)
    unfold State.handleErase
    simp only [State.tplErase_refit]
    (repeat' split) <;> rfl
  | tplRead => exact State.handleRead_refit d w s payload
  | send =>
    show (s.refit d w).handleSend payload = refitReply d w (s.handleSend payload)
    unfold State.handleSend
    simp only [State.send_refit]
    (repeat' split) <;> rfl
  | release =>
    show (s.refit d w).handleRelease payload = refitReply d w (s.handleRelease payload)
    unfold State.handleRelease
    simp only [State.release_refit]
    split <;> rfl
  | cancel =>
    show (s.refit d w).handleCancel payload = refitReply d w (s.handleCancel payload)
    unfold State.handleCancel
    simp only [State.cancel_refit]
    split <;> rfl
  | flush => exact State.flush_refit d w s
  | stop => exact congrArg (·, ReplyBody.status .ok) (State.stopEngine_refit d w s)
  | resume =>
    show (s.refit d w).handleResume = refitReply d w s.handleResume
    unfold State.handleResume
    simp only [State.refit_frame, State.resumeEngine_refit]
    cases s.engine.state <;> rfl
  | bind =>
    show (s.refit d w).handleBind payload = refitReply d w (s.handleBind payload)
    unfold State.handleBind
    simp only [State.bindKey_refit]
    (repeat' split) <;> rfl
  | unbind =>
    show (s.refit d w).handleUnbind payload = refitReply d w (s.handleUnbind payload)
    unfold State.handleUnbind
    simp only [State.unbindKey_refit]
    (repeat' split) <;> rfl
  | learnArm =>
    show (s.refit d w).handleLearnArm payload = refitReply d w (s.handleLearnArm payload)
    unfold State.handleLearnArm
    simp only [State.learnArm_refit]
    split <;> rfl
  | learnRead =>
    show (s.refit d w).handleLearnRead payload = refitReply d w (s.handleLearnRead payload)
    unfold State.handleLearnRead
    simp only [State.learnRead_refit]
    split <;> rfl

theorem State.carryOut_refit (r : Request) : (s.refit d w).carryOut r = refitReply d w (s.carryOut r) := by
  unfold State.carryOut
  simp only [State.dispatch_refit]
  cases RequestKind.ofByte r.kind with
  | none => rfl
  | some k => dsimp only; split <;> rfl

/-- The handling of a request leaves the doze state and the waiting requests alone, and does not look at
them. -/
theorem State.handle_refit (r : Request) : (s.refit d w).handle r = (s.handle r).refit d w := by
  have resends (e : CacheEntry) : (s.link.refit w).resend e = (s.link.resend e).refit w :=
    Link.addReply_refit w _ { s.link with cache := some { e with closing := .stopped } }
  have forms (p : State × ReplyBody) : formReply r (refitReply d w p) = (formReply r p).refit d w :=
    congrArg (fun link => { p.1 with doze := d, link := link }) (Link.answer_refit w r p.2 p.1.link)
  have hits : (s.link.refit w).hit r s.now = s.link.hit r s.now := rfl
  unfold State.handle
  simp only [State.refit_frame, hits, resends, State.carryOut_refit, forms]
  cases s.link.hit r s.now <;> rfl

end

end Sys2Proof.Machine
end

section
/-! PROOF. Characters (09 R161 to R166). -/

namespace Sys2Proof.Machine

/-! ### The doze state stands outside the frame receiver -/

theorem State.takeRequest_withDoze (d : Doze) (s : State) : (s.withDoze d).takeRequest = s.takeRequest.withDoze d := by
  have waits : (s.withDoze d).link = s.link := rfl
  unfold State.takeRequest
  rw [waits]
  cases s.link.intake with
  | nil => rfl
  | cons r rest =>
    dsimp only
    split
    · exact (State.handle_refit d rest s r).trans
        (congrArg (State.withDoze d) (State.handle_refit s.doze rest s r)).symm
    · rfl

theorem State.judge_withDoze (d : Doze) (kind tag : Byte) (payload : List Byte) (check : Byte) (s : State) :
    (s.withDoze d).judge kind tag payload check = (s.judge kind tag payload check).withDoze d := by
  unfold State.judge State.takeRequests
  simp only [apply_ite (State.withDoze d), ← State.takeRequest_withDoze]
  rfl

/-- A frame that the part judges is the frame that comes in whole: the part is busy with it (10 R189). -/
theorem exec_frame_settle (kind tag : Byte) {payload : List Byte} (fits : payload.length ≤ 60) (check : Byte)
    {s : State} (runs : s.Running) (dt : Nat) :
    exec (.linkFrameReceived dt kind tag payload check) s =
      .next ((s.advance dt).toHunt.judge kind tag payload check).settle := by
  have judged := State.judge_withDoze { s.doze with delay := .stopped } kind tag payload check (s.advance dt).toHunt
  rw [exec_frame runs fits judged,
    State.settle_busy (by simpa using runs.2) (State.judge_notQuiet kind tag payload check (s.advance dt).toHunt)]
  simp [State.withDoze]

/-! ### When a character is taken (09 R161, R165, 10 R191) -/

section

variable {s : State} {b : Byte} {ago : Nat}

theorem State.takeCharacter_discarded : s.takeCharacter b ago false = s := if_pos (.inl rfl)

theorem State.takeCharacter_lost (early : s.now < s.link.listenFrom + ago) : s.takeCharacter b ago true = s :=
  if_pos (.inr early)

theorem State.takeCharacter_afresh (listens : s.link.listenFrom + ago ≤ s.now)
    (passed : s.link.interByte.isDue (s.now - ago) = true) :
    s.takeCharacter b ago true = s.abandonFrame.character b :=
  (if_neg (by simpa using listens)).trans (if_pos passed)

theorem State.takeCharacter_inFrame (listens : s.link.listenFrom + ago ≤ s.now)
    (runs : s.link.interByte.isDue (s.now - ago) = false) : s.takeCharacter b ago true = s.character b :=
  (if_neg (by simpa using listens)).trans (if_neg (by simp [runs]))

theorem State.abandonFrame_hunt (s : State) : s.abandonFrame.link.receiver = .hunt := by
  unfold State.abandonFrame
  cases receiver : s.link.receiver with
  | hunt => exact receiver
  | length => rfl
  | kind | tag | payload | check => simp [State.toHunt]

theorem State.abandonFrame_hunting (hunts : s.link.receiver = .hunt) : s.abandonFrame = s := by
  unfold State.abandonFrame
  rw [hunts]

/-- In HUNT a character is taken whatever the inter-byte timer. -/
theorem State.takeCharacter_hunt (hunts : s.link.receiver = .hunt) (listens : s.link.listenFrom + ago ≤ s.now) :
    s.takeCharacter b ago true = s.character b := by
  cases passed : s.link.interByte.isDue (s.now - ago) with
  | false => exact State.takeCharacter_inFrame listens passed
  | true => rw [State.takeCharacter_afresh listens passed, State.abandonFrame_hunting hunts]

theorem State.character_hunt (hunts : s.link.receiver = .hunt) :
    s.character b = if b = 0xB5#8 then s.awaitByte .length else s := by
  unfold State.character
  rw [hunts]
  rfl

theorem State.character_length (waits : s.link.receiver = .length) :
    s.character b = if 60 < b.toNat then s.toHunt else s.awaitByte (.kind b.toNat) := by
  unfold State.character
  rw [waits]
  rfl

theorem State.character_kind {len : Nat} (waits : s.link.receiver = .kind len) :
    s.character b = s.awaitByte (.tag len b) := by
  unfold State.character
  rw [waits]

theorem State.character_tag {len : Nat} {kind : Byte} (waits : s.link.receiver = .tag len kind) :
    s.character b = s.awaitByte (if len = 0 then .check kind b [] else .payload len kind b []) := by
  unfold State.character
  rw [waits, apply_ite (State.awaitByte · s)]

theorem State.character_payload {len : Nat} {kind tag : Byte} {got : List Byte}
    (waits : s.link.receiver = .payload len kind tag got) :
    s.character b =
      s.awaitByte
        (if got.length + 1 < len then .payload len kind tag (got ++ [b]) else .check kind tag (got ++ [b])) := by
  unfold State.character
  rw [waits, apply_ite (State.awaitByte · s)]

theorem State.character_check {kind tag : Byte} {payload : List Byte}
    (waits : s.link.receiver = .check kind tag payload) :
    s.character b = s.toHunt.judge kind tag payload b := by
  unfold State.character
  rw [waits]

/-- A character in HUNT, and the doze delay timer judged before it as well as behind it. -/
theorem State.settle_character_hunt (awake : s.doze.state = .awake) (hunts : s.link.receiver = .hunt) :
    (s.settle.character b).settle = (s.character b).settle := by
  have commutes : s.settle.character b = (s.character b).withDoze s.settle.doze := by
    rw [State.character_hunt (s := s.settle) hunts, State.character_hunt hunts, apply_ite (State.withDoze _)]
    rfl
  rw [commutes, State.character_hunt hunts]
  split
  · exact State.settle_again awake rfl rfl rfl fun quiet => by
      simp [State.isQuiet, Link.isQuiet, State.awaitByte] at quiet
  · exact State.settle_again awake rfl rfl rfl id

end

theorem exec_character {s : State} (runs : s.Running) (dt ago : Nat) (b : Byte) (stopHigh : Bool) :
    exec (.characterReceived dt b ago stopHigh) s = .next ((s.advance dt).takeCharacter b ago stopHigh).settle :=
  congrArg Host.Outcome.next (State.event_running runs dt _)

theorem exec_interByte {s : State} (runs : s.Running) {dt due : Nat} (timer : s.link.interByte = .running due)
    (passed : due ≤ s.now + dt) :
    exec (.interByteTimeout dt) s = .next (s.advance dt).abandonFrame.settle := by
  refine congrArg Host.Outcome.next ((State.event_running runs dt _).trans (congrArg State.settle (if_pos ?_)))
  rw [show (s.advance dt).link.interByte = _ from timer]
  exact (Timer.isDue_running _ _).2 passed

/-- Settles O45: a character acts on the frame receiver by its table. -/
theorem charactersDriveTheReceiver : Obligations.CharactersDriveTheReceiver := by
  intro s dt ago b runs
  dsimp only
  refine ⟨?_, fun early => ?_, fun listens => ⟨fun due timer passed => ?_, fun runsOn => ?_⟩, fun due timer passed => ?_⟩
  · exact (exec_character runs ..).trans (congrArg (Host.Outcome.next ∘ State.settle) State.takeCharacter_discarded)
  · exact (exec_character runs ..).trans
      (congrArg (Host.Outcome.next ∘ State.settle) (State.takeCharacter_lost (s := s.advance dt) early))
  · have later := exec_interByte runs timer (passed.trans (Nat.sub_le _ _))
    have running : (s.advance dt).abandonFrame.settle.Running := ⟨by simp [runs.1], by simp [runs.2]⟩
    have again := exec_character running 0 ago b true
    rw [State.takeCharacter_hunt (s := State.advance 0 (s.advance dt).abandonFrame.settle)
        (State.abandonFrame_hunt (s.advance dt)) (by simpa using listens),
      show State.advance 0 (s.advance dt).abandonFrame.settle = (s.advance dt).abandonFrame.settle from rfl,
      State.settle_character_hunt (by simp [runs.2]) (State.abandonFrame_hunt _)] at again
    have afresh : (s.advance dt).takeCharacter b ago true = (s.advance dt).abandonFrame.character b :=
      State.takeCharacter_afresh listens (by
        rw [show (s.advance dt).link.interByte = _ from timer]
        exact (Timer.isDue_running _ _).2 passed)
    simp only [State.run, later, again]
    rw [exec_character runs, afresh]
  · have frames : (s.advance dt).link.interByte.isDue ((s.advance dt).now - ago) = false := by
      show s.link.interByte.isDue (s.now + dt - ago) = false
      cases timer : s.link.interByte with
      | stopped | paused => rfl
      | running due => exact decide_eq_false (Nat.not_le.2 (runsOn due timer))
    have steps : exec (.characterReceived dt b ago true) s = .next ((s.advance dt).character b).settle := by
      rw [exec_character runs, State.takeCharacter_inFrame (s := s.advance dt) listens frames]
    rw [steps]
    clear steps frames runsOn listens
    cases receiver : s.link.receiver with
    | hunt =>
      rw [State.character_hunt (s := s.advance dt) receiver]
      dsimp only
      split <;> rfl
    | length =>
      rw [State.character_length (s := s.advance dt) receiver]
      dsimp only
      by_cases fits : b.toNat ≤ 60
      · rw [if_neg (Nat.not_lt.2 fits), if_pos fits] <;> rfl
      · rw [if_pos (Nat.lt_of_not_le fits), if_neg fits] <;> rfl
    | kind len => rw [State.character_kind (s := s.advance dt) receiver] <;> rfl
    | tag len kind => rw [State.character_tag (s := s.advance dt) receiver] <;> rfl
    | payload len kind tag got => rw [State.character_payload (s := s.advance dt) receiver] <;> rfl
    | check kind tag payload =>
      intro fits
      rw [State.character_check (s := s.advance dt) receiver, exec_frame_settle kind tag fits b runs dt]
  · rw [exec_interByte runs timer passed]
    unfold State.abandonFrame
    rw [show (s.advance dt).link.receiver = s.link.receiver from rfl]
    cases receiver : s.link.receiver <;> rfl

/-! ### The characters of a frame, one by one (09 R162 to R166) -/

/-- The part `e` µs later, with a frame on its way. -/
def State.awaiting (h : HuntState) (e : Nat) (s : State) : State :=
  { s with
    now := s.now + e
    link := { s.link with receiver := h, interByte := .running (s.now + e + 10001) }
    doze := { s.doze with delay := .stopped } }

section

variable {s : State} {h next : HuntState} {e dt ago : Nat} {b kind tag check : Byte}

theorem State.awaiting_running (runs : s.Running) : (s.awaiting h e).Running := runs

theorem State.settle_awaiting (runs : s.Running) (waits : h ≠ .hunt) : (s.awaiting h e).settle = s.awaiting h e :=
  State.settle_still runs.2 (by simp [State.isQuiet, Link.isQuiet, State.awaiting, waits]) rfl

/-- A character with a gap of at most 10 ms before it is taken in its frame. -/
theorem exec_awaiting (runs : s.Running) (listens : s.link.listenFrom ≤ s.now) (begun : ago ≤ dt)
    (gap : dt - ago ≤ 10000) :
    exec (.characterReceived dt b ago true) (s.awaiting h e) =
      .next (((s.awaiting h e).advance dt).character b).settle := by
  have now : ((s.awaiting h e).advance dt).now = s.now + e + dt := rfl
  have from_ : ((s.awaiting h e).advance dt).link.listenFrom = s.link.listenFrom := rfl
  have timer : ((s.awaiting h e).advance dt).link.interByte = .running (s.now + e + 10001) := rfl
  rw [exec_character (State.awaiting_running runs), State.takeCharacter_inFrame]
  · omega
  · rw [timer, now]
    exact decide_eq_false (by omega)

/-- A character that does not end the frame. -/
theorem exec_awaiting_next (runs : s.Running) (listens : s.link.listenFrom ≤ s.now) (begun : ago ≤ dt)
    (gap : dt - ago ≤ 10000) (waits : next ≠ .hunt)
    (acts : ((s.awaiting h e).advance dt).character b = ((s.awaiting h e).advance dt).awaitByte next) :
    exec (.characterReceived dt b ago true) (s.awaiting h e) = .next (s.awaiting next (e + dt)) := by
  have later : ((s.awaiting h e).advance dt).awaitByte next = s.awaiting next (e + dt) := by
    simp only [State.awaiting, State.advance, State.awaitByte, Config.interByteDue, Nat.add_assoc]
  rw [exec_awaiting runs listens begun gap, acts, later, State.settle_awaiting runs waits]

/-- The check byte ends the frame: the frame is judged as the whole frame is. -/
theorem exec_awaiting_check {payload : List Byte} (runs : s.Running) (listens : s.link.listenFrom ≤ s.now)
    (begun : ago ≤ dt) (gap : dt - ago ≤ 10000) (fits : payload.length ≤ 60) :
    exec (.characterReceived dt check ago true) (s.awaiting (.check kind tag payload) e) =
      exec (.linkFrameReceived (e + dt) kind tag payload check) s := by
  have same : ((s.awaiting (.check kind tag payload) e).advance dt).toHunt = (s.advance (e + dt)).toHunt.stopDelay := by
    simp only [State.awaiting, State.advance, State.toHunt, State.stopDelay, Nat.add_assoc]
  rw [exec_awaiting runs listens begun gap, State.character_check rfl, same, exec_frame runs fits rfl,
    State.settle_busy (by simpa using runs.2) (State.judge_notQuiet ..)]

end

/-- The characters of a frame, with the times of `times`. -/
def charactersOf (times : List (Nat × Nat)) (bytes : List Byte) : List Instr :=
  List.zipWith (fun (p : Nat × Nat) b => Instr.characterReceived p.1 b p.2 true) times bytes

theorem run_charactersOf_cons {s t : State} {p : Nat × Nat} {b : Byte} (times : List (Nat × Nat)) (bytes : List Byte)
    (takes : exec (.characterReceived p.1 b p.2 true) s = .next t) :
    State.run (charactersOf (p :: times) (b :: bytes)) s = State.run (charactersOf times bytes) t := by
  simp only [charactersOf, List.zipWith_cons_cons, State.run, takes]

theorem run_single (c : Instr) (s : State) : State.run [c] s = exec c s := by
  unfold State.run
  cases exec c s <;> rfl

/-- The check byte, once the payload is there. -/
theorem run_check {s : State} (runs : s.Running) (listens : s.link.listenFrom ≤ s.now) (kind tag check : Byte)
    {payload : List Byte} {times : List (Nat × Nat)} (e : Nat) (fits : payload.length ≤ 60) (enough : times.length = 1)
    (gaps : ∀ p ∈ times, p.2 ≤ p.1 ∧ p.1 - p.2 ≤ 10000) :
    State.run (charactersOf times [check]) (s.awaiting (.check kind tag payload) e) =
      exec (.linkFrameReceived (e + (times.map Prod.fst).sum) kind tag payload check) s := by
  obtain ⟨p, rfl⟩ := List.length_eq_one_iff.1 enough
  obtain ⟨begun, gap⟩ := gaps p List.mem_cons_self
  rw [List.map_singleton, List.sum_singleton, ← exec_awaiting_check runs listens begun gap fits]
  exact run_single ..

/-- The payload bytes that are still to come, and the check byte. -/
theorem run_payload {s : State} (runs : s.Running) (listens : s.link.listenFrom ≤ s.now) (kind tag check : Byte)
    {rest : List Byte} {got : List Byte} {times : List (Nat × Nat)} (e : Nat) (more : rest ≠ [])
    (fits : (got ++ rest).length ≤ 60) (enough : times.length = rest.length + 1)
    (gaps : ∀ p ∈ times, p.2 ≤ p.1 ∧ p.1 - p.2 ≤ 10000) :
    State.run (charactersOf times (rest ++ [check]))
        (s.awaiting (.payload (got ++ rest).length kind tag got) e) =
      exec (.linkFrameReceived (e + (times.map Prod.fst).sum) kind tag (got ++ rest) check) s := by
  induction rest generalizing got times e with
  | nil => exact absurd rfl more
  | cons b rest ih =>
    obtain _ | ⟨p, times⟩ := times
    · simp at enough
    obtain ⟨begun, gap⟩ := gaps p List.mem_cons_self
    have gaps := fun q mem => gaps q (List.mem_cons_of_mem p mem)
    have bytes : got ++ b :: rest = (got ++ [b]) ++ rest := by simp
    rw [List.cons_append, List.map_cons, List.sum_cons, ← Nat.add_assoc]
    by_cases last : rest = []
    · subst last
      rw [run_charactersOf_cons _ _ (exec_awaiting_next (next := .check kind tag (got ++ [b])) runs listens begun gap
        nofun ((State.character_payload rfl).trans (congrArg (State.awaitByte · _) (if_neg (by simp)))))]
      exact run_check runs listens kind tag check (e + p.1) fits (by simpa using enough) gaps
    · rw [run_charactersOf_cons _ _ (exec_awaiting_next
          (next := .payload (got ++ b :: rest).length kind tag (got ++ [b])) runs listens begun gap nofun
          ((State.character_payload rfl).trans (congrArg (State.awaitByte · _) (if_pos (by
            have := List.length_pos_iff.2 last
            simp
            omega))))), bytes]
      exact ih (e + p.1) last (by simpa using fits) (by simpa using enough) gaps

/-- The start byte, taken in HUNT. -/
theorem exec_startByte {s : State} {dt ago : Nat} (runs : s.Running) (hunts : s.link.receiver = .hunt)
    (listens : s.link.listenFrom ≤ s.now) (begun : ago ≤ dt) :
    exec (.characterReceived dt 0xB5#8 ago true) s = .next (s.awaiting .length dt) := by
  have early : (s.advance dt).link.listenFrom + ago ≤ (s.advance dt).now := Nat.add_le_add listens begun
  rw [exec_character runs, State.takeCharacter_hunt (s := s.advance dt) hunts early,
    State.character_hunt (s := s.advance dt) hunts, if_pos rfl]
  exact congrArg Host.Outcome.next (State.settle_busy (s := (s.advance dt).awaitByte .length) runs.2
    (by simp [State.isQuiet, Link.isQuiet, State.awaitByte]))

/-- Settles O46: the characters of a frame, taken one by one, do what the frame does. -/
theorem charactersMakeAFrame : Obligations.CharactersMakeAFrame := by
  intro s kind tag check payload times runs hunts listens fits enough gaps
  obtain _ | ⟨p0, _ | ⟨p1, _ | ⟨p2, _ | ⟨p3, times⟩⟩⟩⟩ := times
  · simp at enough
  · simp at enough
  · simp at enough
  · simp at enough
  simp only [List.forall_mem_cons] at gaps
  obtain ⟨⟨begun0, _⟩, ⟨begun1, gap1⟩, ⟨begun2, gap2⟩, ⟨begun3, gap3⟩, gaps⟩ := gaps
  have length : (BitVec.ofNat 8 payload.length).toNat = payload.length := by
    rw [BitVec.toNat_ofNat]
    omega
  have lengthTaken := exec_awaiting_next (b := BitVec.ofNat 8 payload.length) (e := p0.1) (h := .length)
    (next := .kind payload.length) runs listens begun1 gap1 nofun
    ((State.character_length rfl).trans ((if_neg (by omega)).trans (by rw [length])))
  have kindTaken := exec_awaiting_next (b := kind) (e := p0.1 + p1.1) (h := .kind payload.length) runs listens begun2
    (next := .tag payload.length kind) gap2 nofun (State.character_kind rfl)
  have tagTaken := exec_awaiting_next (b := tag) (e := p0.1 + p1.1 + p2.1) (h := .tag payload.length kind) runs listens
    begun3 gap3 (by split <;> nofun) (State.character_tag rfl)
  change State.run (charactersOf _ _) s = _
  rw [List.cons_append, List.cons_append, List.cons_append, List.cons_append,
    run_charactersOf_cons _ _ (exec_startByte runs hunts listens begun0), run_charactersOf_cons _ _ lengthTaken,
    run_charactersOf_cons _ _ kindTaken, run_charactersOf_cons _ _ tagTaken]
  simp only [List.map_cons, List.sum_cons, ← Nat.add_assoc]
  by_cases empty : payload = []
  · subst empty
    exact run_check runs listens kind tag check _ fits (by simpa using enough) gaps
  · rw [if_neg (by simpa using empty)]
    exact run_payload (got := []) runs listens kind tag check _ empty fits (by simpa using enough) gaps

end Sys2Proof.Machine
end

section
/-! PROOF. The outbound side of the link (09 R168, R170 to R173), and the requests that wait (R167). -/

namespace Sys2Proof.Machine

/-! ### Notices and the serializer (09 R170 to R172) -/

theorem Link.post_full {l : Link} {n : Notice} (full : 12 ≤ l.notices.length) : l.post n = { l with lost := true } :=
  if_neg (Nat.not_lt.2 full)

theorem Link.post_room {l : Link} {n : Notice} (room : l.notices.length < 12) :
    l.post n = Link.startNext { l with notices := l.notices ++ [n] } := if_pos room

theorem Link.post_ite (l : Link) (n : Notice) :
    l.post n =
      if 12 ≤ l.notices.length then { l with lost := true }
      else if l.sending = none ∧ l.replies = [] ∧ l.notices = [] then
        { l with notices := [n], sending := some (.notice l.seq l.lost), lost := false }
      else if l.sending = none then
        (match l.replies with
          | _ :: _ => { l with notices := l.notices ++ [n], sending := some .reply }
          | [] =>
            { l with
              notices := l.notices ++ [n], sending := some (.notice l.seq l.lost), lost := false })
      else { l with notices := l.notices ++ [n] } := by
  split
  · next full => exact Link.post_full full
  next room =>
  rw [Link.post_room (Nat.lt_of_not_le room)]
  clear room
  obtain ⟨receiver, interByte, listenFrom, intake, handler, replies, cache, notices, lost, seq, sending, fast⟩ := l
  cases sending with
  | some x => rfl
  | none =>
    cases replies with
    | cons r rest => rfl
    | nil => cases notices <;> rfl

/-! ### The requests that wait are taken (09 R167) -/

/-- What the handler makes of the requests `w` that wait: it takes them one after the other as long as it may. -/
def State.drain (d : Doze) : List Request → State → State
  | [], s => s.refit d []
  | r :: rest, s =>
    if s.link.handler = .idle ∧ s.link.replies.length < 2 then State.drain d rest (s.handle r)
    else s.refit d (r :: rest)

theorem State.takeRequest_refit (d : Doze) (r : Request) (rest : List Request) (s : State) :
    (s.refit d (r :: rest)).takeRequest =
      if s.link.handler = .idle ∧ s.link.replies.length < 2 then (s.handle r).refit d rest
      else s.refit d (r :: rest) := by
  rw [← State.handle_refit]
  rfl

theorem State.iterate_takeRequest (d : Doze) (w : List Request) {n : Nat} (enough : w.length ≤ n) (s : State) :
    State.takeRequest^[n] (s.refit d w) = s.drain d w := by
  induction w generalizing n s with
  | nil => exact Function.iterate_fixed (State.takeRequest_empty rfl) n
  | cons r rest ih =>
    obtain _ | n := n
    · simp at enough
    have step := State.takeRequest_refit d r rest s
    unfold State.drain
    split
    · next takes =>
      rw [Function.iterate_succ_apply, step, if_pos takes]
      exact ih (Nat.le_of_succ_le_succ enough) _
    · next stands => exact Function.iterate_fixed (step.trans (if_neg stands)) _

theorem State.takeRequests_refit (d : Doze) {w : List Request} (few : w.length ≤ 3) (s : State) :
    (s.refit d w).takeRequests = s.drain d w :=
  State.iterate_takeRequest d w few s

/-- A further request, behind those that wait. -/
theorem State.drain_append (d : Doze) (w : List Request) (q : Request) (s : State) :
    s.drain d (w ++ [q]) = ((s.drain d w).refit d ((s.drain d w).link.intake ++ [q])).takeRequests := by
  induction w generalizing s with
  | nil => exact (State.takeRequests_refit d (by simp) s).symm
  | cons r rest ih =>
    rw [List.cons_append]
    unfold State.drain
    split
    · exact ih _
    · next stands =>
      rw [not_and_or, Nat.not_lt] at stands
      have stands : s.link.handler = .restarting ∨ 2 ≤ s.link.replies.length := by
        refine stands.imp_left fun busy => ?_
        cases handler : s.link.handler with
        | idle => exact absurd handler busy
        | restarting => rfl
      exact (State.takeRequests_stands (s := s.refit d (r :: (rest ++ [q]))) stands).symm

theorem State.drain_withDoze (d d' : Doze) (w : List Request) (s : State) :
    (s.drain d w).withDoze d' = s.drain d' w := by
  induction w generalizing s with
  | nil => rfl
  | cons r rest ih =>
    unfold State.drain
    split
    · exact ih _
    · rfl

theorem State.drain_frame (d : Doze) (w : List Request) (s : State) :
    (s.drain d w).heldInReset = s.heldInReset ∧ (s.drain d w).doze = d
      ∧ (s.drain d w).link.receiver = s.link.receiver ∧ (s.drain d w).link.interByte = s.link.interByte
      ∧ (s.drain d w).link.intake.length ≤ w.length := by
  induction w generalizing s with
  | nil => exact ⟨rfl, rfl, rfl, rfl, Nat.le_refl _⟩
  | cons r rest ih =>
    unfold State.drain
    split
    · obtain ⟨held, doze, receiver, interByte, few⟩ := ih (s.handle r)
      simp only [State.handle_frame] at held receiver interByte
      exact ⟨held, doze, receiver, interByte, Nat.le_succ_of_le few⟩
    · exact ⟨rfl, rfl, rfl, rfl, Nat.le_refl _⟩

/-- The frame of a request, received whole. -/
def frameOf (q : Request) : Instr := .linkFrameReceived 0 q.kind q.tag q.payload (frameCheck q.kind q.tag q.payload)

theorem State.judge_good {q : Request} (request : q.kind.toNat < 64) {s : State} (room : s.link.intake.length < 3) :
    s.judge q.kind q.tag q.payload (frameCheck q.kind q.tag q.payload) =
      (s.refit s.doze (s.link.intake ++ [q])).takeRequests := by
  have kinds : isRequest q.kind = true := decide_eq_true request
  exact (if_neg (not_not.2 rfl)).trans ((if_neg (by simp [kinds])).trans (if_neg (Nat.not_le.2 room)))

theorem State.hunting_frame {u : State} (hunts : u.link.receiver = .hunt) (idle : u.link.interByte = .stopped) :
    (u.advance 0).toHunt.stopDelay = u.withDoze { u.doze with delay := .stopped } := by
  have still : { u.link with receiver := .hunt, interByte := .stopped } = u.link := by rw [← hunts, ← idle]
  exact congrArg (fun link => { u with link := link, doze := { u.doze with delay := .stopped } }) still

section

variable {s u : State} {d : Doze}

/-- A request that comes in when the requests before it have been taken. -/
theorem exec_frameOf (runs : u.Running) (stopped : d = { u.doze with delay := .stopped }) {w : List Request}
    (drained : u.withDoze d = s.drain d w) (hunts : s.link.receiver = .hunt) (idle : s.link.interByte = .stopped)
    (few : w.length < 3) {q : Request} (request : q.kind.toNat < 64) (fits : q.payload.length ≤ 60) :
    exec (frameOf q) u = .next (s.drain d (w ++ [q])) := by
  obtain ⟨_, doze, receiver, interByte, room⟩ := State.drain_frame d w s
  have still : (u.advance 0).toHunt.stopDelay = s.drain d w := by
    rw [← drained, stopped]
    rw [← drained] at receiver interByte
    exact State.hunting_frame (receiver.trans hunts) (interByte.trans idle)
  have judged := State.judge_good request (Nat.lt_of_le_of_lt room few)
  rw [doze, ← State.drain_append, ← still] at judged
  have kept : { (s.drain d (w ++ [q])).doze with delay := .stopped } = (s.drain d (w ++ [q])).doze := by
    rw [(State.drain_frame d (w ++ [q]) s).2.1, stopped]
  rw [frameOf, exec_frame runs fits judged, kept]

/-- The requests that wait, received one after the other. -/
theorem run_frames (w w' : List Request) (runs : u.Running) (stopped : d = { u.doze with delay := .stopped })
    (drained : u.withDoze d = s.drain d w') (hunts : s.link.receiver = .hunt) (idle : s.link.interByte = .stopped)
    (few : (w' ++ w).length ≤ 3) (more : w ≠ [])
    (good : ∀ q ∈ w, q.kind.toNat < 64 ∧ q.payload.length ≤ 60) :
    State.run (w.map frameOf) u = .next (s.drain d (w' ++ w)) := by
  induction w generalizing w' u with
  | nil => exact absurd rfl more
  | cons q rest ih =>
    obtain ⟨⟨request, fits⟩, good⟩ := List.forall_mem_cons.1 good
    have taken := exec_frameOf runs stopped drained hunts idle (by simp at few; omega) request fits
    rw [List.map_cons, State.run, taken]
    dsimp only
    by_cases last : rest = []
    · rw [last]
      rfl
    · obtain ⟨held, doze, _⟩ := State.drain_frame d (w' ++ [q]) s
      obtain ⟨heldAfter, _⟩ := State.drain_frame d w' s
      have on : s.heldInReset = false := by rw [← heldAfter, ← drained]; exact runs.1
      have awake : d.state = .awake := by rw [stopped]; exact runs.2
      have rests : { d with delay := .stopped } = d := by rw [stopped]
      rw [ih (u := s.drain d (w' ++ [q])) (w' ++ [q]) ⟨held.trans on, by rw [doze, awake]⟩ (by rw [doze, rests])
        (State.drain_withDoze ..) (by simpa using few) last good]
      simp

/-- A frame that has been sent lets the handler take what waits, as though it came in now (09 R167). -/
theorem exec_frameEnd {dt : Nat} {strap : Bool} {s1 : State} (runs : s.Running)
    (ends : ∀ w, (State.advance dt { s with link := { s.link with intake := w } }).outboundEnds strap =
      (s1.refit s.doze w).takeRequests)
    (held : s1.heldInReset = s.heldInReset) (hunts : s1.link.receiver = .hunt) (idle : s1.link.interByte = .stopped)
    (few : s.link.intake.length ≤ 3) (good : ∀ q ∈ s.link.intake, q.kind.toNat < 64 ∧ q.payload.length ≤ 60) :
    exec (.outboundFrameEnd ⟨dt, strap⟩) s =
      State.run (.outboundFrameEnd ⟨dt, strap⟩ :: s.link.intake.map frameOf)
        { s with link := { s.link with intake := [] } } := by
  have first : exec (.outboundFrameEnd ⟨dt, strap⟩) s = .next (s1.drain s.doze s.link.intake).settle := by
    rw [← State.takeRequests_refit s.doze few, ← ends]
    exact congrArg Host.Outcome.next (State.event_running runs dt _)
  have alone : exec (.outboundFrameEnd ⟨dt, strap⟩) { s with link := { s.link with intake := [] } } =
      .next (s1.refit s.doze []).settle := by
    have empty : (s1.refit s.doze []).takeRequests = s1.refit s.doze [] :=
      State.takeRequests_refit s.doze (w := []) (Nat.zero_le 3) s1
    rw [← empty, ← ends]
    exact congrArg Host.Outcome.next
      (State.event_running (s := { s with link := { s.link with intake := [] } }) runs dt _)
  rw [State.run, alone, first]
  dsimp only
  by_cases none_ : s.link.intake = []
  · rw [none_]
    rfl
  · have runs' : (s1.refit s.doze []).settle.Running := ⟨held.trans runs.1, runs.2⟩
    have awake : (s1.drain s.doze s.link.intake).doze.state = .awake := by
      rw [(State.drain_frame s.doze s.link.intake s1).2.1]
      exact runs.2
    have busy : (s1.drain s.doze s.link.intake).isQuiet = false := by
      rw [← State.takeRequests_refit s.doze few]
      exact State.takeRequests_notQuiet none_
    rw [run_frames (s := s1) (d := { s.doze with delay := .stopped }) s.link.intake [] runs' rfl rfl hunts idle few none_ good,
      State.settle_busy awake busy, (State.drain_frame s.doze s.link.intake s1).2.1]
    exact congrArg Host.Outcome.next (State.drain_withDoze s.doze _ s.link.intake s1)

end

/-! ### A frame has been sent (09 R168, R170 to R172) -/

/-- The cache once the reply `r` has left the buffer, with `rest` behind it (09 R168). -/
theorem Link.setClosing_eq (r : Reply) (rest : List Reply) (now : Nat) (l : Link) :
    l.setClosing r rest now =
      { l with
        cache :=
          if r.ofEntry = true ∧ ∀ p ∈ rest, p.ofEntry = false then
            l.cache.map fun e => { e with closing := .running (now + 2000000) }
          else l.cache } := by
  unfold Link.setClosing
  simp only [List.any_eq_true, not_exists, not_and, Bool.not_eq_true]
  split <;> rfl

theorem Link.replySent_refit (w : List Request) (r : Reply) (rest : List Reply) (now : Nat) (l : Link) :
    (l.refit w).replySent r rest now = (l.replySent r rest now).refit w := by
  unfold Link.replySent
  rw [← Link.startNext_refit, Link.setClosing_eq, Link.setClosing_eq]
  rfl

theorem Link.noticeSent_refit (w : List Request) (rest : List Notice) (l : Link) :
    (l.refit w).noticeSent rest = (l.noticeSent rest).refit w :=
  Link.startNext_refit w { l with notices := rest, sending := none, seq := l.seq + 1#8 }

theorem State.takeRequests_empty {s : State} (empty : s.link.intake = []) : s.takeRequests = s := by
  unfold State.takeRequests
  rw [State.takeRequest_empty empty, State.takeRequest_empty empty, State.takeRequest_empty empty]

section

variable {s : State} {r : Reply} {rest : List Reply} {n : Notice} {later : List Notice} {tag : Byte} {lost : Bool}

theorem State.outboundEnds_reply (sends : s.link.sending = some .reply) (oldest : s.link.replies = r :: rest)
    (goesOn : r.body ≠ .restarting) (strap : Bool) :
    s.outboundEnds strap = { s with link := s.link.replySent r rest s.now }.takeRequests := by
  unfold State.outboundEnds
  rw [sends, oldest]
  exact if_neg goesOn

theorem State.outboundEnds_notice (sends : s.link.sending = some (.notice tag lost)) (front : s.link.notices = n :: later)
    (strap : Bool) : s.outboundEnds strap = { s with link := s.link.noticeSent later }.takeRequests := by
  unfold State.outboundEnds
  rw [sends, front]

end

/-- Settles O48: notices and replies leave in their order; ATTN follows the notice queue. -/
theorem framesLeaveInOrder : Obligations.FramesLeaveInOrder := by
  refine ⟨fun l n => (Link.post_ite l n).trans ?_, fun s on => ?_, fun s dt strap runs => ?_⟩
  · cases l.replies <;> rfl
  · simp [State.attnAsserted, on]
  refine ⟨fun r rest sends oldest goesOn => ?_, fun tag lost n rest sends front => ?_⟩
  · have ends (w : List Request) : (State.advance dt { s with link := s.link.refit w }).outboundEnds strap =
        (State.refit s.doze w
          { s.advance dt with link := s.link.replySent r rest (s.now + dt) }).takeRequests := by
      refine (State.outboundEnds_reply (s := State.advance dt { s with link := s.link.refit w }) sends oldest goesOn
        strap).trans ?_
      exact congrArg (fun link => State.takeRequests { s.advance dt with link := link })
        (Link.replySent_refit w r rest (s.now + dt) s.link)
    refine ⟨fun empty => ?_, fun few hunts idle good => exec_frameEnd runs ends rfl (by simpa using hunts)
      (by simpa using idle) few good⟩
    dsimp only
    have acts := (State.outboundEnds_reply (s := s.advance dt) sends oldest goesOn strap).trans
      (State.takeRequests_empty (by simpa using empty))
    refine congrArg Host.Outcome.next ((State.event_running runs dt _).trans (congrArg State.settle (acts.trans ?_)))
    refine congrArg (fun link => { s.advance dt with link := link }) ?_
    change Link.startNext { s.link.setClosing r rest (s.now + dt) with replies := rest, sending := none } = _
    rw [Link.setClosing_eq]
    cases rest with
    | cons q rest => rfl
    | nil => cases s.link.notices <;> rfl
  · have ends (w : List Request) : (State.advance dt { s with link := s.link.refit w }).outboundEnds strap =
        (State.refit s.doze w { s.advance dt with link := s.link.noticeSent rest }).takeRequests := by
      refine (State.outboundEnds_notice (s := State.advance dt { s with link := s.link.refit w }) sends front
        strap).trans ?_
      exact congrArg (fun link => State.takeRequests { s.advance dt with link := link })
        (Link.noticeSent_refit w rest s.link)
    refine ⟨fun empty => ?_, fun few hunts idle good => exec_frameEnd runs ends rfl (by simpa using hunts)
      (by simpa using idle) few good⟩
    dsimp only
    have acts := (State.outboundEnds_notice (s := s.advance dt) sends front strap).trans
      (State.takeRequests_empty (by simpa using empty))
    refine congrArg Host.Outcome.next ((State.event_running runs dt _).trans (congrArg State.settle (acts.trans ?_)))
    refine congrArg (fun link => { s.advance dt with link := link }) ?_
    change Link.startNext { s.link with notices := rest, sending := none, seq := s.link.seq + 1#8 } = _
    dsimp only
    cases s.link.replies with
    | cons r rest => rfl
    | nil => cases rest <;> rfl

end Sys2Proof.Machine
end

section
/-! PROOF. The Image Store and the Supply Watch (10 sections 10.1 to 10.4). -/

namespace Sys2Proof.Machine

/-! ### The target of a save and its image (10 R178, R180, R181) -/

theorem Store.highest_eq (st : Store) : st.highest = max st.bankA.generation st.bankB.generation := by
  obtain ⟨bankA, bankB, op⟩ := st
  cases bankA <;> cases bankB <;> simp [Store.highest, Store.newest, Bank.generation]
  grind

theorem State.target_eq {s : State} (sound : s.BanksSound) :
    s.store.target = if s.store.bankB.generation < s.store.bankA.generation then .b else .a := by
  obtain ⟨_, _, leastA, _, apart, _⟩ := sound
  unfold Store.target Store.newest
  cases bankA : s.store.bankA with
  | invalid => cases s.store.bankB <;> rfl
  | valid ga imgA =>
    rw [bankA] at leastA apart
    cases bankB : s.store.bankB with
    | invalid => exact (if_pos (leastA nofun)).symm
    | valid gb imgB =>
      rw [bankB] at apart
      have apart : ga ≠ gb := apart nofun
      obtain lt | lt := Nat.lt_or_gt_of_ne apart
      · simp [lt, Nat.not_lt.2 lt.le, Bank.generation, BankName.other]
      · simp [lt, Nat.not_lt.2 lt.le, Bank.generation, BankName.other]

theorem Store.setBank_invalid (st : Store) (bank : BankName) (op : StoreOp) :
    { st.setBank bank .invalid with op := op } =
      match bank with
      | .a => { st with bankA := .invalid, op := op }
      | .b => { st with bankB := .invalid, op := op } := by
  cases bank <;> rfl

theorem countP_ofFn {α : Type} {n : Nat} (p : α → Bool) (f : Fin n → α) :
    (Vector.ofFn f).toList.countP p = (List.finRange n).countP fun i => p (f i) := by
  rw [Vector.toList_ofFn, List.ofFn_eq_map, List.countP_map]
  rfl

theorem State.writeTime_image (s : State) :
    s.image.writeTime =
      40000 + 6000 * (List.finRange 16).countP (fun t => s.image.slots[t].isSome)
        + 3000 * (List.finRange 8).countP fun k => s.keys[k].binding.isSome := by
  have slots : s.image.slots.toList.countP Option.isSome =
      (List.finRange 16).countP fun t => s.image.slots[t].isSome := by
    simp only [State.image, countP_ofFn, Fin.getElem_fin, Vector.getElem_ofFn]
  have bindings : s.image.bindings.toList.countP Option.isSome =
      (List.finRange 8).countP fun k => s.keys[k].binding.isSome := countP_ofFn ..
  rw [Image.writeTime, slots, bindings]
  rfl

theorem State.image_eq (s : State) :
    s.image =
      { slots :=
          Vector.ofFn fun t : Fin 16 =>
            match s.lib.slots[t].state with
            | .ready d | .revising d => some d
            | .empty | .draft => none
        bindings := Vector.ofFn fun k : Fin 8 => s.keys[k].binding
        settings := s.settings } := by
  have definition (st : SlotState) :
      st.definition = match st with | .ready d | .revising d => some d | .empty | .draft => none := by
    cases st <;> rfl
  unfold State.image
  simp only [definition]

/-! ### SAVE and WIPE (10 R180 to R184) -/

section

variable {s : State}

theorem State.save_eq (s : State) :
    s.save =
      if s.supply.low then (s, .status .lowSupply)
      else if s.store.op ≠ .idle then (s, .status .saving)
      else if 4294967295 ≤ s.store.highest then (s, .status .badValue)
      else (s.beginSave, .saveAccepted s.store.target (s.store.highest + 1)) := by
  unfold State.save
  cases s.store.op <;> rfl

theorem State.writeCompletes_due {bank : BankName} {gen done : Nat} {img : Image}
    (writes : s.store.op = .writing bank gen done img) (due : done ≤ s.now) :
    s.writeCompletes =
      { s with store := { s.store.setBank bank (.valid gen img) with op := .idle } }.post (.saveDone (.ok bank gen)) := by
  unfold State.writeCompletes
  rw [writes]
  exact if_pos due

theorem State.wipe_busy (busy : s.store.op ≠ .idle) : s.wipe = (s, .status .saving) := by
  unfold State.wipe
  cases op : s.store.op with
  | idle => exact absurd op busy
  | writing | wiping => rfl

theorem State.wipe_idle (idle : s.store.op = .idle) :
    s.wipe =
      ({ s with
          store :=
            { s.store.setBank s.store.target .invalid with
              op := .wiping s.store.target (s.now + 30000) false } },
        .status .accepted) := by
  unfold State.wipe
  rw [idle]
  rfl

theorem State.eraseEnds_due {bank : BankName} {done : Nat} {second : Bool} (wipes : s.store.op = .wiping bank done second)
    (due : done ≤ s.now) :
    s.eraseEnds =
      if second then { s with store := { s.store with op := .idle } }.post (.saveDone .wiped)
      else
        { s with
          store :=
            { s.store.setBank bank.other .invalid with op := .wiping bank.other (s.now + 30000) true } } := by
  unfold State.eraseEnds
  rw [wipes]
  exact if_pos due

end

/-- Settles O50: SAVE and WIPE: refusals, target, generation, completion. -/
theorem saveAndWipe : Obligations.SaveAndWipe := by
  intro s dt tag sound highest target image lasts without
  have highest_ : s.store.highest = highest := s.store.highest_eq
  have target_ : s.store.target = target := State.target_eq sound
  have image_ : s.image = image := s.image_eq
  have lasts_ : s.image.writeTime = lasts := s.writeTime_image.trans (by rw [image_])
  have without_ (bank : BankName) (op : StoreOp) : { s.store.setBank bank .invalid with op := op } = without bank op :=
    s.store.setBank_invalid bank op
  refine ⟨fun ready misses => ?_, fun bank gen done img runs writes due => ?_, fun ready misses => ⟨fun busy => ?_, fun idle => ?_⟩,
    fun bank done second runs wipes due => ?_⟩
  · have saves := (s.received dt).save_eq
    have answers {t : State} {body : ReplyBody} (e : (s.received dt).save = (t, body)) :
        exec (.save dt tag) s = .next { t with link := t.link.afterRequest ⟨0x08#8, tag, []⟩ body } :=
      exec_handled (k := .save) rfl ready misses nofun (by simp) rfl e
    dsimp only
    split
    · next low => exact answers (saves.trans (if_pos low))
    next ok =>
    replace saves := saves.trans (if_neg ok)
    split
    · next busy => exact answers (saves.trans (if_pos busy))
    next rests =>
    replace saves := saves.trans (if_neg rests)
    rw [← highest_]
    split
    · next last => exact answers (saves.trans (if_pos last))
    next more =>
    refine (answers (saves.trans (if_neg more))).trans ?_
    rw [← target_, ← without_, ← lasts_, ← image_]
    rfl
  · have acts := State.writeCompletes_due (s := s.advance dt) writes due
    refine congrArg Host.Outcome.next ((State.event_running runs dt _).trans (congrArg State.settle (acts.trans ?_)))
    cases bank <;> rfl
  · exact exec_refused (k := .wipe) rfl ready misses nofun (by simp) rfl (State.wipe_busy (s := s.received dt) busy)
  · rw [← target_, ← without_]
    exact exec_handled (k := .wipe) rfl ready misses nofun (by simp) rfl (State.wipe_idle (s := s.received dt) idle)
  · have acts := State.eraseEnds_due (s := s.advance dt) wipes due
    refine congrArg Host.Outcome.next ((State.event_running runs dt _).trans (congrArg State.settle (acts.trans ?_)))
    dsimp only
    rw [← without_]
    cases bank <;> cases second <;> rfl

/-! ### VDD moves (10 R183, R186) -/

section

variable {s : State} {dt vdd : Nat} {strap : Bool}

theorem exec_supplyChange (on : s.heldInReset = false) :
    exec (.supplyChange dt ⟨vdd, strap⟩) s = .next ((s.advance dt).supplyMoves vdd).settle :=
  congrArg Host.Outcome.next (if_neg (by simp [on]))

theorem State.setVdd_held (on : s.heldInReset = false) : (s.setVdd vdd).heldInReset = decide (vdd < 1800) := by
  rw [State.heldInReset, Bool.or_eq_false_iff] at on
  show (s.resetLow || _) = _
  rw [on.1]
  rfl

theorem State.supplyMoves_low (on : s.heldInReset = false) (low : vdd < 1800) : s.supplyMoves vdd = s.setVdd vdd :=
  if_pos ((State.setVdd_held on).trans (decide_eq_true low))

theorem State.supplyMoves_on (on : s.heldInReset = false) (high : 1800 ≤ vdd) :
    s.supplyMoves vdd = if s.doze.state = .awake then (s.setVdd vdd).compareSupply else s.setVdd vdd := by
  have stays : (s.setVdd vdd).heldInReset = false :=
    (State.setVdd_held on).trans (decide_eq_false (Nat.not_lt.2 high))
  refine (if_neg (by simp [stays])).trans ?_
  unfold State.whenAwake State.isAwake
  simp only [decide_eq_true_eq]
  rfl

theorem State.abandonSave_writing {target : BankName} {gen done : Nat} {img : Image}
    (writes : s.store.op = .writing target gen done img) :
    s.abandonSave = { s with store := { s.store with op := .idle } }.post (.saveDone (.failedSupply target)) := by
  unfold State.abandonSave
  rw [writes]

theorem State.compareSupply_staysLow (low : s.supply.low = true)
    (below : s.supply.vdd ≤ s.settings.supplyThreshold * 100 + 100) : s.compareSupply = s := by
  refine State.compareSupply_same ?_
  unfold supplyAfter
  rw [if_neg (c := s.settings.supplyThreshold * 100 + 100 < s.supply.vdd) (Nat.not_lt.2 below), low, ite_self]

theorem State.compareSupply_staysOk (ok : s.supply.low = false)
    (above : s.settings.supplyThreshold * 100 ≤ s.supply.vdd) : s.compareSupply = s := by
  refine State.compareSupply_same ?_
  unfold supplyAfter
  rw [if_neg (Nat.not_lt.2 above), ok, ite_self]

end

/-- Settles O51: VDD moves: reset, hysteresis, notices and a save that is abandoned. -/
theorem supplyIsWatched : Obligations.SupplyIsWatched := by
  intro s dt vdd strap
  dsimp only
  refine ⟨fun held => congrArg Host.Outcome.next (if_pos held), fun on low => ⟨?_, ?_⟩,
    fun on high => ⟨fun asleep => ?_, fun awake => ?_⟩⟩
  · exact (exec_supplyChange on).trans
      (congrArg (Host.Outcome.next ∘ State.settle) (State.supplyMoves_low (s := s.advance dt) on low))
  · exact (State.setVdd_held (s := s.advance dt) on).trans (decide_eq_true low)
  · exact (exec_supplyChange on).trans (congrArg (Host.Outcome.next ∘ State.settle)
      ((State.supplyMoves_on (s := s.advance dt) on high).trans (if_neg asleep)))
  have moves {t : State} (compares : ((s.advance dt).setVdd vdd).compareSupply = t) :
      exec (.supplyChange dt ⟨vdd, strap⟩) s = .next t.settle :=
    (exec_supplyChange on).trans (congrArg (Host.Outcome.next ∘ State.settle)
      ((State.supplyMoves_on (s := s.advance dt) on high).trans ((if_pos awake).trans compares)))
  split
  · next low =>
    split
    · next above => exact moves (State.compareSupply_toOk (s := (s.advance dt).setVdd vdd) low above)
    · next below =>
      exact moves (State.compareSupply_staysLow (s := (s.advance dt).setVdd vdd) low (Nat.not_lt.1 below))
  next ok =>
  rw [Bool.not_eq_true] at ok
  split
  · next below =>
    have turns := State.compareSupply_toLow (s := (s.advance dt).setVdd vdd) ok below
    cases op : s.store.op with
    | writing target gen done img => exact moves (turns.trans (State.abandonSave_writing op))
    | idle | wiping =>
      exact moves (turns.trans (State.abandonSave_notWriting (by simp [State.isWriting, State.setVdd, op])))
  · next above =>
    exact moves (State.compareSupply_staysOk (s := (s.advance dt).setVdd vdd) ok (Nat.not_lt.1 above))

end Sys2Proof.Machine
end

section
/-! PROOF. What a SAVE has written, a pin reset brings back (10 R178 to R181). -/

namespace Sys2Proof.Machine

/-! ### The three commands -/

section

variable {s : State} {dt : Nat}

/-- A SAVE that is accepted begins the write at once. -/
theorem exec_save_accepted {tag : Byte} (ready : s.Ready) (misses : s.Misses dt ⟨0x08#8, tag, []⟩)
    (ok : s.supply.low = false) (idle : s.store.op = .idle) (more : s.store.highest < 4294967295) :
    exec (.save dt tag) s =
      .next
        { s.answered dt ⟨0x08#8, tag, []⟩ (.saveAccepted s.store.target (s.store.highest + 1)) with
          store :=
            { s.store.setBank s.store.target .invalid with
              op := .writing s.store.target (s.store.highest + 1) (s.now + dt + s.image.writeTime) s.image } } := by
  have saves : (s.received dt).save =
      ((s.received dt).beginSave, .saveAccepted s.store.target (s.store.highest + 1)) :=
    (s.received dt).save_eq.trans ((if_neg (by simpa using ok)).trans
      ((if_neg (not_not.2 idle)).trans (if_neg (Nat.not_le.2 more))))
  exact exec_handled (k := .save) rfl ready misses nofun (by simp) rfl saves

theorem exec_writeCompletes {bank : BankName} {gen done : Nat} {img : Image} (runs : s.Running)
    (writes : s.store.op = .writing bank gen done img) (due : done ≤ s.now + dt) :
    exec (.saveWriteComplete dt) s =
      .next (State.settle
        ({ s.advance dt with store := { s.store.setBank bank (.valid gen img) with op := .idle } }.post
          (.saveDone (.ok bank gen)))) :=
  congrArg Host.Outcome.next ((State.event_running runs dt _).trans
    (congrArg State.settle (State.writeCompletes_due (s := s.advance dt) writes due)))

theorem exec_pinReset_released {strap : Bool} (on : s.heldInReset = false) :
    exec (.pinReset dt (some strap)) s = .next (((s.advance dt).setReset false).hardReset .pin strap) := by
  rw [State.heldInReset, Bool.or_eq_false_iff] at on
  have released : ((s.advance dt).setReset false).heldInReset = false := on.2
  exact congrArg Host.Outcome.next (if_neg (by simp [released]))

end

theorem Image.writeTime_le (img : Image) : img.writeTime ≤ 160000 := by
  have slots : img.slots.toList.countP Option.isSome ≤ 16 := by
    simpa using List.countP_le_length (p := Option.isSome) (l := img.slots.toList)
  have bindings : img.bindings.toList.countP Option.isSome ≤ 8 := by
    simpa using List.countP_le_length (p := Option.isSome) (l := img.bindings.toList)
  unfold Image.writeTime
  simp only [Config.writeBase, Config.writePerSlot, Config.writePerBinding]
  omega

/-- The bank that a save has written is the one that is loaded (10 R179). -/
theorem Store.boot_saved (st : Store) (img : Image) (op op' : StoreOp) :
    Store.boot
        { ({ st.setBank st.target .invalid with op := op }).setBank st.target (.valid (st.highest + 1) img) with
          op := op' } =
      (img, .loaded st.target (st.highest + 1)) := by
  have other := st.generation_other_target
  refine Store.boot_eq (.inr ?_)
  cases target : st.target with
  | a =>
    rw [target] at other
    exact .inl ⟨_, rfl, Nat.lt_succ_of_le (Nat.le_of_eq other), rfl⟩
  | b =>
    rw [target] at other
    exact .inr ⟨_, rfl, Nat.lt_succ_of_le (Nat.le_of_eq other), rfl⟩

/-- Settles O52: what a SAVE has written, a pin reset brings back. -/
theorem savedImageComesBack : Obligations.SavedImageComesBack := by
  intro s dt wait later tag strap ready sound misses ok idle roomA roomB long bank generation
  have bank_ : s.store.target = bank := State.target_eq sound
  have generation_ : s.store.highest + 1 = generation := congrArg (· + 1) s.store.highest_eq
  have more : s.store.highest < 4294967295 := by
    rw [s.store.highest_eq]
    exact max_lt roomA roomB
  have saves := exec_save_accepted ready misses ok idle more
  rw [← bank_, ← generation_]
  refine ⟨⟨_, saves, by simp [State.answered, Link.afterRequest]⟩, ?_⟩
  obtain ⟨⟨on, awake⟩, _⟩ := ready
  have writes := exec_writeCompletes (dt := wait)
    (s := { s.answered dt ⟨0x08#8, tag, []⟩ (.saveAccepted s.store.target (s.store.highest + 1)) with
      store :=
        { s.store.setBank s.store.target .invalid with
          op := .writing s.store.target (s.store.highest + 1) (s.now + dt + s.image.writeTime) s.image } })
    ⟨on, awake⟩ rfl (Nat.add_le_add_left (s.image.writeTime_le.trans long) _)
  generalize written : State.settle _ = u at writes
  have onAfter : u.heldInReset = false := by
    rw [← written]
    exact on
  have boots : u.store.boot = (s.image, .loaded s.store.target (s.store.highest + 1)) := by
    rw [← written]
    exact s.store.boot_saved ..
  have resets := exec_pinReset_released (dt := later) (strap := strap) onAfter
  have released : ((u.advance later).setReset false).heldInReset = false := by
    rw [State.heldInReset, Bool.or_eq_false_iff] at onAfter
    exact onAfter.2
  obtain ⟨_, _, _, settings, slots, _, keys, _, _, link, _⟩ :=
    State.hardReset_after (s := (u.advance later).setReset false) released boots .pin strap
  refine ⟨((u.advance later).setReset false).hardReset .pin strap, ?_, settings, fun k => ?_, fun n => ?_, ?_⟩
  · simp only [State.run, saves, writes, resets]
  · have binding : s.image.bindings[k] = s.keys[k].binding := by simp [State.image]
    rw [keys k, ← binding]
  · have slot : s.image.slots[n] = s.lib.slots[n].state.definition := by simp [State.image]
    rw [slots n, slot]
    cases s.lib.slots[n].state <;> rfl
  · obtain ⟨_, _, _, _, _, _, notices, _⟩ := link
    rw [notices]
    rfl

end Sys2Proof.Machine
end

section
/-! PROOF. DOZE, entered and left (10 section 10.5). -/

namespace Sys2Proof.Machine

section

variable {s : State} {dt : Nat}

theorem State.settle_asleep (asleep : s.doze.state ≠ .awake) : s.settle = s := by
  unfold State.settle State.delayAfter
  cases state : s.doze.state with
  | awake => exact absurd state asleep
  | dozing | waking => rfl

theorem exec_event {c : Instr} {act : State → State} (takes : exec c s = .next (s.event dt act))
    (on : s.heldInReset = false) : exec c s = .next (act (s.advance dt)).settle :=
  takes.trans (congrArg Host.Outcome.next (if_neg (by simp [on])))

theorem Timer.pause_eq (now : Nat) (t : Timer) :
    t.pause now = match t with | .running due => .paused (due - now) | other => other := by
  cases t <;> rfl

theorem Timer.resume_eq (now : Nat) (t : Timer) :
    t.resume now = match t with | .paused left => .running (now + left) | other => other := by
  cases t <;> rfl

/-! ### Entry (10 R189, R190) -/

theorem State.delayExpires_due {due : Nat} (timer : s.doze.delay = .running due) (passed : due ≤ s.now)
    (on : s.settings.doze = true) (quiet : s.isQuiet = true) : s.delayExpires = s.enterDoze :=
  if_pos ⟨by rw [timer]; exact (Timer.isDue_running _ _).2 passed, on, quiet⟩

/-! ### The wake sources (07 R137, 10 R191) -/

theorem State.wake_dozing (dozes : s.doze.state = .dozing) (byRxin : Bool) :
    s.wake byRxin = { s with doze := { s.doze with state := .waking byRxin } } := by
  unfold State.wake
  rw [dozes]

theorem State.rxinChanges_dozing {high : Bool} (dozes : s.doze.state = .dozing) (changes : s.rx.lineHigh ≠ high) :
    s.rxinChanges high =
      { s with
        rx := { s.rx with lineHigh := high }
        doze :=
          if high = s.settings.rxHighActive ∧ s.settings.rxWake = true ∧ s.rx.state = .quiet then
            { s.doze with state := .waking true }
          else s.doze } := by
  have marks : (s.setRxinLine high).lineCondition = .mark ↔ high = s.settings.rxHighActive := by
    show (if high = s.settings.rxHighActive then IKind.mark else .space) = .mark ↔ _
    split <;> simp [*]
  unfold State.rxinChanges
  rw [if_neg changes, dozes]
  change (s.setRxinLine high).wakeOnMark = _
  by_cases wakes : high = s.settings.rxHighActive ∧ s.settings.rxWake = true ∧ s.rx.state = .quiet
  · rw [if_pos wakes]
    exact (if_pos ⟨marks.2 wakes.1, wakes.2⟩).trans (State.wake_dozing (s := s.setRxinLine high) dozes true)
  · rw [if_neg wakes]
    exact if_neg fun ⟨mark, rest⟩ => wakes ⟨marks.1 mark, rest⟩

/-! ### The end of the wake latency (10 R191) -/

theorem State.receiverWakes_eq (byRxin : Bool) (s : State) :
    s.receiverWakes byRxin =
      { s with
        rx :=
          if byRxin then
            { s.rx with
              filtered := s.lineCondition, candidate := none, state := .discard, lastEdge := s.now
              burstEnd := if s.lineCondition = .space then s.burstEndDue s.now else .stopped }
          else { s.rx with filtered := s.lineCondition, candidate := none } } := by
  unfold State.receiverWakes State.discardAtWake State.readLine
  cases byRxin with
  | false => rfl
  | true =>
    dsimp only
    cases s.lineCondition <;> rfl

theorem State.latencyEnds_waking {byRxin : Bool} (wakes : s.doze.state = .waking byRxin) :
    s.latencyEnds = (s.resumeTimers.receiverWakes byRxin).compareSupply := by
  unfold State.latencyEnds
  rw [wakes]
  rfl

end

/-- Settles O54: the part enters DOZE, wakes, and goes on. -/
theorem dozeEntryAndWake : Obligations.DozeEntryAndWake := by
  intro s dt now pause resume timers read
  have pauses : (fun t : Timer => t.pause now) = pause := funext (Timer.pause_eq now)
  have resumes : (fun t : Timer => t.resume now) = resume := funext (Timer.resume_eq now)
  refine ⟨fun due runs timer passed on quiet => ?_, fun on dozes => ⟨?_, fun high changes => ?_⟩,
    fun byRxin on wakes stays => ?_, fun byRxin on wakes ok below rests => ?_, fun byRxin on wakes low above => ?_⟩
  · have acts := State.delayExpires_due (s := s.advance dt) timer passed on quiet
    refine congrArg Host.Outcome.next ((State.event_running runs dt _).trans ((congrArg State.settle acts).trans
      ((State.settle_asleep (s := (s.advance dt).enterDoze) nofun).trans ?_)))
    rw [← pauses]
    rfl
  · refine (exec_event rfl on).trans (congrArg Host.Outcome.next ?_)
    rw [State.wake_dozing (s := s.advance dt) dozes]
    exact State.settle_asleep nofun
  · have acts := State.rxinChanges_dozing (s := s.advance dt) dozes changes
    refine congrArg Host.Outcome.next ((if_neg (by simp [on])).trans ((congrArg State.settle acts).trans
      (State.settle_asleep ?_)))
    dsimp only
    split
    · nofun
    · rw [show (s.advance dt).doze.state = .dozing from dozes]
      nofun
  · have acts := (State.latencyEnds_waking (s := s.advance dt) wakes).trans (congrArg State.compareSupply
      (State.receiverWakes_eq ..))
    have keeps : supplyAfter s.supply.vdd s.settings.supplyThreshold s.supply.low = s.supply.low := by
      unfold supplyAfter
      cases low : s.supply.low with
      | true =>
        rw [if_pos low] at stays
        rw [if_neg (c := s.settings.supplyThreshold * 100 + 100 < s.supply.vdd) (Nat.not_lt.2 stays), ite_self]
      | false =>
        rw [if_neg (by simp [low])] at stays
        rw [if_neg (Nat.not_lt.2 stays), ite_self]
    refine (exec_event rfl on).trans (congrArg (Host.Outcome.next ∘ State.settle) ((acts.trans
      (State.compareSupply_same keeps)).trans ?_))
    rw [← resumes]
    rfl
  all_goals
    have woken : ((s.advance dt).resumeTimers.receiverWakes byRxin).heldInReset = false
        ∧ ((s.advance dt).resumeTimers.receiverWakes byRxin).doze.state = .awake
        ∧ ((s.advance dt).resumeTimers.receiverWakes byRxin).link.notices = s.link.notices := by
      cases byRxin <;> exact ⟨on, rfl, rfl⟩
    obtain ⟨onAfter, awake, notices⟩ := woken
  · have acts := (State.latencyEnds_waking (s := s.advance dt) wakes).trans
      (State.compareSupply_toLow (s := (s.advance dt).resumeTimers.receiverWakes byRxin) (by simpa using ok)
        (by simpa using below))
    have still := State.abandonSave_notWriting
      (s := ((s.advance dt).resumeTimers.receiverWakes byRxin).supplyBecomes true) (by simp [State.isWriting, rests])
    refine ⟨_, (exec_event rfl on).trans (congrArg (Host.Outcome.next ∘ State.settle) (acts.trans still)),
      ⟨onAfter, awake⟩, rfl, ?_⟩
    exact (Link.post_notices ..).trans (by rw [notices]; simp)
  · have acts := (State.latencyEnds_waking (s := s.advance dt) wakes).trans
      (State.compareSupply_toOk (s := (s.advance dt).resumeTimers.receiverWakes byRxin) (by simpa using low)
        (by simpa using above))
    refine ⟨_, (exec_event rfl on).trans (congrArg (Host.Outcome.next ∘ State.settle) acts), ⟨onAfter, awake⟩, rfl, ?_⟩
    exact (Link.post_notices ..).trans (by rw [notices]; simp)

end Sys2Proof.Machine
end

section
/-! PROOF. Rendering (02 section 2.4), the emitter lines (03) and the bytes on TXD (09 R161 to R163). -/

namespace Sys2Proof.Machine

/-! ### Merging (02 R32) -/

/-- Kinds that alternate. -/
def Alternates (ivs : List Interval) : Prop := ivs.IsChain fun a b => a.kind ≠ b.kind

/-- One interval in front of a merged list. -/
def mergeInto (iv : Interval) (done : List Interval) : List Interval :=
  match done with
  | next :: rest =>
    if iv.kind = next.kind then { kind := iv.kind, dur := iv.dur + next.dur } :: rest
    else iv :: next :: rest
  | [] => [iv]

theorem merge_cons (iv : Interval) (raw : List Interval) : merge (iv :: raw) = mergeInto iv (merge raw) := by
  unfold merge
  rw [List.foldr_cons]
  generalize List.foldr _ _ raw = done
  cases done <;> rfl

theorem mergeInto_alternates {iv : Interval} {done : List Interval} (alternates : Alternates done) :
    Alternates (mergeInto iv done) := by
  unfold mergeInto
  cases done with
  | nil => exact List.isChain_singleton _
  | cons next rest =>
    dsimp only
    split
    · next same =>
      cases rest with
      | nil => exact List.isChain_singleton _
      | cons after rest =>
        obtain ⟨differ, rest⟩ := List.isChain_cons_cons.1 alternates
        exact List.isChain_cons_cons.2 ⟨fun equal => differ (same.symm.trans equal), rest⟩
    · next differ => exact List.isChain_cons_cons.2 ⟨differ, alternates⟩

theorem mergeInto_total (iv : Interval) (done : List Interval) : total (mergeInto iv done) = iv.dur + total done := by
  unfold mergeInto
  cases done with
  | nil => rfl
  | cons next rest =>
    dsimp only
    split <;> simp [total, Nat.add_assoc]

theorem mergeInto_holdsMark (iv : Interval) (done : List Interval) :
    holdsMark (mergeInto iv done) = holdsMark (iv :: done) := by
  unfold mergeInto
  cases done with
  | nil => rfl
  | cons next rest =>
    dsimp only
    split
    · next same => simp [holdsMark, same]
    · rfl

theorem merge_alternates (raw : List Interval) : Alternates (merge raw) := by
  induction raw with
  | nil => exact List.isChain_nil
  | cons iv raw ih => exact merge_cons iv raw ▸ mergeInto_alternates ih

theorem merge_total (raw : List Interval) : total (merge raw) = total raw := by
  induction raw with
  | nil => rfl
  | cons iv raw ih => rw [merge_cons, mergeInto_total, ih, total, total, List.map_cons, List.sum_cons]

theorem holdsMark_cons (iv : Interval) (ivs : List Interval) :
    holdsMark (iv :: ivs) = (decide (iv.kind = .mark) || holdsMark ivs) := List.any_cons

theorem merge_holdsMark (raw : List Interval) : holdsMark (merge raw) = holdsMark raw := by
  induction raw with
  | nil => rfl
  | cons iv raw ih => rw [merge_cons, mergeInto_holdsMark, holdsMark_cons, holdsMark_cons, ih]

/-! ### Dropping (02 R33) -/

theorem dropLeading_alternates {ivs : List Interval} (alternates : Alternates ivs) : Alternates (dropLeading ivs) := by
  unfold dropLeading
  cases ivs with
  | nil => exact alternates
  | cons iv rest =>
    dsimp only
    split
    · exact List.IsChain.tail alternates
    · exact alternates

theorem dropLeading_head {ivs : List Interval} (alternates : Alternates ivs) :
    ∀ iv ∈ (dropLeading ivs).head?, iv.kind = .mark := by
  have other {k : IKind} (differs : k ≠ .space) : k = .mark := by cases k <;> trivial
  unfold dropLeading
  cases ivs with
  | nil => simp
  | cons iv rest =>
    dsimp only
    split
    · next space =>
      cases rest with
      | nil => simp
      | cons after rest =>
        obtain ⟨differ, _⟩ := List.isChain_cons_cons.1 alternates
        simp only [List.head?_cons, Option.mem_some_iff, forall_eq']
        exact other fun same => differ (space.trans same.symm)
    · next mark =>
      simp only [List.head?_cons, Option.mem_some_iff, forall_eq']
      exact other mark

theorem dropLeading_holdsMark (ivs : List Interval) : holdsMark (dropLeading ivs) = holdsMark ivs := by
  unfold dropLeading
  cases ivs with
  | nil => rfl
  | cons iv rest =>
    dsimp only
    split
    · next space => simp [holdsMark_cons, space]
    · rfl

theorem holdsMark_reverse (ivs : List Interval) : holdsMark ivs.reverse = holdsMark ivs := List.any_reverse

theorem reverse_alternates {ivs : List Interval} : Alternates ivs.reverse ↔ Alternates ivs := by
  unfold Alternates
  rw [List.isChain_reverse]
  simp only [ne_comm]

theorem dropTrailing_alternates {ivs : List Interval} (alternates : Alternates ivs) :
    Alternates (dropTrailing ivs) :=
  reverse_alternates.2 (dropLeading_alternates (reverse_alternates.2 alternates))

theorem dropTrailing_getLast {ivs : List Interval} (alternates : Alternates ivs) :
    ∀ iv ∈ (dropTrailing ivs).getLast?, iv.kind = .mark := by
  unfold dropTrailing
  rw [List.getLast?_reverse]
  exact dropLeading_head (reverse_alternates.2 alternates)

theorem dropTrailing_holdsMark (ivs : List Interval) : holdsMark (dropTrailing ivs) = holdsMark ivs := by
  rw [dropTrailing, holdsMark_reverse, dropLeading_holdsMark, holdsMark_reverse]

theorem dropLeading_suffix (ivs : List Interval) : dropLeading ivs <:+ ivs := by
  unfold dropLeading
  cases ivs with
  | nil => exact List.suffix_rfl
  | cons iv rest =>
    dsimp only
    split
    · exact List.suffix_cons iv rest
    · exact List.suffix_rfl

theorem dropTrailing_prefix (ivs : List Interval) : dropTrailing ivs <+: ivs := by
  have dropped := List.reverse_prefix.2 (dropLeading_suffix ivs.reverse)
  rwa [List.reverse_reverse] at dropped

theorem dropTrailing_head {ivs : List Interval} (marks : ∀ iv ∈ ivs.head?, iv.kind = .mark) :
    ∀ iv ∈ (dropTrailing ivs).head?, iv.kind = .mark := by
  obtain ⟨rest, whole⟩ := dropTrailing_prefix ivs
  cases front : dropTrailing ivs with
  | nil => simp
  | cons iv more =>
    rw [front] at whole
    rw [← whole] at marks
    exact marks

theorem render_holdsMark (raw : List Interval) : holdsMark (render raw) = holdsMark raw := by
  rw [render, dropTrailing_holdsMark, dropLeading_holdsMark, merge_holdsMark]

theorem render_head (raw : List Interval) : ∀ iv ∈ (render raw).head?, iv.kind = .mark :=
  dropTrailing_head (dropLeading_head (merge_alternates raw))

/-- Settles O16: a rendered frame alternates, begins and ends with a MARK, and merging keeps the duration. -/
theorem renderedFramesAlternate : Obligations.RenderedFramesAlternate := by
  intro raw
  have dropped := dropLeading_alternates (merge_alternates raw)
  refine ⟨merge_alternates raw, merge_total raw, dropTrailing_alternates dropped, render_head raw,
    dropTrailing_getLast dropped, ?_⟩
  rw [← render_holdsMark]
  have head := render_head raw
  cases frame : render raw with
  | nil => simp [holdsMark]
  | cons iv rest =>
    rw [frame] at head
    have mark : iv.kind = .mark := head iv rfl
    simp [holdsMark_cons, mark]

/-! ### The emitter lines (03 R46 to R52) -/

theorem countP_range_mod (period n : Nat) (steps : 0 < period) :
    (List.range n).countP (fun m => decide (m % period = 0)) = n / period + if n % period = 0 then 0 else 1 := by
  have counts (n : Nat) : n.count (· ≡ 0 [MOD period]) = (List.range n).countP fun m => decide (m % period = 0) := by
    induction n with
    | zero => rfl
    | succ n ih =>
      rw [Nat.count_succ, ih, List.range_succ, List.countP_append, List.countP_singleton]
      by_cases zero : n % period = 0 <;> simp [Nat.ModEq, zero]
  rw [← counts, Nat.count_modEq_card n steps, Nat.zero_mod]
  split
  · next some_ => rw [if_neg (Nat.pos_iff_ne_zero.1 some_)]
  · next none_ => rw [if_pos (Nat.eq_zero_of_not_pos none_)]

theorem LineSetting.pin_eq (l : LineSetting) (active : Bool) :
    l.pin active =
      if active then (if l.low then .drivenLow else if l.openDrain then .notDriven else .drivenHigh)
      else (if l.low then (if l.openDrain then .notDriven else .drivenHigh) else .drivenLow) := by
  obtain ⟨enabled, low, openDrain⟩ := l
  cases low <;> cases openDrain <;> cases active <;> rfl

theorem State.markOn_iff (s : State) (k : Fin 3) (step : Nat) :
    s.markOn k step = true ↔
      s.engine.state = .emitting ∧ (s.settings.line k).enabled = true
        ∧ ∃ j p iv, s.engine.current = some j ∧ s.engine.position = some p
          ∧ s.engine.buffer[p.index]? = some iv ∧ iv.kind = .mark ∧ names j.spec.mask k = true
          ∧ 16 * (s.now - p.since) + step < 16 * iv.dur := by
  unfold State.markOn State.stepsPlayed
  cases state : s.engine.state with
  | idle | spacing | stopped => simp
  | emitting =>
    cases current : s.engine.current with
    | none => simp
    | some j =>
      cases position : s.engine.position with
      | none => simp
      | some p =>
        cases interval : s.engine.buffer[p.index]? with
        | none => simp [interval]
        | some iv => simp [interval]; grind

theorem Carrier.isActive_iff (c : Carrier) (step : Nat) :
    c.isActive step = true ↔
      match c with
      | .unmodulated => True
      | .modulated period active => step % period < active := by
  cases c with
  | unmodulated => exact iff_of_true rfl trivial
  | modulated period active => exact decide_eq_true_iff

theorem State.stepsPlayed_of {s : State} {p : Position} (position : s.engine.position = some p) (step : Nat) :
    s.stepsPlayed step = 16 * (s.now - p.since) + step := by
  unfold State.stepsPlayed
  rw [position]

/-- Settles O20: the emitter lines follow the marks of the current job, and the pins the line settings. -/
theorem linesFollowTheMarks : Obligations.LinesFollowTheMarks := by
  refine ⟨fun period d steps => (countP_range_mod period (16 * d) steps).symm, fun s k step =>
    ⟨fun held => ?_, fun on => ?_, ?_⟩⟩
  · exact if_pos (by simpa [State.heldInReset_eq, Config.resetVoltage] using held)
  · exact (if_neg (by simp [on])).trans (LineSetting.pin_eq ..)
  rw [State.lineActive, Bool.and_eq_true, State.markOn_iff, Carrier.isActive_iff]
  constructor
  · rintro ⟨⟨state, enabled, j, p, iv, current, position, interval, mark, named, lasts⟩, active⟩
    rw [State.stepsPlayed_of position] at active
    refine ⟨state, enabled, j, p, iv, current, position, interval, mark, named, lasts, ?_⟩
    cases carrier : s.carrier <;> rw [carrier] at active <;> exact active
  · rintro ⟨state, enabled, j, p, iv, current, position, interval, mark, named, lasts, active⟩
    rw [State.stepsPlayed_of position]
    refine ⟨⟨state, enabled, j, p, iv, current, position, interval, mark, named, lasts⟩, ?_⟩
    cases carrier : s.carrier <;> rw [carrier] at active <;> exact active

end Sys2Proof.Machine
end

section
/-! PROOF. The check byte and the bits on TXD (09 R161 to R163). -/

namespace Sys2Proof.Machine

/-! ### The check register (09 R163) -/

/-- A shift of the check register, taken back. -/
def crcUnshift (r : Byte) : Byte := if r.getLsbD 0 then ((r ^^^ 0x07#8) >>> 1) ||| 0x80#8 else r >>> 1

theorem crcUnshift_shift : ∀ r : Byte, crcUnshift (crcShift r) = r := by
  decide

theorem crcShift_injective : Function.Injective crcShift := Function.LeftInverse.injective crcUnshift_shift

theorem crcByte_eq (r b : Byte) : crcByte r b = crcShift^[8] (r ^^^ b) := rfl

theorem crcByte_injective_byte (r : Byte) : Function.Injective (crcByte r) := fun _ _ same =>
  (BitVec.xor_right_inj r).1 (crcShift_injective.iterate 8 same)

theorem crcByte_injective_register (b : Byte) : Function.Injective (crcByte · b) := fun _ _ same =>
  (BitVec.xor_left_inj b).1 (crcShift_injective.iterate 8 same)

theorem crc_from_injective (bytes : List Byte) : Function.Injective (bytes.foldl crcByte) := by
  induction bytes with
  | nil => exact Function.injective_id
  | cons b bytes ih => exact ih.comp (crcByte_injective_register b)

theorem crc_changed (before after : List Byte) {a b : Byte} (differ : a ≠ b) :
    crc (before ++ a :: after) ≠ crc (before ++ b :: after) := by
  simp only [crc, List.foldl_append, List.foldl_cons]
  exact fun same => differ (crcByte_injective_byte _ (crc_from_injective after same))

/-! ### The bits of a frame (09 R161) -/

theorem characterBits_length (b : Byte) : (characterBits b).length = 10 := rfl

theorem getElem?_flatMap_uniform {α β : Type} {f : α → List β} {width : Nat} (widths : ∀ a, (f a).length = width)
    {l : List α} {i : Nat} {a : α} (at_ : l[i]? = some a) {n : Nat} (inside : n < width) :
    (l.flatMap f)[width * i + n]? = (f a)[n]? := by
  induction l generalizing i with
  | nil => simp at at_
  | cons b l ih =>
    rw [List.flatMap_cons]
    cases i with
    | zero =>
      obtain rfl : b = a := by simpa using at_
      rw [List.getElem?_append_left (by rw [widths]; omega)]
      simp
    | succ i =>
      have skips : width * (i + 1) + n = (f b).length + (width * i + n) := by rw [widths]; ring
      rw [skips, List.getElem?_append_right (Nat.le_add_right _ _), Nat.add_sub_cancel_left]
      exact ih (by simpa using at_)

theorem characterBits_data (b : Byte) {n : Nat} (inside : n < 8) : (characterBits b)[1 + n]? = some (b.getLsbD n) := by
  rw [Nat.add_comm]
  simp [characterBits, List.getElem?_append_left, inside]

theorem State.txdHigh_idle {s : State} (idle : s.heldInReset = true ∨ s.link.sending = none) (bit : Nat) :
    s.txdHigh bit = true := by
  have none_ : s.txdFrame = none := by
    unfold State.txdFrame Link.frame
    obtain held | idle := idle
    · rw [if_pos held]
    · rw [idle, ite_self]
  simp [State.txdHigh, State.txdBits, none_]

theorem State.txdHigh_of {s : State} {bytes : List Byte} (on : s.heldInReset = false)
    (frame : s.link.frame = some bytes) (bit : Nat) :
    s.txdHigh bit = ((bytes.flatMap characterBits)[bit]?).getD true := by
  have sent : s.txdFrame = some bytes := (if_neg (by simp [on])).trans frame
  rw [State.txdHigh, State.txdBits, sent]
  rfl

theorem Link.frame_framed {l : Link} {bytes : List Byte} (sends : l.frame = some bytes) :
    ∃ kind tag payload, bytes = frameBytes kind tag payload := by
  unfold Link.frame at sends
  cases sending : l.sending with
  | none => simp [sending] at sends
  | some x =>
    rw [sending] at sends
    cases x with
    | reply =>
      obtain ⟨r, _, rfl⟩ := Option.map_eq_some_iff.1 sends
      exact ⟨_, _, _, rfl⟩
    | notice tag lost =>
      obtain ⟨n, _, rfl⟩ := Option.map_eq_some_iff.1 sends
      exact ⟨_, _, _, rfl⟩

/-- Settles O49: the check byte: the worked example, every frame sent, every changed byte found; and the bits of
a frame on TXD. -/
theorem checkByteFindsAChangedByte : Obligations.CheckByteFindsAChangedByte := by
  have checked : crc [0x00#8, 0x01#8, 0x10#8] = 0x4E#8 := by decide +kernel
  have framed : frameBytes 0x01#8 0x10#8 [] =
      [0xB5#8, 0x00#8, 0x01#8, 0x10#8, crc [0x00#8, 0x01#8, 0x10#8]] := rfl
  refine ⟨rfl, by decide, by decide +kernel, checked, framed.trans (by rw [checked]),
    fun l bytes sends => Link.frame_framed sends,
    fun before after a b differ => crc_changed before after differ, fun s => ⟨fun idle bit => s.txdHigh_idle idle bit,
    fun bytes on frame => ⟨fun i b at_ => ?_, fun bit behind => ?_⟩⟩⟩
  · have bits {n : Nat} (inside : n < 10) : s.txdHigh (10 * i + n) = ((characterBits b)[n]?).getD true := by
      rw [State.txdHigh_of on frame, getElem?_flatMap_uniform characterBits_length at_ inside]
    refine ⟨bits (n := 0) (by omega), bits (n := 9) (by omega), fun n inside => ?_⟩
    rw [Nat.add_assoc, bits (by omega), characterBits_data b inside]
    rfl
  · rw [State.txdHigh_of on frame, List.getElem?_eq_none]
    · rfl
    · rwa [length_flatMap_uniform characterBits_length]

end Sys2Proof.Machine
end


section
/-! PROOF. The sections of a template, byte for byte (O9). -/
namespace Sys2Proof.Machine

/-! ### Codes are read back -/

theorem IKind.other_ne (k : IKind) : k ≠ k.other := by cases k <;> decide

theorem dutyOf_code (d : Duty) : dutyOf d.code = some d := by cases d <;> rfl
theorem orderOf_code (o : BitOrder) : orderOf o.code = some o := by cases o <;> rfl
theorem checkOf_code (c : Check) : checkOf c.code = some c := by cases c <;> rfl
theorem formOf_code (f : RepeatForm) : formOf f.code = some f := by cases f <;> rfl
theorem spacingModeOf_code (m : SpacingMode) : spacingModeOf m.code = some m := by cases m <;> rfl
theorem flagOf_flagByte (b : Bool) : flagOf (flagByte b) = some b := by cases b <;> rfl

theorem u8_toNat {n : Nat} (small : n < 256) : (u8 n).toNat = n := by
  rw [u8, BitVec.toNat_ofNat, Nat.mod_eq_of_lt small]

theorem word16_u16 {n : Nat} (small : n < 65536) : word16 (u8 n) (u8 (n / 256)) = n := by
  simp only [word16, u8, BitVec.toNat_ofNat]
  omega

theorem word32_bytes {n : Nat} (small : n < 2 ^ 32) :
    word32 (u8 n) (u8 (n / 256)) (u8 (n / 65536)) (u8 (n / 16777216)) = n := by
  have back := word32_u32 (BitVec.ofNat 32 n)
  rwa [BitVec.toNat_ofNat, Nat.mod_eq_of_lt small] at back

theorem toggleOf_orAbsent {toggle : Option Nat} (small : ∀ p ∈ toggle, p ≤ 63) :
    toggleOf (orAbsent toggle) = some toggle := by
  cases toggle with
  | none => rfl
  | some p =>
    have inside : p ≤ 63 := small p rfl
    have value : (u8 p).toNat = p := u8_toNat (by omega)
    have present : u8 p ≠ 0xFF#8 := fun e => by
      rw [e] at value
      exact absurd (show 0xFF = p from value) (by omega)
    rw [orAbsent, toggleOf, if_neg present, value, if_pos inside]

theorem toggleOf_le {b : Byte} {toggle : Option Nat} (e : toggleOf b = some toggle) :
    ∀ p ∈ toggle, p ≤ 63 := by
  unfold toggleOf at e
  split at e
  · cases e
    nofun
  · split at e
    · cases e
      rintro p ⟨⟩
      assumption
    · cases e

/-! ### Interval lists -/

theorem isIntervalList_nil : IsIntervalList [] := ⟨List.isChain_nil, nofun⟩

/-- What `durations` takes: an interval list that begins with the kind it is given, two bytes to an interval. -/
theorem durations_inRange {k : IKind} {data : List Byte} {ivs : List Interval}
    (e : durations k data = some ivs) :
    IsIntervalList ivs ∧ (∀ iv ∈ ivs.head?, iv.kind = k) ∧ data.length = 2 * ivs.length := by
  induction k, data using durations.induct generalizing ivs with
  | case1 k =>
    cases e
    exact ⟨isIntervalList_nil, nofun, rfl⟩
  | case2 k lo hi rest inside ih =>
    rw [durations, if_pos inside] at e
    cases tail : durations k.other rest with
    | none => rw [tail] at e; cases e
    | some more =>
      rw [tail] at e
      cases e
      obtain ⟨⟨chain, bounds⟩, first, count⟩ := ih tail
      refine ⟨⟨List.isChain_cons.2 ⟨fun iv at_ => ?_, chain⟩, ?_⟩, ?_, ?_⟩
      · rw [first iv at_]
        exact k.other_ne
      · exact List.forall_mem_cons.2 ⟨inside, bounds⟩
      · rintro iv ⟨⟩
        rfl
      · rw [List.length_cons, List.length_cons, List.length_cons, count]
        omega
  | case3 k lo hi rest outside => rw [durations, if_neg outside] at e; cases e
  | case4 k b => cases e

/-- What `listOf` takes is an interval list, of no more intervals than its count byte says. -/
theorem listOf_inRange {limit : Nat} {k c : Byte} {data : List Byte} {ivs : List Interval}
    (count : data.length = 2 * c.toNat) (e : listOf limit (k :: c :: data) = some ivs) :
    IsIntervalList ivs ∧ ivs.length ≤ limit := by
  have taken {kind : IKind} (few : ¬ limit < c.toNat) (e : durations kind data = some ivs) :
      IsIntervalList ivs ∧ ivs.length ≤ limit := by
    obtain ⟨list, -, twice⟩ := durations_inRange e
    exact ⟨list, by omega⟩
  rw [listOf] at e
  split at e
  · cases e
    exact ⟨isIntervalList_nil, Nat.zero_le _⟩
  · split at e
    · cases e
    next few =>
      split at e
      · exact taken few e
      · exact taken few e
      · cases e

/-- The durations of an alternating list are taken back from its bytes. -/
theorem durations_flatMap {k : IKind} {ivs : List Interval} (list : IsIntervalList ivs)
    (first : ∀ iv ∈ ivs.head?, iv.kind = k) :
    durations k (ivs.flatMap fun iv => u16 iv.dur) = some ivs := by
  induction ivs generalizing k with
  | nil => rfl
  | cons iv ivs ih =>
    obtain ⟨chain, bounds⟩ := list
    obtain ⟨next, chain⟩ := List.isChain_cons.1 chain
    obtain ⟨inside, bounds⟩ := List.forall_mem_cons.1 bounds
    have kind : iv.kind = k := first iv rfl
    have value : word16 (u8 iv.dur) (u8 (iv.dur / 256)) = iv.dur := word16_u16 (by omega)
    have rest := ih ⟨chain, bounds⟩ (k := k.other) fun iv' at_ => kind ▸ IKind.eq_other (next iv' at_).symm
    rw [List.flatMap_cons]
    change durations k (u8 iv.dur :: u8 (iv.dur / 256) :: ivs.flatMap fun iv => u16 iv.dur) = _
    rw [durations, value, if_pos inside, rest, ← kind]
    rfl

/-- The bytes of an interval list: kind, count and twice as many bytes of durations; `listOf` takes them as
that list. -/
theorem listBytes_back {limit : Nat} {ivs : List Interval} (list : IsIntervalList ivs)
    (few : ivs.length ≤ limit) (small : limit < 256) :
    ∃ k c data, listBytes ivs = k :: c :: data ∧ data.length = 2 * c.toNat ∧ c.toNat = ivs.length
      ∧ listOf limit (k :: c :: data) = some ivs := by
  have count : (u8 ivs.length).toNat = ivs.length := u8_toNat (by omega)
  refine ⟨_, _, _, rfl, ?_, count, ?_⟩
  · rw [count]
    exact length_flatMap_uniform (width := 2) (fun _ => rfl) ivs
  · cases ivs with
    | nil => rfl
    | cons iv ivs =>
      have some_ : u8 (iv :: ivs).length ≠ 0#8 := fun e => by
        rw [e] at count
        cases count
      rw [listOf, if_neg some_, count, if_neg (by omega)]
      have back := durations_flatMap (k := iv.kind) list (by rintro _ ⟨⟩; rfl)
      obtain ⟨kind, dur⟩ := iv
      cases kind <;> exact back

/-! ### Sections -/

/-- Bytes that have the length of an interval list: kind, count and twice as many bytes of durations. -/
def ListSized (list : List Byte) : Prop := ∃ k c data, list = k :: c :: data ∧ data.length = 2 * c.toNat

theorem listSized_of_putLengthOk {part : Byte} {list : List Byte} (number : part = 1#8 ∨ part = 4#8)
    (fits : putLengthOk (part :: list) = true) : ListSized list := by
  have counted {k c : Byte} {data : List Byte} (same : (k :: c :: data).length = listLength c) :
      ListSized (k :: c :: data) := by
    refine ⟨k, c, data, rfl, ?_⟩
    simp only [List.length_cons, listLength] at same
    omega
  rcases number with rfl | rfl <;> match list, fits with
  | _ :: _ :: _, fits => exact counted (of_decide_eq_true fits)

theorem listSized_of_putLengthOk_next {part n : Byte} {list : List Byte} (number : part = 2#8 ∨ part = 5#8)
    (fits : putLengthOk (part :: n :: list) = true) : ListSized list := by
  have counted {k c : Byte} {data : List Byte} (same : (n :: k :: c :: data).length = 1 + listLength c) :
      ListSized (k :: c :: data) := by
    refine ⟨k, c, data, rfl, ?_⟩
    simp only [List.length_cons, listLength] at same
    omega
  rcases number with rfl | rfl <;> match list, fits with
  | _ :: _ :: _, fits => exact counted (of_decide_eq_true fits)

theorem ListSized.inRange {limit : Nat} {list : List Byte} {ivs : List Interval} (sized : ListSized list)
    (e : listOf limit list = some ivs) : IsIntervalList ivs ∧ ivs.length ≤ limit := by
  obtain ⟨k, c, data, rfl, count⟩ := sized
  exact listOf_inRange count e

theorem partOf_carrier (lo hi duty : Byte) :
    partOf 0#8 [lo, hi, duty] = (dutyOf duty).bind fun d =>
      if word16 lo hi = 0 ∨ (200 ≤ word16 lo hi ∧ word16 lo hi ≤ 600) then some (.carrier (word16 lo hi) d)
      else none := rfl

theorem partOf_lead (list : List Byte) :
    partOf 1#8 list = (listOf 4 list).bind fun ivs => some (.lead ivs) := rfl

theorem partOf_symbol (n : Byte) (list : List Byte) :
    partOf 2#8 (n :: list) = (listOf 4 list).bind fun ivs =>
      if h : n.toNat < 4 then some (.symbol ⟨n.toNat, h⟩ ivs) else none := rfl

theorem partOf_format (bits order check toggle : Byte) :
    partOf 3#8 [bits, order, check, toggle] = (orderOf order).bind fun o => (checkOf check).bind fun c =>
      (toggleOf toggle).bind fun t =>
        if 1 ≤ bits.toNat ∧ bits.toNat ≤ 64 then some (.format bits.toNat o c t) else none := rfl

theorem partOf_trailer (list : List Byte) :
    partOf 4#8 list = (listOf 2 list).bind fun ivs => some (.trailer ivs) := rfl

theorem partOf_repetition (form : Byte) (list : List Byte) :
    partOf 5#8 (form :: list) = (formOf form).bind fun f => (listOf 4 list).bind fun ivs =>
      if f = .marker ∨ ivs = [] then some (.repetition f ivs) else none := rfl

theorem partOf_spacing (mode b0 b1 b2 b3 minFrames : Byte) :
    partOf 6#8 [mode, b0, b1, b2, b3, minFrames] = (spacingModeOf mode).bind fun m =>
      if 2000 ≤ word32 b0 b1 b2 b3 ∧ word32 b0 b1 b2 b3 ≤ 250000 ∧ 1 ≤ minFrames.toNat ∧ minFrames.toNat ≤ 4 then
        some (.spacing m (word32 b0 b1 b2 b3) minFrames.toNat)
      else none := rfl

theorem partOf_receive (listen tolerance : Byte) :
    partOf 7#8 [listen, tolerance] = (flagOf listen).bind fun l =>
      if tolerance.toNat ∈ [10, 15, 20, 25] then some (.receive l tolerance.toNat) else none := rfl

/-- 01 R12: the data of a section of an allowed length that `partOf` takes are in range. -/
theorem partOf_inRange {part : Byte} {data : List Byte} {x : PartData}
    (fits : putLengthOk (part :: data) = true) (e : partOf part data = some x) : x.InRange := by
  have number {n : Nat} (value : part.toNat = n) (small : n < 256) : part = BitVec.ofNat 8 n :=
    BitVec.eq_of_toNat_eq (by rw [value, BitVec.toNat_ofNat, Nat.mod_eq_of_lt small])
  unfold partOf at e
  split at e
  case h_1 lo hi duty _ =>
    obtain ⟨d, -, e⟩ := Option.bind_eq_some_iff.1 e
    split at e
    next inside =>
      cases e
      exact inside
    · cases e
  case h_2 value =>
    obtain ⟨ivs, taken, e⟩ := Option.bind_eq_some_iff.1 e
    cases e
    exact (listSized_of_putLengthOk (.inl (number value (by decide))) fits).inRange taken
  case h_3 value =>
    obtain ⟨ivs, taken, e⟩ := Option.bind_eq_some_iff.1 e
    split at e
    · cases e
      exact (listSized_of_putLengthOk_next (.inl (number value (by decide))) fits).inRange taken
    · cases e
  case h_4 bits order check toggle _ =>
    obtain ⟨o, -, e⟩ := Option.bind_eq_some_iff.1 e
    obtain ⟨c, -, e⟩ := Option.bind_eq_some_iff.1 e
    obtain ⟨t, placed, e⟩ := Option.bind_eq_some_iff.1 e
    split at e
    next inside =>
      cases e
      exact ⟨inside.1, inside.2, toggleOf_le placed⟩
    · cases e
  case h_5 value =>
    obtain ⟨ivs, taken, e⟩ := Option.bind_eq_some_iff.1 e
    cases e
    exact (listSized_of_putLengthOk (.inr (number value (by decide))) fits).inRange taken
  case h_6 value =>
    obtain ⟨f, -, e⟩ := Option.bind_eq_some_iff.1 e
    obtain ⟨ivs, taken, e⟩ := Option.bind_eq_some_iff.1 e
    split at e
    next only =>
      cases e
      obtain ⟨list, few⟩ := (listSized_of_putLengthOk_next (.inr (number value (by decide))) fits).inRange taken
      exact ⟨list, few, fun other => only.resolve_left other⟩
    · cases e
  case h_7 =>
    obtain ⟨m, -, e⟩ := Option.bind_eq_some_iff.1 e
    dsimp only at e
    split at e
    next inside =>
      cases e
      exact inside
    · cases e
  case h_8 listen tolerance _ =>
    obtain ⟨l, -, e⟩ := Option.bind_eq_some_iff.1 e
    split at e
    next inside =>
      cases e
      change tolerance.toNat = 10 ∨ tolerance.toNat = 15 ∨ tolerance.toNat = 20 ∨ tolerance.toNat = 25
      simpa using inside
    · cases e
  case h_9 => cases e

/-- A section of interval lists, as TPL_PUT carries it: 15 bytes or fewer, of a length that fits. -/
theorem partOf_listBytes {limit : Nat} {ivs : List Interval} (list : IsIntervalList ivs)
    (few : ivs.length ≤ limit) (most : limit ≤ 4) :
    listOf limit (listBytes ivs) = some ivs ∧ (listBytes ivs).length ≤ 10
      ∧ (∀ part, part = 1#8 ∨ part = 4#8 → putLengthOk (part :: listBytes ivs) = true)
      ∧ (∀ part n, part = 2#8 ∨ part = 5#8 → putLengthOk (part :: n :: listBytes ivs) = true) := by
  obtain ⟨k, c, data, bytes, length, count, back⟩ := listBytes_back list few (by omega)
  have sized : (k :: c :: data).length = listLength c := by
    simp only [List.length_cons, listLength]
    omega
  rw [bytes]
  refine ⟨back, by rw [sized, listLength]; omega, ?_, ?_⟩
  · rintro part (rfl | rfl) <;> exact decide_eq_true sized
  · rintro part n (rfl | rfl) <;> exact decide_eq_true (by rw [List.length_cons, sized, Nat.add_comm])

/-- 11 R192, R193: a section in range that has been put reads back as bytes that are taken as that section. -/
theorem partBytes_back (t : Template) {x : PartData} (inside : x.InRange) :
    ∃ part data, (t.put x).partBytes x.part = part :: data ∧ data.length ≤ 15
      ∧ putLengthOk (part :: data) = true ∧ partOf part data = some x := by
  cases x with
  | carrier c d =>
    have value : word16 (u8 c) (u8 (c / 256)) = c := word16_u16 (by rcases inside with rfl | ⟨_, _⟩ <;> omega)
    refine ⟨0#8, [u8 c, u8 (c / 256), d.code], rfl, by simp, rfl, ?_⟩
    rw [partOf_carrier, dutyOf_code, value]
    exact if_pos inside
  | lead ivs =>
    obtain ⟨list, few⟩ := inside
    obtain ⟨back, short, fits, -⟩ := partOf_listBytes list few (by decide)
    exact ⟨1#8, listBytes ivs, rfl, by omega, fits _ (.inl rfl), by rw [partOf_lead, back, Option.bind_some]⟩
  | symbol n ivs =>
    obtain ⟨list, few⟩ := inside
    obtain ⟨back, short, -, fits⟩ := partOf_listBytes list few (by decide)
    have put : (t.put (.symbol n ivs)).symbols[n] = ivs := Vector.getElem_set_self _
    have value : (u8 n.val).toNat = n.val := u8_toNat (by omega)
    refine ⟨2#8, u8 n.val :: listBytes ivs, ?_, by rw [List.length_cons]; omega, fits _ _ (.inl rfl), ?_⟩
    · change 2#8 :: u8 n.val :: listBytes (t.put (.symbol n ivs)).symbols[n] = _
      rw [put]
    · rw [partOf_symbol, back, Option.bind_some, dif_pos (by omega)]
      congr 2
      exact Fin.ext value
  | format bits order check toggle =>
    obtain ⟨least, most, placed⟩ := inside
    have value : (u8 bits).toNat = bits := u8_toNat (by omega)
    refine ⟨3#8, [u8 bits, order.code, check.code, orAbsent toggle], rfl, by simp, rfl, ?_⟩
    rw [partOf_format, orderOf_code, checkOf_code, toggleOf_orAbsent placed, value]
    exact if_pos ⟨least, most⟩
  | trailer ivs =>
    obtain ⟨list, few⟩ := inside
    obtain ⟨back, short, fits, -⟩ := partOf_listBytes list few (by decide)
    exact ⟨4#8, listBytes ivs, rfl, by omega, fits _ (.inr rfl), by rw [partOf_trailer, back, Option.bind_some]⟩
  | repetition form marker =>
    obtain ⟨list, few, only⟩ := inside
    obtain ⟨back, short, -, fits⟩ := partOf_listBytes list few (by decide)
    refine ⟨5#8, form.code :: listBytes marker, rfl, by rw [List.length_cons]; omega, fits _ _ (.inr rfl), ?_⟩
    rw [partOf_repetition, formOf_code, back]
    exact if_pos (or_iff_not_imp_left.2 only)
  | spacing mode value minFrames =>
    obtain ⟨least, most, one, four⟩ := inside
    have long : word32 (u8 value) (u8 (value / 256)) (u8 (value / 65536)) (u8 (value / 16777216)) = value :=
      word32_bytes (by omega)
    have count : (u8 minFrames).toNat = minFrames := u8_toNat (by omega)
    refine ⟨6#8, mode.code :: u32 value ++ [u8 minFrames], rfl, by simp [u32], rfl, ?_⟩
    rw [u32, List.cons_append, List.cons_append, List.cons_append, List.cons_append, List.cons_append, List.nil_append,
      partOf_spacing, spacingModeOf_code, long, count]
    exact if_pos ⟨least, most, one, four⟩
  | receive listen tolerance =>
    have value : (u8 tolerance).toNat = tolerance :=
      u8_toNat (by rcases inside with rfl | rfl | rfl | rfl <;> decide)
    refine ⟨7#8, [flagByte listen, u8 tolerance], rfl, by simp, rfl, ?_⟩
    rw [partOf_receive, flagOf_flagByte, value]
    exact if_pos (by simpa [PartData.InRange] using inside)

/-- Settles O9: what TPL_PUT takes is in range, and what it has put reads back as bytes that TPL_PUT takes as the
same section. -/
theorem sectionsAreCheckedAndReadBack : Obligations.SectionsAreCheckedAndReadBack :=
  ⟨fun _ _ _ fits e => partOf_inRange fits e, fun t _ inside => partBytes_back t inside⟩

end Sys2Proof.Machine
end


section
/-! PROOF. Reception undoes encoding (O17). -/
namespace Sys2Proof.Machine

/-! ### Bits, octets and bytes (02 section 2.2) -/

theorem BitOrder.arrange_arrange (o : BitOrder) (bits : List Bool) : o.arrange (o.arrange bits) = bits := by
  cases o with
  | lsbFirst => rfl
  | msbFirst => exact List.reverse_reverse bits

theorem BitOrder.length_arrange (o : BitOrder) (bits : List Bool) : (o.arrange bits).length = bits.length := by
  cases o with
  | lsbFirst => rfl
  | msbFirst => exact List.length_reverse

theorem octets_succ (n : Nat) (bits : List Bool) :
    octets (n + 1) bits = bits.take 8 :: octets n (bits.drop 8) := by
  unfold octets
  rw [List.range_succ_eq_map, List.map_cons, List.map_map]
  congr 1
  refine List.map_congr_left fun j _ => ?_
  rw [Function.comp, List.drop_drop, Nat.mul_succ, Nat.add_comm]

theorem octets_flatten (gs : List (List Bool)) (sized : ∀ g ∈ gs, g.length = 8) :
    octets gs.length gs.flatten = gs := by
  induction gs with
  | nil => rfl
  | cons g gs ih =>
    obtain ⟨here, rest⟩ := List.forall_mem_cons.1 sized
    rw [List.length_cons, octets_succ, List.flatten_cons, List.take_left' here, List.drop_left' here, ih rest]

theorem flatten_octets {n : Nat} {bits : List Bool} (whole : bits.length = 8 * n) : (octets n bits).flatten = bits := by
  induction n generalizing bits with
  | zero => exact (List.eq_nil_of_length_eq_zero whole).symm
  | succ n ih =>
    rw [octets_succ, List.flatten_cons, ih (by rw [List.length_drop]; omega), List.take_append_drop]

theorem length_octets (n : Nat) (bits : List Bool) : (octets n bits).length = n := by
  rw [octets, List.length_map, List.length_range]

theorem octets_sized {n : Nat} {bits : List Bool} (whole : bits.length = 8 * n) : ∀ g ∈ octets n bits, g.length = 8 := by
  induction n generalizing bits with
  | zero => exact nofun
  | succ n ih =>
    rw [octets_succ]
    exact List.forall_mem_cons.2
      ⟨by rw [List.length_take]; omega, ih (by rw [List.length_drop]; omega)⟩

theorem testBit_bitsValue (bits : List Bool) (i : Nat) : (bitsValue bits).testBit i = bits.getD i false := by
  induction bits generalizing i with
  | nil => exact Nat.zero_testBit i
  | cons b rest ih =>
    have small : b.toNat < 2 := Bool.toNat_lt b
    cases i with
    | zero =>
      rw [bitsValue, Nat.testBit_zero, List.getD_cons_zero, Nat.add_mul_mod_self_left, Nat.mod_eq_of_lt small]
      cases b <;> rfl
    | succ i =>
      rw [bitsValue, Nat.testBit_succ, List.getD_cons_succ, Nat.add_mul_div_left _ _ Nat.two_pos,
        Nat.div_eq_of_lt small, Nat.zero_add, ih]

/-! ### Receiving the symbols of encoded bits (08 R147) -/

theorem pairIndices_back {n : Nat} {bits : List Bool} (even : bits.length = 2 * n) :
    (pairIndices bits).flatMap (fun i => [decide (2 ≤ i), decide (i % 2 = 1)]) = bits := by
  induction n generalizing bits with
  | zero => rw [List.eq_nil_of_length_eq_zero even]; rfl
  | succ n ih =>
    match bits, even with
    | hi :: lo :: rest, even =>
      rw [pairIndices, List.flatMap_cons, ih (by rw [List.length_cons, List.length_cons] at even; omega)]
      cases hi <;> cases lo <;> rfl

theorem Template.receivedBits_steps (t : Template) {bits : List Bool}
    (even : t.symbolCount = some 4 → bits.length % 2 = 0) : t.receivedBits (t.steps bits) = bits := by
  unfold Template.receivedBits Template.steps
  by_cases four : t.symbolCount = some 4
  · rw [if_pos four, if_pos four]
    exact pairIndices_back (n := bits.length / 2) (by have := even four; omega)
  · rw [if_neg four, if_neg four, List.map_map]
    exact (List.map_congr_left fun b _ => by cases b <;> rfl).trans (List.map_id _)

/-! ### The check of received bits (02 R28, R29; 08 R147) -/

/-- The complement of a group of bits. -/
def complement (g : List Bool) : List Bool := g.map (!·)

/-- A group of bits with its complement behind it (02 R28). -/
def doubled (g : List Bool) : List (List Bool) := [g, complement g]

theorem encodeBits_invertBytes (o : BitOrder) (bits : List Bool) :
    encodeBits o .invertBytes bits = ((octets (bits.length / 8) (o.arrange bits)).flatMap doubled).flatten := by
  change (octets (bits.length / 8) (o.arrange bits)).flatMap (fun g => g ++ complement g) = _
  induction octets (bits.length / 8) (o.arrange bits) with
  | nil => rfl
  | cons g gs ih =>
    rw [List.flatMap_cons, ih, List.flatMap_cons, doubled, List.flatten_append]
    simp

theorem length_doubled (gs : List (List Bool)) : (gs.flatMap doubled).length = 2 * gs.length :=
  length_flatMap_uniform (width := 2) (fun _ => rfl) gs

theorem doubled_sized {gs : List (List Bool)} (sized : ∀ g ∈ gs, g.length = 8) :
    ∀ g ∈ gs.flatMap doubled, g.length = 8 := by
  intro g among
  obtain ⟨g', inside, at_⟩ := List.mem_flatMap.1 among
  have eight := sized g' inside
  rcases List.mem_cons.1 at_ with rfl | at_
  · exact eight
  · rw [List.mem_singleton.1 at_, complement, List.length_map, eight]

theorem everyOther_doubled (gs : List (List Bool)) : splitCheck.everyOther (gs.flatMap doubled) = gs := by
  induction gs with
  | nil => rfl
  | cons g gs ih => exact congrArg (g :: ·) ih

theorem everyOther_doubled_tail (gs : List (List Bool)) :
    splitCheck.everyOther ((gs.flatMap doubled).drop 1) = gs.map complement := by
  have behind (x : List Bool) (gs : List (List Bool)) :
      splitCheck.everyOther (x :: gs.flatMap doubled) = x :: gs.map complement := by
    induction gs generalizing x with
    | nil => rfl
    | cons g gs ih => exact congrArg (x :: ·) (ih (complement g))
  cases gs with
  | nil => rfl
  | cons g gs => exact behind (complement g) gs

theorem length_flatten_sized {gs : List (List Bool)} (sized : ∀ g ∈ gs, g.length = 8) :
    gs.flatten.length = 8 * gs.length := by
  induction gs with
  | nil => rfl
  | cons g gs ih =>
    obtain ⟨here, rest⟩ := List.forall_mem_cons.1 sized
    rw [List.flatten_cons, List.length_append, here, ih rest, List.length_cons]
    omega

/-- 02 R28: the groups of eight bits of a payload in the order in which they are sent. -/
theorem octets_arrange_sized (o : BitOrder) {bits : List Bool} (whole : bits.length % 8 = 0) :
    ∀ g ∈ octets (bits.length / 8) (o.arrange bits), g.length = 8 :=
  octets_sized (by rw [o.length_arrange]; omega)

/-- 01 R5: how many bits `n` payload bits become under a check. -/
def Check.encoded (c : Check) (n : Nat) : Nat :=
  match c with
  | .none => n
  | .invertBytes => 2 * n
  | .sum8 => n + 8

theorem Template.encodedBits_eq (t : Template) : t.encodedBits = t.check.encoded t.payloadBits := by
  unfold Template.encodedBits
  cases t.check <;> rfl

theorem length_encodeBits (o : BitOrder) (c : Check) {bits : List Bool} (whole : c ≠ .none → bits.length % 8 = 0) :
    (encodeBits o c bits).length = c.encoded bits.length := by
  cases c with
  | none => exact o.length_arrange bits
  | invertBytes =>
    rw [encodeBits_invertBytes, length_flatten_sized (doubled_sized (octets_arrange_sized o (whole nofun))),
      length_doubled, length_octets]
    have := whole nofun
    change _ = 2 * bits.length
    omega
  | sum8 =>
    change (o.arrange bits ++ o.arrange (bitsOfByte (sumByte bits))).length = _
    rw [List.length_append, o.length_arrange, o.length_arrange]
    rfl

theorem splitCheck_encodeBits {t : Template} {bits : List Bool} (long : bits.length = t.payloadBits)
    (whole : t.check ≠ .none → bits.length % 8 = 0) :
    splitCheck t (encodeBits t.bitOrder t.check bits) = some bits := by
  have length := length_encodeBits t.bitOrder t.check whole
  unfold splitCheck
  cases check : t.check with
  | none => exact congrArg some (t.bitOrder.arrange_arrange bits)
  | invertBytes =>
    rw [check] at whole length
    have eights := octets_arrange_sized t.bitOrder (whole nofun)
    have groups : octets ((encodeBits t.bitOrder .invertBytes bits).length / 8)
        (encodeBits t.bitOrder .invertBytes bits) =
          (octets (bits.length / 8) (t.bitOrder.arrange bits)).flatMap doubled := by
      have counted := octets_flatten _ (doubled_sized eights)
      rw [length_doubled, length_octets, ← encodeBits_invertBytes] at counted
      have twice : (encodeBits t.bitOrder .invertBytes bits).length / 8 = 2 * (bits.length / 8) := by
        have := whole nofun
        change _ = 2 * bits.length at length
        omega
      rw [twice, counted]
    dsimp only
    rw [groups, everyOther_doubled, everyOther_doubled_tail]
    refine (if_pos rfl).trans (congrArg some ?_)
    rw [flatten_octets (by rw [BitOrder.length_arrange]; have := whole nofun; omega), BitOrder.arrange_arrange]
  | sum8 =>
    have sent : (t.bitOrder.arrange bits).length = t.payloadBits := by rw [BitOrder.length_arrange, long]
    have encoded : encodeBits t.bitOrder .sum8 bits =
        t.bitOrder.arrange bits ++ t.bitOrder.arrange (bitsOfByte (sumByte bits)) := rfl
    dsimp only
    rw [encoded, List.take_left' sent, List.drop_left' sent, BitOrder.arrange_arrange, BitOrder.arrange_arrange]
    exact if_pos rfl

theorem count_encodeBits_invertBytes (o : BitOrder) {bits : List Bool} (whole : bits.length % 8 = 0) :
    (encodeBits o .invertBytes bits).count true = bits.length := by
  have ones (g : List Bool) : (g ++ complement g).count true = g.length := by
    have flipped : (complement g).count true = g.count false :=
      List.count_map_of_injective g (!·) Bool.not_injective false
    rw [List.count_append, flipped]
    exact List.count_true_add_count_false g
  have total (gs : List (List Bool)) :
      (gs.flatMap fun g => g ++ complement g).count true = gs.flatten.length := by
    induction gs with
    | nil => rfl
    | cons g gs ih => rw [List.flatMap_cons, List.count_append, ones, ih, List.flatten_cons, List.length_append]
  refine (total _).trans ?_
  rw [flatten_octets (by rw [o.length_arrange]; omega), o.length_arrange]

/-! ### Payload bytes (08 R147) -/

theorem payloadBit_byte (payload : List Byte) {j k : Nat} (inside : j < payload.length) (low : k < 8) :
    payloadBit payload (8 * j + k) = payload[j].getLsbD k := by
  rw [payloadBit, show (8 * j + k) / 8 = j by omega, show (8 * j + k) % 8 = k by omega, List.getD_eq_getElem _ _ inside]

theorem getD_toggledBits {t : Template} (plain : t.toggle = none) (payload : List Byte) (bit : Bool) (i : Nat) :
    (toggledBits t payload bit).getD i false = (decide (i < t.payloadBits) && payloadBit payload i) := by
  rw [toggledBits, plain]
  by_cases inside : i < t.payloadBits
  · rw [List.getD_eq_getElem _ _ (by simpa using inside)]
    simp [inside]
  · rw [List.getD_eq_default _ _ (by simpa using inside)]
    simp [inside]

theorem length_toggledBits (t : Template) (payload : List Byte) (bit : Bool) :
    (toggledBits t payload bit).length = t.payloadBits := by
  rw [toggledBits, List.length_map, List.length_range]

theorem bytesOfBits_toggledBits {t : Template} {payload : List Byte} (plain : t.toggle = none)
    (fits : payloadFits t payload = true) : bytesOfBits (toggledBits t payload false) = payload := by
  obtain ⟨long, clear⟩ := Bool.and_eq_true_iff.1 fits
  have long := of_decide_eq_true long
  unfold bytesOfBits
  rw [length_toggledBits, ← long]
  refine List.ext_getElem (by rw [List.length_map, length_octets]) fun j before inside => ?_
  rw [List.getElem_map]
  refine BitVec.eq_of_getLsbD_eq fun k low => ?_
  have above := List.all_eq_true.1 clear (8 * j + k) (List.mem_range.2 (by omega))
  have bit := getD_toggledBits plain payload false (8 * j + k)
  rw [payloadBit_byte payload inside low] at above bit
  have taken : (octets payload.length (toggledBits t payload false))[j]'(by rwa [length_octets]) =
      ((toggledBits t payload false).drop (8 * j)).take 8 := by
    simp [octets]
  rw [taken, BitVec.getLsbD_ofNat, testBit_bitsValue]
  have at_ : (((toggledBits t payload false).drop (8 * j)).take 8).getD k false =
      (toggledBits t payload false).getD (8 * j + k) false := by
    simp [List.getD_eq_getElem?_getD, List.getElem?_drop, low]
  rw [at_, bit, decide_eq_true low]
  by_cases inside : 8 * j + k < t.payloadBits
  · simp [inside]
  · simpa [inside] using above

end Sys2Proof.Machine
end


section
/-! PROOF. The full-frame trial of a rendered frame (08 R144 to R147), for O17. -/
namespace Sys2Proof.Machine

/-! ### A frame that alternates from MARK to MARK is rendered as it stands (02 R32, R33) -/

theorem merge_of_alternates {raw : List Interval} (alternates : Alternates raw) : merge raw = raw := by
  induction raw with
  | nil => rfl
  | cons iv rest ih =>
    rw [merge_cons, ih (List.IsChain.tail alternates)]
    cases rest with
    | nil => rfl
    | cons next rest =>
      obtain ⟨differ, _⟩ := List.isChain_cons_cons.1 alternates
      exact if_neg differ

theorem dropLeading_of_mark {ivs : List Interval} (marks : ∀ iv ∈ ivs.head?, iv.kind = .mark) :
    dropLeading ivs = ivs := by
  cases ivs with
  | nil => rfl
  | cons iv rest =>
    have mark : iv.kind = .mark := marks iv rfl
    exact if_neg (by simp [mark])

/-- A list that alternates, begins with a MARK and ends with one. -/
structure MarkToMark (ivs : List Interval) : Prop where
  some_ : ivs ≠ []
  alternates : Alternates ivs
  first : ∀ iv ∈ ivs.head?, iv.kind = .mark
  last : ∀ iv ∈ ivs.getLast?, iv.kind = .mark

theorem MarkToMark.render {ivs : List Interval} (frame : MarkToMark ivs) : render ivs = ivs := by
  rw [Machine.render, merge_of_alternates frame.alternates, dropLeading_of_mark frame.first, dropTrailing,
    dropLeading_of_mark (by rw [List.head?_reverse]; exact frame.last), List.reverse_reverse]

theorem MarkToMark.singleton (d : Nat) : MarkToMark [⟨.mark, d⟩] where
  some_ := nofun
  alternates := List.isChain_singleton _
  first := by rintro _ ⟨⟩; rfl
  last := by rintro _ ⟨⟩; rfl

theorem MarkToMark.pair {ivs : List Interval} (frame : MarkToMark ivs) (m s : Nat) :
    MarkToMark (⟨.mark, m⟩ :: ⟨.space, s⟩ :: ivs) where
  some_ := nofun
  alternates := by
    refine List.isChain_cons_cons.2 ⟨nofun, List.isChain_cons.2 ⟨fun iv at_ => ?_, frame.alternates⟩⟩
    rw [frame.first iv at_]
    exact nofun
  first := by rintro _ ⟨⟩; rfl
  last := by
    obtain ⟨iv, rest, e⟩ := List.exists_cons_of_ne_nil frame.some_
    have last := frame.last
    rw [e] at last ⊢
    exact last

/-! ### Trials at the beginning of a burst interval (08 R145) -/

/-- The cursor stands at the beginning of a rest of the burst. -/
def Cursor.Before (c : Cursor) (rest : List Interval) : Prop := c = .leading rest ∨ c = Cursor.next rest

theorem within_same (tolerance d : Nat) : within tolerance d d = true := by simp [within]

theorem matchInside_whole (tolerance : Nat) {goesOn : List IKind} (k : IKind) (e d : Nat) (rest : List Interval)
    (ends : k ∉ goesOn) :
    matchInside tolerance goesOn ⟨k, e⟩ k d rest =
      if within tolerance e d = true then some (Cursor.next rest) else none := by
  unfold matchInside
  rw [if_neg (not_not_intro rfl)]
  refine ite_congr rfl (fun _ => rfl) fun _ => if_neg fun split_ => ends split_.2

theorem matchOne_mark {tolerance m d : Nat} {goesOn : List IKind} {c : Cursor} {rest : List Interval}
    (at_ : c.Before (⟨.mark, d⟩ :: rest)) (ends : IKind.mark ∉ goesOn) :
    matchOne tolerance goesOn ⟨.mark, m⟩ c =
      if within tolerance m d = true then some (Cursor.next rest) else none := by
  rw [← matchInside_whole tolerance .mark m d rest ends]
  rcases at_ with rfl | rfl <;> rfl

/-- A MARK and a SPACE are accepted exactly when each is within the tolerance: neither may be split. -/
theorem matchList_pair {tolerance m s d g : Nat} {goesOn : List IKind} {c : Cursor} {rest : List Interval}
    (at_ : c.Before (⟨.mark, d⟩ :: ⟨.space, g⟩ :: rest)) (ends : IKind.space ∉ goesOn) :
    matchList tolerance goesOn [⟨.mark, m⟩, ⟨.space, s⟩] c =
      if within tolerance m d = true ∧ within tolerance s g = true then some (Cursor.next rest) else none := by
  have first := matchOne_mark (tolerance := tolerance) (m := m) (goesOn := []) at_ nofun
  have second := matchInside_whole tolerance .space s g rest ends
  change (matchOne tolerance [] ⟨.mark, m⟩ c).bind (fun c => (matchOne tolerance goesOn ⟨.space, s⟩ c).bind some) = _
  rw [first]
  by_cases near : within tolerance m d = true
  · rw [if_pos near, Option.bind_some]
    change (matchInside tolerance goesOn ⟨.space, s⟩ .space g rest).bind some = _
    rw [second, Option.bind_fun_some]
    simp only [near, true_and]
  · rw [if_neg near, if_neg fun both => near both.1]
    rfl

/-! ### Templates whose symbols are a MARK and a SPACE -/

/-- A template whose two symbols are a MARK and a SPACE each, of durations that a burst cannot confuse. -/
structure Template.Paired (t : Template) (mark0 space0 mark1 space1 : Nat) : Prop where
  zero : t.symbols[0] = [⟨.mark, mark0⟩, ⟨.space, space0⟩]
  one : t.symbols[1] = [⟨.mark, mark1⟩, ⟨.space, space1⟩]
  two : t.symbols[2] = []
  three : t.symbols[3] = []
  apart : mark0 * t.tolerance < (mark1 - mark0 + (mark0 - mark1)) * 100
    ∨ space0 * t.tolerance < (space1 - space0 + (space0 - space1)) * 100

section
variable {t : Template} {mark0 space0 mark1 space1 : Nat} (paired : t.Paired mark0 space0 mark1 space1)
include paired

theorem Template.Paired.symbolCount : t.symbolCount = some 2 := by
  unfold Template.symbolCount
  rw [paired.zero, paired.one, paired.two, paired.three]
  rfl

theorem Template.Paired.symbol_zero : t.symbol 0 = [⟨.mark, mark0⟩, ⟨.space, space0⟩] := paired.zero

theorem Template.Paired.symbol_one : t.symbol 1 = [⟨.mark, mark1⟩, ⟨.space, space1⟩] := paired.one

theorem Template.Paired.indices : t.indices = [0, 1] := by
  unfold Template.indices
  rw [paired.symbolCount]
  rfl

theorem Template.Paired.openings : t.openings = [.mark, .mark] := by
  unfold Template.openings
  rw [paired.indices, List.flatMap_cons, List.flatMap_cons, paired.symbol_zero, paired.symbol_one]
  rfl

theorem Template.Paired.steps (bits : List Bool) : t.steps bits = bits.map Bool.toNat := by
  unfold Template.steps
  rw [paired.symbolCount]
  exact if_neg nofun

theorem Template.Paired.stepCount : t.stepCount = t.encodedBits := by
  unfold Template.stepCount Template.bitsPerSymbol
  rw [paired.symbolCount]
  exact Nat.div_one _

theorem Template.Paired.trySymbols {goesOn : List IKind} {c : Cursor} {rest : List Interval} (bit : Bool)
    (at_ : c.Before (t.symbol bit.toNat ++ rest)) (ends : IKind.space ∉ goesOn) :
    trySymbols t goesOn c = some (bit.toNat, Cursor.next rest) := by
  unfold Machine.trySymbols
  rw [paired.indices]
  cases bit with
  | false =>
    have zero : matchList t.tolerance goesOn (t.symbol 0) c = some (Cursor.next rest) := by
      rw [Bool.toNat_false, paired.symbol_zero] at at_
      rw [paired.symbol_zero, matchList_pair at_ ends]
      exact if_pos ⟨within_same .., within_same ..⟩
    rw [List.findSome?_cons, zero]
    rfl
  | true =>
    rw [Bool.toNat_true, paired.symbol_one] at at_
    have zero : matchList t.tolerance goesOn (t.symbol 0) c = none := by
      rw [paired.symbol_zero, matchList_pair at_ ends]
      refine if_neg fun near => ?_
      obtain ⟨mark, space⟩ := near
      have mark := of_decide_eq_true mark
      have space := of_decide_eq_true space
      have apart := paired.apart
      omega
    have one : matchList t.tolerance goesOn (t.symbol 1) c = some (Cursor.next rest) := by
      rw [paired.symbol_one, matchList_pair at_ ends]
      exact if_pos ⟨within_same .., within_same ..⟩
    rw [List.findSome?_cons, zero, Option.map_none, List.findSome?_cons, one]
    rfl

theorem Template.Paired.walkSteps {last : Nat} (trailer : t.trailer = [⟨.mark, last⟩]) (bits : List Bool) (c : Cursor)
    (at_ : c.Before ((bits.map Bool.toNat).flatMap t.symbol ++ t.trailer)) :
    ∃ c', c'.Before t.trailer ∧ walkSteps t bits.length c = some (bits.map Bool.toNat, c') := by
  induction bits generalizing c with
  | nil => exact ⟨c, at_, rfl⟩
  | cons bit bits ih =>
    rw [List.map_cons, List.flatMap_cons, List.append_assoc] at at_
    have ends : IKind.space ∉ (if bits.length = 0 then opening t.trailer else t.openings) := by
      rw [trailer, paired.openings]
      split
      · exact (by decide : IKind.space ∉ [IKind.mark])
      · decide
    obtain ⟨c', before, walked⟩ := ih _ (.inr rfl)
    refine ⟨c', before, ?_⟩
    rw [List.length_cons, Machine.walkSteps, paired.trySymbols bit at_ ends, Option.bind_some]
    dsimp only
    rw [walked]
    rfl

theorem Template.Paired.markToMark {last : Nat} (trailer : t.trailer = [⟨.mark, last⟩])
    (lead : t.lead = [] ∨ ∃ m n, t.lead = [⟨.mark, m⟩, ⟨.space, n⟩]) (bits : List Bool) :
    MarkToMark (t.lead ++ ((bits.map Bool.toNat).flatMap t.symbol ++ t.trailer)) := by
  have body : MarkToMark ((bits.map Bool.toNat).flatMap t.symbol ++ t.trailer) := by
    induction bits with
    | nil => rw [trailer]; exact .singleton last
    | cons bit bits ih =>
      rw [List.map_cons, List.flatMap_cons, List.append_assoc]
      cases bit with
      | false => rw [Bool.toNat_false, paired.symbol_zero]; exact ih.pair mark0 space0
      | true => rw [Bool.toNat_true, paired.symbol_one]; exact ih.pair mark1 space1
  rcases lead with none_ | ⟨m, n, some_⟩
  · rw [none_]; exact body
  · rw [some_]; exact body.pair m n

/-- 08 R144 to R147: the trial of a frame walks it interval by interval and gives its bits back. -/
theorem Template.Paired.trial {last : Nat} (trailer : t.trailer = [⟨.mark, last⟩])
    (lead : t.lead = [] ∨ ∃ m n, t.lead = [⟨.mark, m⟩, ⟨.space, n⟩]) {bits : List Bool}
    (count : bits.length = t.encodedBits) :
    fullFrameTrial t (render (t.rawFrame bits)) = (splitCheck t bits).map bytesOfBits := by
  have raw : t.rawFrame bits = t.lead ++ ((bits.map Bool.toNat).flatMap t.symbol ++ t.trailer) := by
    rw [Template.rawFrame, paired.steps, List.append_assoc]
  have led : ∃ c, c.Before ((bits.map Bool.toNat).flatMap t.symbol ++ t.trailer)
      ∧ matchList t.tolerance t.openings t.lead (.leading (t.rawFrame bits)) = some c := by
    rw [raw]
    rcases lead with none_ | ⟨m, n, some_⟩
    · rw [none_]
      exact ⟨_, .inl rfl, rfl⟩
    · refine ⟨_, .inr rfl, ?_⟩
      rw [some_]
      refine (matchList_pair (.inl rfl) (by rw [paired.openings]; decide)).trans ?_
      exact if_pos ⟨within_same .., within_same ..⟩
  obtain ⟨c, before, led⟩ := led
  obtain ⟨c', before, walked⟩ := paired.walkSteps trailer bits c before
  have ended : matchList t.tolerance [] t.trailer c' = some .trailing := by
    rw [trailer] at before ⊢
    change (matchOne t.tolerance [] ⟨.mark, last⟩ c').bind some = _
    rw [matchOne_mark before List.not_mem_nil, if_pos (within_same ..)]
    rfl
  have received : t.receivedBits (bits.map Bool.toNat) = bits := by
    rw [← paired.steps]
    exact t.receivedBits_steps (by rw [paired.symbolCount]; nofun)
  rw [raw, (paired.markToMark trailer lead bits).render, ← raw, fullFrameTrial, led, Option.bind_some,
    paired.stepCount, ← count, walked, Option.bind_some]
  dsimp only
  rw [ended, Option.bind_some, if_pos rfl, received]

end

/-- Settles O17: reception undoes the encoding of a payload. -/
theorem receptionUndoesEncoding : Obligations.ReceptionUndoesEncoding := by
  refine ⟨fun t _ even whole => ⟨fun bits long => ?_, fun payload plain fits => bytesOfBits_toggledBits plain fits⟩,
    fun t payload mark0 space0 mark1 space1 last zero one two three trailer lead apart plain fits whole => ?_,
    fun o bits whole => ?_⟩
  · rw [t.receivedBits_steps, splitCheck_encodeBits long (by rwa [long])]
    intro four
    rw [length_encodeBits _ _ (by rwa [long]), long]
    have := even four
    cases t.check <;> simp only [Check.encoded] <;> omega
  · have paired : t.Paired mark0 space0 mark1 space1 := ⟨zero, one, two, three, apart⟩
    have long := length_toggledBits t payload false
    have whole : t.check ≠ .none → (toggledBits t payload false).length % 8 = 0 := by rwa [long]
    have count : (encodeBits t.bitOrder t.check (toggledBits t payload false)).length = t.encodedBits := by
      rw [length_encodeBits _ _ whole, long, t.encodedBits_eq]
    refine (paired.trial trailer lead count).trans ?_
    rw [splitCheck_encodeBits long whole, Option.map_some, bytesOfBits_toggledBits plain fits]
  · have ones := count_encodeBits_invertBytes o whole
    have both := List.count_true_add_count_false (encodeBits o .invertBytes bits)
    rw [length_encodeBits o .invertBytes fun _ => whole] at both
    change _ = 2 * bits.length at both
    exact ⟨ones, by omega⟩

end Sys2Proof.Machine
end


section
/-! PROOF. The worst cases that TPL_COMMIT reckons are the greatest measures of a set of raw lists (01 R15). -/
namespace Sys2Proof.Machine

/-! ### The greater of two values that may be absent -/

section
variable {α β : Type} {f : α → α → α} {g : β → β → β}

theorem joinWith_none_right (x : Option α) : joinWith f x none = x := by cases x <;> rfl

theorem joinWith_assoc (assoc : ∀ a b c, f (f a b) c = f a (f b c)) (x y z : Option α) :
    joinWith f (joinWith f x y) z = joinWith f x (joinWith f y z) := by
  cases x with
  | none => rfl
  | some a =>
    cases y with
    | none => rfl
    | some b =>
      cases z with
      | none => rfl
      | some c => exact congrArg some (assoc a b c)

theorem joinWith_comm (comm : ∀ a b, f a b = f b a) (x y : Option α) : joinWith f x y = joinWith f y x := by
  cases x with
  | none => exact (joinWith_none_right y).symm
  | some a =>
    cases y with
    | none => rfl
    | some b => exact congrArg some (comm a b)

theorem joinWith_cross (comm : ∀ a b, f a b = f b a) (assoc : ∀ a b c, f (f a b) c = f a (f b c))
    (w x y z : Option α) :
    joinWith f (joinWith f w x) (joinWith f y z) = joinWith f (joinWith f w y) (joinWith f x z) := by
  rw [joinWith_assoc assoc, joinWith_assoc assoc, ← joinWith_assoc assoc x y z, joinWith_comm comm x y,
    joinWith_assoc assoc y x z]

theorem map_joinWith (h : α → β) (keeps : ∀ a b, h (f a b) = g (h a) (h b)) (x y : Option α) :
    (joinWith f x y).map h = joinWith g (x.map h) (y.map h) := by
  cases x with
  | none => rfl
  | some a =>
    cases y with
    | none => rfl
    | some b => exact congrArg some (keeps a b)

end

theorem Extent.max_comm (x y : Extent) : x.max y = y.max x := by
  simp only [Extent.max, Nat.max_eq_max, Nat.max_comm]

theorem Extent.max_assoc (x y z : Extent) : (x.max y).max z = x.max (y.max z) := by
  simp only [Extent.max, Nat.max_eq_max, Nat.max_assoc]

theorem Extent.max_self (x : Extent) : x.max x = x := by
  simp only [Extent.max, Nat.max_eq_max, Nat.max_self]

/-- An extent with something behind it. -/
def Extent.plus (e : Extent) (d n : Nat) : Extent := ⟨e.dur + d, e.count + n⟩

theorem Extent.plus_max (x y : Extent) (d n : Nat) : (x.max y).plus d n = (x.plus d n).max (y.plus d n) := by
  simp only [Extent.plus, Extent.max, Nat.max_eq_max, Nat.add_max_add_right]

theorem Extent.plus_plus (e : Extent) (d n d' n' : Nat) : (e.plus d n).plus d' n' = e.plus (d + d') (n + n') := by
  simp only [Extent.plus, Nat.add_assoc]

/-- The greater of two pairs of extents, each by each. -/
def bothMax (x y : Extent × Extent) : Extent × Extent := (x.1.max y.1, x.2.max y.2)

theorem bothMax_comm (x y : Extent × Extent) : bothMax x y = bothMax y x := by
  simp only [bothMax, Extent.max_comm]

theorem bothMax_assoc (x y z : Extent × Extent) : bothMax (bothMax x y) z = bothMax x (bothMax y z) := by
  simp only [bothMax, Extent.max_assoc]

theorem map_plus (d n : Nat) (x y : Option Extent) :
    (joinWith Extent.max x y).map (·.plus d n) = joinWith Extent.max (x.map (·.plus d n)) (y.map (·.plus d n)) :=
  map_joinWith _ (fun x y => x.plus_max y d n) x y

theorem map_plus_first (d n : Nat) (x y : Option (Extent × Extent)) :
    (joinWith bothMax x y).map (fun e => (e.1.plus d n, e.2)) =
      joinWith bothMax (x.map fun e => (e.1.plus d n, e.2)) (y.map fun e => (e.1.plus d n, e.2)) :=
  map_joinWith _ (fun x y => congrArg (·, x.2.max y.2) (x.1.plus_max y.1 d n)) x y

/-! ### How `Peaks` are joined, and one more interval (02 R32, R33) -/

theorem Peaks.join_eq (p q : Peaks) :
    p.join q =
      ⟨p.silent || q.silent, joinWith Extent.max p.atMark q.atMark, joinWith bothMax p.atSpace q.atSpace⟩ := rfl

/-- The lists without a MARK, with a MARK of `d` behind them. -/
def Peaks.begun (p : Peaks) (d : Nat) : Option Extent := if p.silent then some ⟨d, 1⟩ else none

theorem Peaks.add_mark (p : Peaks) (d : Nat) :
    p.add ⟨.mark, d⟩ =
      ⟨false,
        joinWith Extent.max (p.begun d)
          (joinWith Extent.max (p.atMark.map (·.plus d 0)) (p.atSpace.map fun e => e.1.plus d 1)),
        none⟩ := rfl

theorem Peaks.add_space (p : Peaks) (d : Nat) :
    p.add ⟨.space, d⟩ =
      ⟨p.silent, none,
        joinWith bothMax (p.atMark.map fun e => (e.plus d 1, e)) (p.atSpace.map fun e => (e.1.plus d 0, e.2))⟩ := rfl

theorem Peaks.begun_join (p q : Peaks) (d : Nat) :
    (p.join q).begun d = joinWith Extent.max (p.begun d) (q.begun d) := by
  unfold Peaks.begun Peaks.join
  cases p.silent with
  | false => rfl
  | true =>
    cases q.silent with
    | false => rfl
    | true => exact congrArg some (Extent.max_self _).symm

theorem Peaks.add_join (p q : Peaks) (iv : Interval) : (p.join q).add iv = (p.add iv).join (q.add iv) := by
  obtain ⟨kind, d⟩ := iv
  cases kind with
  | mark =>
    rw [add_mark, begun_join, add_mark, add_mark, join_eq p q, join_eq]
    dsimp only
    rw [map_plus, map_joinWith (g := Extent.max) _ fun x y => x.1.plus_max y.1 d 1,
      joinWith_cross Extent.max_comm Extent.max_assoc (p.atMark.map _),
      joinWith_cross Extent.max_comm Extent.max_assoc (p.begun d)]
    rfl
  | space =>
    rw [add_space, add_space, add_space, join_eq p q, join_eq]
    dsimp only
    rw [map_joinWith (g := bothMax) _ fun x y => congrArg (·, x.max y) (x.plus_max y d 1), map_plus_first,
      joinWith_cross bothMax_comm bothMax_assoc]
    rfl

theorem Peaks.add_nothing (iv : Interval) : Peaks.nothing.add iv = .nothing := by
  obtain ⟨kind, d⟩ := iv
  cases kind <;> rfl

theorem Peaks.feed_cons (p : Peaks) (iv : Interval) (ivs : List Interval) : p.feed (iv :: ivs) = (p.add iv).feed ivs :=
  rfl

theorem Peaks.feed_append (p : Peaks) (xs ys : List Interval) : p.feed (xs ++ ys) = (p.feed xs).feed ys :=
  List.foldl_append

theorem Peaks.feed_join (p q : Peaks) (ivs : List Interval) : (p.join q).feed ivs = (p.feed ivs).join (q.feed ivs) := by
  induction ivs generalizing p q with
  | nil => rfl
  | cons iv ivs ih => rw [feed_cons, add_join, ih, feed_cons, feed_cons]

theorem Peaks.feed_nothing (ivs : List Interval) : Peaks.nothing.feed ivs = .nothing := by
  induction ivs with
  | nil => rfl
  | cons iv ivs ih => rw [feed_cons, add_nothing, ih]

/-! ### The measures of one raw list -/

theorem Peaks.add_same (p : Peaks) {iv next : Interval} (same : iv.kind = next.kind) :
    p.add ⟨iv.kind, iv.dur + next.dur⟩ = (p.add iv).add next := by
  obtain ⟨kind, d⟩ := iv
  obtain ⟨kind', d'⟩ := next
  obtain rfl : kind = kind' := same
  cases kind with
  | mark =>
    have begun : (p.begun d).map (·.plus d' 0) = p.begun (d + d') := by
      unfold Peaks.begun
      cases p.silent <;> rfl
    rw [add_mark, add_mark, add_mark]
    simp only [map_plus, begun, Option.map_map, Function.comp_def, Extent.plus_plus, Option.map_none,
      joinWith_none_right]
    rfl
  | space =>
    rw [add_space, add_space, add_space]
    simp only [map_plus_first, Option.map_map, Function.comp_def, Extent.plus_plus]
    rfl

theorem Peaks.feed_merge (p : Peaks) (raw : List Interval) : p.feed (merge raw) = p.feed raw := by
  induction raw generalizing p with
  | nil => rfl
  | cons iv raw ih =>
    rw [merge_cons, feed_cons, ← ih]
    unfold mergeInto
    cases merge raw with
    | nil => rfl
    | cons next rest =>
      dsimp only
      split
      · next same => rw [feed_cons, add_same p same, feed_cons]
      · rfl

theorem Peaks.feed_dropLeading (ivs : List Interval) : Peaks.start.feed (dropLeading ivs) = Peaks.start.feed ivs := by
  cases ivs with
  | nil => rfl
  | cons iv rest =>
    obtain ⟨kind, d⟩ := iv
    cases kind <;> rfl

theorem dropTrailing_cons {iv : Interval} {ivs : List Interval} (stays : iv.kind = .mark ∨ ivs ≠ []) :
    dropTrailing (iv :: ivs) = iv :: dropTrailing ivs := by
  unfold dropTrailing
  rw [List.reverse_cons]
  cases reversed : ivs.reverse with
  | nil =>
    have mark := stays.resolve_right (not_not_intro (List.reverse_eq_nil_iff.1 reversed))
    rw [List.nil_append, dropLeading, if_neg (by simp [mark])]
    rfl
  | cons last rest =>
    rw [List.cons_append, dropLeading, dropLeading]
    split <;> simp

theorem IKind.space_of_ne_mark {k : IKind} (differs : IKind.mark ≠ k) : k = .space := by
  cases k with
  | mark => exact absurd rfl differs
  | space => rfl

theorem IKind.mark_of_ne_space {k : IKind} (differs : IKind.space ≠ k) : k = .mark := by
  cases k with
  | mark => rfl
  | space => exact absurd rfl differs

/-- What follows a MARK of a list that alternates, measured behind that MARK. -/
theorem Peaks.atLastMark_feed (e : Extent) (ivs : List Interval) (alternates : Alternates ivs)
    (first : ∀ iv ∈ ivs.head?, iv.kind = .space) :
    (Peaks.feed ⟨false, some e, none⟩ ivs).atLastMark =
      some (e.plus (total (dropTrailing ivs)) (dropTrailing ivs).length) := by
  match ivs with
  | [] => rfl
  | [⟨kind, d⟩] =>
    obtain rfl : kind = .space := first _ rfl
    rfl
  | ⟨kind, d⟩ :: ⟨kind', d'⟩ :: rest =>
    obtain ⟨differ, follows⟩ := List.isChain_cons_cons.1 alternates
    obtain ⟨after, onward⟩ := List.isChain_cons.1 follows
    obtain rfl : kind = .space := first _ rfl
    obtain rfl : kind' = .mark := IKind.mark_of_ne_space differ
    have step : ((Peaks.mk false (some e) none).add ⟨.space, d⟩).add ⟨.mark, d'⟩ =
        ⟨false, some ((e.plus d 1).plus d' 1), none⟩ := rfl
    have measured := atLastMark_feed ((e.plus d 1).plus d' 1) rest onward fun iv at_ =>
      IKind.space_of_ne_mark (after iv at_)
    rw [feed_cons, feed_cons, step, measured, dropTrailing_cons (.inr (List.cons_ne_nil _ _)),
      dropTrailing_cons (.inl rfl), Extent.plus_plus, Extent.plus_plus]
    congr 2
    simp only [List.length_cons]
    omega

/-- The extent of a frame: its duration and its number of intervals. -/
def extent (ivs : List Interval) : Extent := ⟨total ivs, ivs.length⟩

/-- The greatest extent of a set of raw lists, up to the end of the last MARK; zero when none holds a MARK. -/
def Peaks.top (p : Peaks) : Extent := p.atLastMark.getD ⟨0, 0⟩

/-- 02 R32, R33: fed with one raw list, `Peaks` measure the frame that is rendered from it. -/
theorem Peaks.top_single (raw : List Interval) : (Peaks.start.feed raw).top = extent (render raw) := by
  have alternates := dropLeading_alternates (merge_alternates raw)
  have first := dropLeading_head (merge_alternates raw)
  rw [← feed_merge, ← feed_dropLeading, render]
  cases frame : dropLeading (merge raw) with
  | nil => rfl
  | cons iv rest =>
    rw [frame] at alternates first
    obtain ⟨kind, d⟩ := iv
    obtain rfl : kind = .mark := first _ rfl
    obtain ⟨after, alternates⟩ := List.isChain_cons.1 alternates
    have begun : Peaks.start.add ⟨.mark, d⟩ = ⟨false, some ⟨d, 1⟩, none⟩ := rfl
    have measured := atLastMark_feed ⟨d, 1⟩ rest alternates fun iv at_ => IKind.space_of_ne_mark (after iv at_)
    rw [feed_cons, begun, top, measured, dropTrailing_cons (.inl rfl)]
    simp only [extent, Extent.plus, Option.getD_some, total, List.map_cons, List.sum_cons, List.length_cons,
      Nat.add_comm]

theorem Peaks.silent_feed (p : Peaks) (ivs : List Interval) : (p.feed ivs).silent = (p.silent && !holdsMark ivs) := by
  induction ivs generalizing p with
  | nil => exact (Bool.and_true _).symm
  | cons iv ivs ih =>
    rw [feed_cons, ih, holdsMark_cons]
    obtain ⟨kind, d⟩ := iv
    cases kind with
    | mark => simp [add_mark]
    | space => simp [add_space]

/-! ### The measures of a set of raw lists -/

/-- `p` holds the greatest measures of the raw lists of a set. -/
inductive Peaks.Of : Peaks → Set (List Interval) → Prop
  | single (raw : List Interval) : Of (Peaks.start.feed raw) {raw}
  | nothing : Of .nothing ∅
  | join {p q : Peaks} {S T : Set (List Interval)} (left : Of p S) (right : Of q T) : Of (p.join q) (S ∪ T)

namespace Peaks.Of
variable {p : Peaks} {S T : Set (List Interval)}

theorem congr (peaks : p.Of S) (same : ∀ r, r ∈ S ↔ r ∈ T) : p.Of T := Set.ext same ▸ peaks

theorem feed (peaks : p.Of S) (ivs : List Interval) : (p.feed ivs).Of {r | ∃ a ∈ S, r = a ++ ivs} := by
  induction peaks with
  | single raw =>
    rw [← feed_append]
    exact (single _).congr fun r => by simp
  | nothing =>
    rw [feed_nothing]
    exact nothing.congr fun r => by simp
  | join _ _ left right =>
    rw [feed_join]
    exact (left.join right).congr fun r => by simp [or_and_right, exists_or]

theorem joinAll {ps : List Peaks} {S : Nat → Set (List Interval)}
    (each : ∀ i q, ps[i]? = some q → Peaks.Of q (S i)) : (Peaks.joinAll ps).Of {r | ∃ i < ps.length, r ∈ S i} := by
  have onto {acc : Peaks} {A : Set (List Interval)} (start : acc.Of A) :
      (ps.foldl Peaks.join acc).Of (A ∪ {r | ∃ i < ps.length, r ∈ S i}) := by
    induction ps generalizing acc A S with
    | nil => exact start.congr fun r => by simp
    | cons p ps ih =>
      refine (ih (S := fun i => S (i + 1)) (fun i q at_ => each (i + 1) q (by simpa using at_))
        (start.join (each 0 p rfl))).congr fun r => ?_
      simp only [Set.mem_union, Set.mem_ofPred_eq, List.length_cons, or_assoc]
      refine or_congr_right ⟨?_, ?_⟩
      · rintro (first | ⟨i, inside, among⟩)
        · exact ⟨0, by omega, first⟩
        · exact ⟨i + 1, by omega, among⟩
      · rintro ⟨i, inside, among⟩
        cases i with
        | zero => exact .inl among
        | succ i => exact .inr ⟨i, by omega, among⟩
  exact (onto nothing).congr fun r => by simp

/-- The joined measures of a family of sets. -/
theorem joinRange {n : Nat} {f : Nat → Peaks} {S : Nat → Set (List Interval)} (each : ∀ v < n, (f v).Of (S v)) :
    (Peaks.joinAll ((List.range n).map f)).Of {r | ∃ v < n, r ∈ S v} := by
  refine (joinAll (S := S) fun i p at_ => ?_).congr fun r => by simp
  obtain ⟨inside, rfl⟩ := List.getElem?_eq_some_iff.1 at_
  rw [List.getElem_map, List.getElem_range]
  exact each i (by simpa using inside)

theorem silent_iff (peaks : p.Of S) : p.silent = true ↔ ∃ r ∈ S, holdsMark r = false := by
  induction peaks with
  | single raw => simp [silent_feed, start]
  | nothing => simp [Peaks.nothing]
  | join _ _ left right => simp [join_eq, left, right, or_and_right, exists_or]

theorem top_join (p q : Peaks) : (p.join q).top = p.top.max q.top := by
  have joined : (p.join q).atLastMark = joinWith Extent.max p.atLastMark q.atLastMark := by
    unfold atLastMark
    rw [join_eq]
    dsimp only
    rw [map_joinWith (g := Extent.max) _ fun x y => rfl, joinWith_cross Extent.max_comm Extent.max_assoc]
  unfold top
  rw [joined]
  cases p.atLastMark with
  | none => simp [joinWith, Extent.max]
  | some x =>
    cases q.atLastMark with
    | none => simp [joinWith, Extent.max]
    | some y => rfl

theorem lt_count_iff (peaks : p.Of S) (n : Nat) : n < p.top.count ↔ ∃ r ∈ S, n < (render r).length := by
  induction peaks with
  | single raw => simp [top_single, extent]
  | nothing => simp [Peaks.nothing, top, atLastMark, joinWith]
  | join _ _ left right => simp [top_join, Extent.max, left, right, or_and_right, exists_or]

theorem lt_dur_iff (peaks : p.Of S) (n : Nat) : n < p.top.dur ↔ ∃ r ∈ S, n < total (render r) := by
  induction peaks with
  | single raw => simp [top_single, extent]
  | nothing => simp [Peaks.nothing, top, atLastMark, joinWith]
  | join _ _ left right => simp [top_join, Extent.max, left, right, or_and_right, exists_or]

end Peaks.Of

end Sys2Proof.Machine
end


section
/-! PROOF. The worst cases of a template run over all its frames (01 R15). -/
namespace Sys2Proof.Machine

/-! ### The intervals that bits place (02 R30) -/

/-- The intervals that encoded bits place. -/
def Template.placed (t : Template) (bits : List Bool) : List Interval := (t.steps bits).flatMap t.symbol

theorem pairIndices_append {n : Nat} {x : List Bool} (even : x.length = 2 * n) (y : List Bool) :
    pairIndices (x ++ y) = pairIndices x ++ pairIndices y := by
  induction n generalizing x with
  | zero => rw [List.eq_nil_of_length_eq_zero even]; rfl
  | succ n ih =>
    match x, even with
    | hi :: lo :: rest, even =>
      rw [List.cons_append, List.cons_append, pairIndices, pairIndices,
        ih (by rw [List.length_cons, List.length_cons] at even; omega), List.cons_append]

theorem Template.bitsPerSymbol_eq (t : Template) :
    t.symbolCount = some 4 ∧ t.bitsPerSymbol = 2 ∨ t.symbolCount ≠ some 4 ∧ t.bitsPerSymbol = 1 := by
  unfold Template.bitsPerSymbol
  by_cases four : t.symbolCount = some 4
  · exact .inl ⟨four, if_pos four⟩
  · exact .inr ⟨four, if_neg four⟩

theorem Template.placed_append {t : Template} {x : List Bool} (whole : x.length % t.bitsPerSymbol = 0) (y : List Bool) :
    t.placed (x ++ y) = t.placed x ++ t.placed y := by
  rw [placed, placed, placed, ← List.flatMap_append]
  congr 1
  unfold Template.steps
  rcases t.bitsPerSymbol_eq with ⟨four, two⟩ | ⟨other, _⟩
  · rw [if_pos four, if_pos four, if_pos four]
    exact pairIndices_append (n := x.length / 2) (by rw [two] at whole; omega) y
  · rw [if_neg other, if_neg other, if_neg other, List.map_append]

/-- The bits of one step are those of a symbol index, and place its symbol. -/
theorem Template.oneStep (t : Template) (x : List Bool) :
    x.length = t.bitsPerSymbol ↔ ∃ v < 2 ^ t.bitsPerSymbol, x = t.receivedBits [v] := by
  rcases t.bitsPerSymbol_eq with ⟨four, two⟩ | ⟨other, one⟩
  · have bits (v : Nat) : t.receivedBits [v] = [decide (2 ≤ v), decide (v % 2 = 1)] := if_pos four
    simp only [bits, two]
    constructor
    · intro long
      obtain ⟨hi, lo, rfl⟩ := List.length_eq_two.1 long
      refine ⟨2 * hi.toNat + lo.toNat, ?_, ?_⟩ <;> cases hi <;> cases lo <;> decide
    · rintro ⟨v, _, rfl⟩
      rfl
  · have bits (v : Nat) : t.receivedBits [v] = [decide (v = 1)] := if_neg other
    simp only [bits, one]
    constructor
    · intro long
      obtain ⟨b, rfl⟩ := List.length_eq_one_iff.1 long
      refine ⟨b.toNat, ?_, ?_⟩ <;> cases b <;> decide
    · rintro ⟨v, _, rfl⟩
      rfl

theorem Template.placed_receivedBits (t : Template) {v : Nat} (small : v < 2 ^ t.bitsPerSymbol) :
    t.placed (t.receivedBits [v]) = t.symbol v := by
  have step : t.steps (t.receivedBits [v]) = [v] := by
    unfold Template.steps Template.receivedBits
    rcases t.bitsPerSymbol_eq with ⟨four, two⟩ | ⟨other, one⟩
    · rw [two] at small
      rw [if_pos four, if_pos four]
      interval_cases v <;> rfl
    · rw [one] at small
      rw [if_neg other, if_neg other]
      interval_cases v <;> rfl
  rw [placed, step, List.flatMap_cons, List.flatMap_nil, List.append_nil]

/-! ### Bits of a set behind raw lists of a set -/

/-- The raw lists of `S`, each with the intervals behind it that bits of `B` place. -/
def Template.behind (t : Template) (S : Set (List Interval)) (B : Set (List Bool)) : Set (List Interval) :=
  {r | ∃ a ∈ S, ∃ x ∈ B, r = a ++ t.placed x}

/-- A sequence of `B` and one of `C` behind it. -/
def followed (B C : Set (List Bool)) : Set (List Bool) := {z | ∃ x ∈ B, ∃ y ∈ C, z = x ++ y}

theorem Template.mem_behind {t : Template} {S : Set (List Interval)} {B : Set (List Bool)} {r : List Interval} :
    r ∈ t.behind S B ↔ ∃ a ∈ S, ∃ x ∈ B, r = a ++ t.placed x := Iff.rfl

theorem Template.behind_behind {t : Template} {S : Set (List Interval)} {B C : Set (List Bool)}
    (whole : ∀ x ∈ B, x.length % t.bitsPerSymbol = 0) : t.behind (t.behind S B) C = t.behind S (followed B C) := by
  ext r
  constructor
  · rintro ⟨_, ⟨a, base, x, first, rfl⟩, y, second, rfl⟩
    exact ⟨a, base, x ++ y, ⟨x, first, y, second, rfl⟩, by rw [placed_append (whole x first), List.append_assoc]⟩
  · rintro ⟨a, base, _, ⟨x, first, y, second, rfl⟩, rfl⟩
    exact ⟨_, ⟨a, base, x, first, rfl⟩, y, second, by rw [placed_append (whole x first), List.append_assoc]⟩

theorem Template.behind_nil (t : Template) (S : Set (List Interval)) : t.behind S {[]} = S := by
  have none_ : t.placed [] = [] := by
    unfold placed Template.steps
    split <;> rfl
  ext r
  rw [mem_behind]
  constructor
  · rintro ⟨a, base, x, rfl, rfl⟩
    rwa [none_, List.append_nil]
  · intro base
    exact ⟨r, base, [], rfl, by rw [none_, List.append_nil]⟩

/-- One sequence of `n` behind every raw list of the set. -/
theorem Peaks.Of.behind {t : Template} {p : Peaks} {S : Set (List Interval)} (peaks : p.Of S) {n : Nat}
    {f : Nat → Peaks} {g : Nat → List Bool} {B : Set (List Bool)} (fed : ∀ v < n, f v = p.feed (t.placed (g v)))
    (all : ∀ x, x ∈ B ↔ ∃ v < n, x = g v) : (Peaks.joinAll ((List.range n).map f)).Of (t.behind S B) := by
  refine (joinRange (S := fun v => {r | ∃ a ∈ S, r = a ++ t.placed (g v)})
    fun v small => fed v small ▸ peaks.feed _).congr fun r => ?_
  constructor
  · rintro ⟨v, small, a, base, rfl⟩
    exact ⟨a, base, g v, (all _).2 ⟨v, small, rfl⟩, rfl⟩
  · rintro ⟨a, base, x, among, rfl⟩
    obtain ⟨v, small, rfl⟩ := (all x).1 among
    exact ⟨v, small, a, base, rfl⟩

/-! ### Check NONE -/

/-- The bit sequences of `n` bits. -/
def sequences (n : Nat) : Set (List Bool) := {x | x.length = n}

theorem mem_sequences {n : Nat} {x : List Bool} : x ∈ sequences n ↔ x.length = n := Iff.rfl

theorem followed_sequences (m n : Nat) : followed (sequences m) (sequences n) = sequences (m + n) := by
  ext z
  constructor
  · rintro ⟨x, rfl, y, rfl, rfl⟩
    exact List.length_append
  · intro long
    rw [mem_sequences] at long
    exact ⟨z.take m, by rw [mem_sequences, List.length_take]; omega, z.drop m,
      by rw [mem_sequences, List.length_drop]; omega, (List.take_append_drop m z).symm⟩

theorem sequences_zero : sequences 0 = {[]} := by
  ext x
  exact List.length_eq_zero_iff

theorem peaksNone_of (t : Template) (n : Nat) {p : Peaks} {S : Set (List Interval)} (peaks : p.Of S) :
    (peaksNone t n p).Of (t.behind S (sequences (n * t.bitsPerSymbol))) := by
  induction n generalizing p S with
  | zero => rwa [Nat.zero_mul, sequences_zero, t.behind_nil]
  | succ n ih =>
    have step := peaks.behind (t := t) (f := fun v => p.feed (t.symbol v)) (n := 2 ^ t.bitsPerSymbol)
      (B := sequences t.bitsPerSymbol) (fun v small => by rw [t.placed_receivedBits small]) t.oneStep
    have rest := ih step
    rwa [t.behind_behind (fun x long => by rw [mem_sequences.1 long, Nat.mod_self]), followed_sequences,
      Nat.add_comm, ← Nat.succ_mul] at rest

/-! ### Check INVERT_BYTES (02 R28) -/

theorem bitsValue_lt (bits : List Bool) : bitsValue bits < 2 ^ bits.length := by
  induction bits with
  | nil => exact Nat.one_pos
  | cons b rest ih =>
    have := Bool.toNat_lt b
    rw [bitsValue, List.length_cons, Nat.pow_succ]
    omega

theorem length_bitsOfByte (m : Nat) : (bitsOfByte m).length = 8 := rfl

theorem bitsOfByte_bitsValue {g : List Bool} (eight : g.length = 8) : bitsOfByte (bitsValue g) = g := by
  refine List.ext_getElem (by rw [length_bitsOfByte, eight]) fun i low inside => ?_
  have bit : (bitsOfByte (bitsValue g))[i] = (bitsValue g).testBit i := by simp [bitsOfByte]
  rw [bit, testBit_bitsValue, List.getD_eq_getElem _ _ inside]

theorem byte_iff (g : List Bool) : g.length = 8 ↔ ∃ v < 256, g = bitsOfByte v := by
  constructor
  · intro eight
    have small := bitsValue_lt g
    rw [eight] at small
    exact ⟨bitsValue g, small, (bitsOfByte_bitsValue eight).symm⟩
  · rintro ⟨v, _, rfl⟩
    exact length_bitsOfByte v

/-- The encoded sequences of `n` bytes, each with its complement behind it. -/
def invertedBytes (n : Nat) : Set (List Bool) :=
  {x | ∃ gs : List (List Bool), gs.length = n ∧ (∀ g ∈ gs, g.length = 8) ∧ x = (gs.flatMap doubled).flatten}

theorem invertedBytes_succ (n : Nat) :
    followed {x | ∃ v < 256, x = bitsOfByte v ++ complement (bitsOfByte v)} (invertedBytes n) =
      invertedBytes (n + 1) := by
  have front (g : List Bool) (gs : List (List Bool)) :
      ((g :: gs).flatMap doubled).flatten = (g ++ complement g) ++ (gs.flatMap doubled).flatten := by
    rw [List.flatMap_cons, List.flatten_append, doubled, List.flatten_cons, List.flatten_cons, List.flatten_nil,
      List.append_nil]
  ext z
  constructor
  · rintro ⟨_, ⟨v, _, rfl⟩, _, ⟨gs, rfl, sized, rfl⟩, rfl⟩
    exact ⟨bitsOfByte v :: gs, rfl, List.forall_mem_cons.2 ⟨rfl, sized⟩, (front _ _).symm⟩
  · rintro ⟨gs, count, sized, rfl⟩
    obtain ⟨g, gs, rfl⟩ := List.exists_cons_of_length_eq_add_one count
    obtain ⟨eight, rest⟩ := List.forall_mem_cons.1 sized
    obtain ⟨v, small, rfl⟩ := (byte_iff g).1 eight
    exact ⟨_, ⟨v, small, rfl⟩, _, ⟨gs, Nat.succ.inj count, rest, rfl⟩, front _ _⟩

theorem Template.sixteen_whole (t : Template) : 16 % t.bitsPerSymbol = 0 := by
  rcases t.bitsPerSymbol_eq with ⟨_, e⟩ | ⟨_, e⟩ <;> rw [e]

theorem peaksInvert_of (t : Template) (n : Nat) {p : Peaks} {S : Set (List Interval)} (peaks : p.Of S) :
    (peaksInvert t n p).Of (t.behind S (invertedBytes n)) := by
  induction n generalizing p S with
  | zero =>
    have none_ : invertedBytes 0 = {[]} := by
      ext x
      constructor
      · rintro ⟨gs, count, -, rfl⟩
        rw [List.eq_nil_of_length_eq_zero count]
        rfl
      · rintro rfl
        exact ⟨[], rfl, nofun, rfl⟩
    rwa [none_, t.behind_nil]
  | succ n ih =>
    have step := peaks.behind (t := t) (n := 256) (g := fun v => bitsOfByte v ++ complement (bitsOfByte v))
      (f := fun v => p.feedBits t (bitsOfByte v ++ (bitsOfByte v).map (!·)))
      (B := {x | ∃ v < 256, x = bitsOfByte v ++ complement (bitsOfByte v)}) (fun _ _ => rfl) fun _ => Iff.rfl
    have rest := ih step
    rwa [t.behind_behind (by rintro _ ⟨v, _, rfl⟩; exact t.sixteen_whole), invertedBytes_succ] at rest

end Sys2Proof.Machine
end


section
/-! PROOF. Check SUM8 among the worst cases (01 R15, 02 R29): tables by the sum of the payload bytes. -/
namespace Sys2Proof.Machine

/-! ### What bits add to the sum -/

/-- What bits at payload positions add to the sum of the payload bytes. -/
def weigh (positions : List Nat) (bits : List Bool) : Nat :=
  (List.zipWith (fun i b => b.toNat * bitWeight i) positions bits).sum

theorem weigh_cons (i : Nat) (ps : List Nat) (b : Bool) (x : List Bool) :
    weigh (i :: ps) (b :: x) = b.toNat * bitWeight i + weigh ps x := rfl

theorem weigh_append {ps : List Nat} {x : List Bool} (long : x.length = ps.length) (qs : List Nat) (y : List Bool) :
    weigh (ps ++ qs) (x ++ y) = weigh ps x + weigh qs y := by
  rw [weigh, List.zipWith_append long.symm, List.sum_append]
  rfl

theorem weigh_reverse {ps : List Nat} {x : List Bool} (long : x.length = ps.length) :
    weigh ps.reverse x.reverse = weigh ps x := by
  rw [weigh, ← List.reverse_zipWith long.symm, List.sum_reverse]
  rfl

theorem weigh_byte {g : List Bool} (eight : g.length = 8) : weigh (List.range 8) g = bitsValue g := by
  match g, eight with
  | [b0, b1, b2, b3, b4, b5, b6, b7], _ =>
    change weigh [0, 1, 2, 3, 4, 5, 6, 7] _ = _
    simp only [weigh, bitWeight, List.zipWith_cons_cons, List.zipWith_nil_left, List.sum_cons, List.sum_nil, bitsValue,
      Nat.reduceMod, Nat.reducePow]
    omega

/-- Positions one byte further weigh the same. -/
theorem weigh_shift (ps : List Nat) (x : List Bool) : weigh (ps.map (8 + ·)) x = weigh ps x := by
  unfold weigh
  rw [List.zipWith_map_left]
  simp [bitWeight]

theorem weigh_range {n : Nat} {bits : List Bool} (whole : bits.length = 8 * n) :
    weigh (List.range (8 * n)) bits = ((octets n bits).map bitsValue).sum := by
  induction n generalizing bits with
  | zero => rw [List.eq_nil_of_length_eq_zero whole]; rfl
  | succ n ih =>
    have front : (bits.take 8).length = 8 := by rw [List.length_take]; omega
    have back : (bits.drop 8).length = 8 * n := by rw [List.length_drop]; omega
    have split_ : List.range (8 * (n + 1)) = List.range 8 ++ (List.range (8 * n)).map (8 + ·) := by
      rw [Nat.mul_succ, Nat.add_comm, List.range_add]
    rw [octets_succ, List.map_cons, List.sum_cons, ← ih back, ← weigh_byte front, split_]
    conv_lhs => rw [← List.take_append_drop 8 bits]
    rw [weigh_append (by rw [front, List.length_range]), weigh_shift]

theorem Template.length_positions (t : Template) : t.positions.length = t.payloadBits := by
  unfold positions
  cases t.bitOrder <;> simp

/-- 02 R29: sent in their order, the payload bits add up to the check byte. -/
theorem Template.weigh_positions {t : Template} {bits : List Bool} (long : bits.length = t.payloadBits)
    (whole : t.payloadBits % 8 = 0) : weigh t.positions (t.bitOrder.arrange bits) % 256 = sumByte bits := by
  have summed : weigh (List.range t.payloadBits) bits = ((octets (bits.length / 8) bits).map bitsValue).sum := by
    rw [← weigh_range (by omega)]
    congr 2
    omega
  unfold positions BitOrder.arrange sumByte
  rw [← summed]
  cases t.bitOrder with
  | lsbFirst => rfl
  | msbFirst => exact congrArg (· % 256) (weigh_reverse (by rw [long, List.length_range]))

/-! ### Tables of 256 sets -/

/-- A table of 256 greatest measures, each of a set of raw lists. -/
def TableOf (table : List Peaks) (S : Nat → Set (List Interval)) : Prop :=
  table.length = 256 ∧ ∀ m p, table[m]? = some p → Peaks.Of p (S m)

namespace TableOf
variable {table table' : List Peaks} {S R : Nat → Set (List Interval)}

theorem congr (holds : TableOf table S) (same : ∀ m < 256, ∀ r, r ∈ S m ↔ r ∈ R m) : TableOf table R := by
  obtain ⟨long, each⟩ := holds
  refine ⟨long, fun m p at_ => (each m p at_).congr (same m ?_)⟩
  obtain ⟨inside, -⟩ := List.getElem?_eq_some_iff.1 at_
  omega

theorem nothing : TableOf noTable fun _ => ∅ := by
  refine ⟨List.length_replicate, fun m p at_ => ?_⟩
  obtain ⟨inside, rfl⟩ := List.getElem?_eq_some_iff.1 at_
  exact (List.getElem_replicate (a := Peaks.nothing) inside).symm ▸ .nothing

theorem zeroth {lead : Peaks} {L : Set (List Interval)} (peaks : lead.Of L) :
    TableOf (noTable.set 0 lead) fun m => {r | m = 0 ∧ r ∈ L} := by
  refine ⟨List.length_set.trans List.length_replicate, fun m p at_ => ?_⟩
  cases m with
  | zero =>
    cases at_
    exact peaks.congr fun r => by simp
  | succ m =>
    rw [List.getElem?_set_ne (Nat.succ_ne_zero m).symm] at at_
    exact (nothing.2 _ p at_).congr fun r => by simp

theorem feed (holds : TableOf table S) (ivs : List Interval) :
    TableOf (table.map fun p => p.feed ivs) fun m => {r | ∃ a ∈ S m, r = a ++ ivs} := by
  obtain ⟨long, each⟩ := holds
  refine ⟨(List.length_map _).trans long, fun m p at_ => ?_⟩
  rw [List.getElem?_map] at at_
  obtain ⟨q, found, rfl⟩ := Option.map_eq_some_iff.1 at_
  exact (each m q found).feed ivs

theorem join (holds : TableOf table S) (holds' : TableOf table' R) :
    TableOf (List.zipWith Peaks.join table table') fun m => S m ∪ R m := by
  obtain ⟨long, each⟩ := holds
  obtain ⟨long', each'⟩ := holds'
  refine ⟨by rw [List.length_zipWith, long, long', Nat.min_self], fun m p at_ => ?_⟩
  obtain ⟨x, y, left, right, rfl⟩ := List.getElem?_zipWith_eq_some.1 at_
  exact (each m x left).join (each' m y right)

/-- Every set moves up by `w` places, modulo 256. -/
theorem rotate (holds : TableOf table S) (w : Nat) :
    TableOf (rotate w table) fun m => {r | ∃ m' < 256, (m' + w) % 256 = m ∧ r ∈ S m'} := by
  obtain ⟨long, each⟩ := holds
  have from_ {m m' : Nat} {p : Peaks} (small : m' < 256) (sum : (m' + w) % 256 = m) (at_ : table[m']? = some p) :
      p.Of {r | ∃ m' < 256, (m' + w) % 256 = m ∧ r ∈ S m'} := by
    refine (each m' p at_).congr fun r => ⟨fun among => ⟨m', small, sum, among⟩, ?_⟩
    rintro ⟨m'', small', sum', among⟩
    obtain rfl : m'' = m' := by omega
    exact among
  unfold Machine.rotate
  refine ⟨by rw [List.length_append, List.length_drop, List.length_take, long]; omega, fun m p at_ => ?_⟩
  have inside : m < 256 := by
    obtain ⟨inside, -⟩ := List.getElem?_eq_some_iff.1 at_
    rw [List.length_append, List.length_drop, List.length_take, long] at inside
    omega
  rw [List.getElem?_append, List.length_drop, long] at at_
  split at at_
  · rw [List.getElem?_drop] at at_
    exact from_ (by omega) (by omega) at_
  · rw [List.getElem?_take] at at_
    split at at_
    · exact from_ (by omega) (by omega) at_
    · cases at_

theorem joinAll {n : Nat} {f : Nat → List Peaks} {F : Nat → Nat → Set (List Interval)}
    (each : ∀ v < n, TableOf (f v) (F v)) :
    TableOf ((List.range n).foldl (fun acc v => List.zipWith Peaks.join acc (f v)) noTable)
      fun m => {r | ∃ v < n, r ∈ F v m} := by
  induction n with
  | zero => exact nothing.congr fun m _ r => by simp
  | succ n ih =>
    rw [List.range_succ, List.foldl_append]
    refine ((ih fun v small => each v (by omega)).join (each n (Nat.lt_succ_self n))).congr fun m _ r => ?_
    constructor
    · rintro (⟨v, small, among⟩ | among)
      · exact ⟨v, by omega, among⟩
      · exact ⟨n, Nat.lt_succ_self n, among⟩
    · rintro ⟨v, small, among⟩
      rcases Nat.lt_succ_iff_lt_or_eq.1 small with below | rfl
      · exact .inl ⟨v, below, among⟩
      · exact .inr among

end TableOf

/-! ### The payload part, step by step -/

/-- The raw lists of the sets `S`, each with the intervals behind it that bits at payload positions place, by the
sum of what they add. -/
def Template.summed (t : Template) (S : Nat → Set (List Interval)) (ps : List Nat) (m : Nat) : Set (List Interval) :=
  {r | ∃ m' < 256, ∃ a ∈ S m', ∃ x : List Bool,
    x.length = ps.length ∧ (m' + weigh ps x) % 256 = m ∧ r = a ++ t.placed x}

theorem Template.summed_summed {t : Template} {S : Nat → Set (List Interval)} {ps : List Nat}
    (whole : ps.length % t.bitsPerSymbol = 0) (qs : List Nat) (m : Nat) :
    t.summed (t.summed S ps) qs m = t.summed S (ps ++ qs) m := by
  ext r
  constructor
  · rintro ⟨_, _, _, ⟨m', small, a, base, x, long, rfl, rfl⟩, y, long', rfl, rfl⟩
    refine ⟨m', small, a, base, x ++ y, by rw [List.length_append, List.length_append, long, long'], ?_, ?_⟩
    · rw [weigh_append long]
      omega
    · rw [placed_append (by rwa [long]), List.append_assoc]
  · rintro ⟨m', small, a, base, z, long, rfl, rfl⟩
    rw [List.length_append] at long
    have front : (z.take ps.length).length = ps.length := by rw [List.length_take]; omega
    have back : (z.drop ps.length).length = qs.length := by rw [List.length_drop]; omega
    have placed := placed_append (t := t) (x := z.take ps.length) (by rwa [front]) (z.drop ps.length)
    have weighed := weigh_append front qs (z.drop ps.length)
    rw [List.take_append_drop] at placed weighed
    refine ⟨(m' + weigh ps (z.take ps.length)) % 256, Nat.mod_lt _ (by decide), _,
      ⟨m', small, a, base, _, front, rfl, rfl⟩, _, back, ?_, ?_⟩
    · rw [weighed]
      omega
    · rw [placed, List.append_assoc]

theorem Template.summed_nil (t : Template) (S : Nat → Set (List Interval)) {m : Nat} (small : m < 256) :
    t.summed S [] m = S m := by
  have none_ : t.placed [] = [] := by
    unfold placed Template.steps
    split <;> rfl
  ext r
  constructor
  · rintro ⟨m', small', a, base, x, long, sum, rfl⟩
    obtain rfl := List.eq_nil_of_length_eq_zero long
    obtain rfl : m' = m := by
      change (m' + 0) % 256 = m at sum
      omega
    rwa [none_, List.append_nil]
  · intro base
    exact ⟨m, small, r, base, [], rfl, Nat.mod_eq_of_lt small, by rw [none_, List.append_nil]⟩

theorem Template.stepWeight_eq {t : Template} {ps : List Nat} (one : ps.length = t.bitsPerSymbol) {v : Nat}
    (small : v < 2 ^ t.bitsPerSymbol) : stepWeight ps v = weigh ps (t.receivedBits [v]) := by
  rcases t.bitsPerSymbol_eq with ⟨four, two⟩ | ⟨other, single⟩
  · have bits : t.receivedBits [v] = [decide (2 ≤ v), decide (v % 2 = 1)] := if_pos four
    rw [two] at one small
    obtain ⟨i, j, rfl⟩ := List.length_eq_two.1 one
    rw [bits, weigh_cons, weigh_cons]
    interval_cases v <;> simp [stepWeight, weigh]
  · have bits : t.receivedBits [v] = [decide (v = 1)] := if_neg other
    rw [single] at one small
    obtain ⟨i, rfl⟩ := List.length_eq_one_iff.1 one
    rw [bits, weigh_cons]
    interval_cases v <;> simp [stepWeight, weigh]

theorem sumStep_of {t : Template} {table : List Peaks} {S : Nat → Set (List Interval)} (holds : TableOf table S)
    {ps : List Nat} (one : ps.length = t.bitsPerSymbol) : TableOf (sumStep t table ps) (t.summed S ps) := by
  refine (TableOf.joinAll fun v _ => (holds.feed (t.symbol v)).rotate (stepWeight ps v)).congr fun m _ r => ?_
  rw [one]
  constructor
  · rintro ⟨v, small, m', small', sum, a, base, rfl⟩
    rw [Template.stepWeight_eq one small] at sum
    exact ⟨m', small', a, base, t.receivedBits [v], by rw [one, t.oneStep]; exact ⟨v, small, rfl⟩, sum,
      by rw [t.placed_receivedBits small]⟩
  · rintro ⟨m', small', a, base, x, long, sum, rfl⟩
    obtain ⟨v, small, rfl⟩ := (t.oneStep x).1 (long.trans one)
    rw [← Template.stepWeight_eq one small] at sum
    exact ⟨v, small, m', small', sum, a, base, by rw [t.placed_receivedBits small]⟩

theorem sumSteps_of {t : Template} (chunks : List (List Nat)) (ones : ∀ ps ∈ chunks, ps.length = t.bitsPerSymbol)
    {table : List Peaks} {S : Nat → Set (List Interval)} (holds : TableOf table S) :
    TableOf (chunks.foldl (sumStep t) table) (t.summed S chunks.flatten) := by
  induction chunks generalizing table S with
  | nil => exact holds.congr fun m small r => by rw [List.flatten_nil, t.summed_nil S small]
  | cons ps chunks ih =>
    obtain ⟨one, rest⟩ := List.forall_mem_cons.1 ones
    refine (ih rest (sumStep_of holds one)).congr fun m _ r => ?_
    rw [Template.summed_summed (by rw [one, Nat.mod_self]), List.flatten_cons]

theorem stepPositions_flatten (wide : Bool) (ps : List Nat) : (stepPositions wide ps).flatten = ps := by
  induction ps using stepPositions.induct wide with
  | case1 i j rest wide_ ih => rw [stepPositions, if_pos wide_, List.flatten_cons, ih]; rfl
  | case2 i j rest narrow ih => rw [stepPositions, if_neg narrow, List.flatten_cons, ih]; rfl
  | case3 i => rfl
  | case4 => rfl

theorem stepPositions_sized {wide : Bool} {ps : List Nat} (even : wide = true → ps.length % 2 = 0) :
    ∀ qs ∈ stepPositions wide ps, qs.length = if wide = true then 2 else 1 := by
  induction ps using stepPositions.induct wide with
  | case1 i j rest wide_ ih =>
    rw [stepPositions, if_pos wide_]
    refine List.forall_mem_cons.2 ⟨(if_pos wide_).symm, ih fun _ => ?_⟩
    have := even wide_
    rw [List.length_cons, List.length_cons] at this
    omega
  | case2 i j rest narrow ih =>
    rw [stepPositions, if_neg narrow]
    exact List.forall_mem_cons.2 ⟨(if_neg narrow).symm, ih fun wide_ => absurd wide_ narrow⟩
  | case3 i =>
    refine List.forall_mem_cons.2 ⟨?_, nofun⟩
    by_cases wide_ : wide = true
    · exact absurd (even wide_) Nat.one_ne_zero
    · exact (if_neg wide_).symm
  | case4 => exact nofun

/-- The payload part: the bit sequences of the payload, by the sum of its bytes. -/
theorem peaksSum_of {t : Template} {lead : Peaks} {L : Set (List Interval)} (peaks : lead.Of L)
    (whole : t.payloadBits % 2 = 0) :
    TableOf (peaksSum t lead) (t.summed (fun m => {r | m = 0 ∧ r ∈ L}) t.positions) := by
  have sized : ∀ qs ∈ stepPositions (decide (t.bitsPerSymbol = 2)) t.positions, qs.length = t.bitsPerSymbol := by
    intro qs among
    rw [stepPositions_sized (fun _ => by rwa [t.length_positions]) qs among]
    rcases t.bitsPerSymbol_eq with ⟨_, e⟩ | ⟨_, e⟩ <;> rw [e] <;> rfl
  have chunks := sumSteps_of _ sized (TableOf.zeroth peaks)
  rwa [stepPositions_flatten] at chunks

theorem peaksSumCheck_of {t : Template} {table : List Peaks} {S : Nat → Set (List Interval)} (holds : TableOf table S) :
    (peaksSumCheck t table).Of
      {r | ∃ m < 256, ∃ a ∈ S m, r = a ++ t.placed (t.bitOrder.arrange (bitsOfByte m))} := by
  obtain ⟨long, each⟩ := holds
  refine (Peaks.Of.joinAll (S := fun m => {r | ∃ a ∈ S m, r = a ++ t.placed (t.bitOrder.arrange (bitsOfByte m))})
    fun m q at_ => ?_).congr fun r => ?_
  · rw [List.getElem?_mapIdx] at at_
    obtain ⟨p, found, rfl⟩ := Option.map_eq_some_iff.1 at_
    exact (each m p found).feed _
  · rw [List.length_mapIdx, long]
    rfl

end Sys2Proof.Machine
end


section
/-! PROOF. The reasons of a refused commit and the frames of a committed template (O11, O12). -/
namespace Sys2Proof.Machine

/-! ### The frames of a template (01 R15) -/

/-- The encoded bit sequences of the payloads of a template. -/
def Template.encodings (t : Template) : Set (List Bool) :=
  {x | ∃ bits : List Bool, bits.length = t.payloadBits ∧ x = encodeBits t.bitOrder t.check bits}

/-- The raw lists of the full frames of a template. -/
def Template.rawFrames (t : Template) : Set (List Interval) := {r | ∃ x ∈ t.encodings, r = t.rawFrame x}

theorem Template.mem_encodings {t : Template} {x : List Bool} :
    x ∈ t.encodings ↔ ∃ bits : List Bool, bits.length = t.payloadBits ∧ x = encodeBits t.bitOrder t.check bits := Iff.rfl

theorem Template.encodings_none {t : Template} (check : t.check = .none) : t.encodings = sequences t.payloadBits := by
  ext x
  rw [mem_encodings, check, mem_sequences]
  constructor
  · rintro ⟨bits, long, rfl⟩
    exact (t.bitOrder.length_arrange bits).trans long
  · intro long
    exact ⟨t.bitOrder.arrange x, (t.bitOrder.length_arrange x).trans long, (t.bitOrder.arrange_arrange x).symm⟩

theorem Template.encodings_invertBytes {t : Template} (check : t.check = .invertBytes) (whole : t.payloadBits % 8 = 0) :
    t.encodings = invertedBytes (t.payloadBits / 8) := by
  ext x
  rw [mem_encodings, check]
  constructor
  · rintro ⟨bits, long, rfl⟩
    exact ⟨octets (bits.length / 8) (t.bitOrder.arrange bits), by rw [length_octets, long],
      octets_arrange_sized t.bitOrder (by rwa [long]), encodeBits_invertBytes t.bitOrder bits⟩
  · rintro ⟨gs, count, sized, rfl⟩
    have long := length_flatten_sized sized
    have eighth : (t.bitOrder.arrange gs.flatten).length / 8 = gs.length := by rw [t.bitOrder.length_arrange]; omega
    refine ⟨t.bitOrder.arrange gs.flatten, by rw [t.bitOrder.length_arrange]; omega, ?_⟩
    rw [encodeBits_invertBytes, eighth, t.bitOrder.arrange_arrange, octets_flatten gs sized]

/-- The encoded payloads of check NONE or INVERT_BYTES, or the payload and its check byte. -/
theorem Template.peaks_of {t : Template} (even : t.symbolCount = some 4 → t.payloadBits % 2 = 0)
    (whole : t.check ≠ .none → t.payloadBits % 8 = 0) : t.peaks.Of t.rawFrames := by
  have lead := Peaks.Of.single t.lead
  have trailed {body : Peaks} (peaks : body.Of (t.behind {t.lead} t.encodings)) :
      (body.feed t.trailer).Of t.rawFrames := by
    refine (peaks.feed t.trailer).congr fun r => ?_
    constructor
    · rintro ⟨_, ⟨a, rfl, x, among, rfl⟩, rfl⟩
      exact ⟨x, among, rfl⟩
    · rintro ⟨x, among, rfl⟩
      exact ⟨_, ⟨_, rfl, x, among, rfl⟩, rfl⟩
  unfold peaks
  cases check : t.check with
  | none =>
    refine trailed ?_
    have steps : t.payloadBits / t.bitsPerSymbol * t.bitsPerSymbol = t.payloadBits := by
      rcases t.bitsPerSymbol_eq with ⟨four, e⟩ | ⟨_, e⟩ <;> rw [e]
      · have := even four
        omega
      · omega
    have peaks := peaksNone_of t (t.payloadBits / t.bitsPerSymbol) lead
    rwa [steps, ← encodings_none check] at peaks
  | invertBytes =>
    refine trailed ?_
    rw [encodings_invertBytes check (whole (by rw [check]; nofun))]
    exact peaksInvert_of t (t.payloadBits / 8) lead
  | sum8 =>
    have bytes : t.payloadBits % 8 = 0 := whole (by rw [check]; nofun)
    refine trailed ((peaksSumCheck_of (peaksSum_of lead (by omega))).congr fun r => ?_)
    have split_ {bits : List Bool} (long : bits.length = t.payloadBits) :
        t.placed (encodeBits t.bitOrder t.check bits) =
          t.placed (t.bitOrder.arrange bits) ++ t.placed (t.bitOrder.arrange (bitsOfByte (sumByte bits))) := by
      rw [check]
      refine placed_append ?_ _
      rw [t.bitOrder.length_arrange, long]
      rcases t.bitsPerSymbol_eq with ⟨_, e⟩ | ⟨_, e⟩ <;> rw [e] <;> omega
    constructor
    · rintro ⟨m, _, _, ⟨m', _, a, ⟨rfl, rfl⟩, x, long, rfl, rfl⟩, rfl⟩
      rw [t.length_positions] at long
      have back : (t.bitOrder.arrange x).length = t.payloadBits := (t.bitOrder.length_arrange x).trans long
      have sum := weigh_positions back bytes
      have placed := split_ back
      rw [t.bitOrder.arrange_arrange] at sum placed
      refine ⟨_, rfl, _, ⟨t.bitOrder.arrange x, back, rfl⟩, ?_⟩
      rw [placed, Nat.zero_add, sum, List.append_assoc]
    · rintro ⟨a, rfl, _, ⟨bits, long, rfl⟩, rfl⟩
      refine ⟨sumByte bits, Nat.mod_lt _ (by decide), _,
        ⟨0, by decide, _, ⟨rfl, rfl⟩, t.bitOrder.arrange bits, ?_, ?_, rfl⟩, ?_⟩
      · rw [t.bitOrder.length_arrange, long, t.length_positions]
      · rw [Nat.zero_add, weigh_positions long bytes]
      · rw [split_ long, List.append_assoc]

/-- Every bit sequence of the payload's length is that of a payload and a toggle bit. -/
theorem toggledBits_all (t : Template) {bits : List Bool} (long : bits.length = t.payloadBits) :
    ∃ payload bit, toggledBits t payload bit = bits := by
  refine ⟨(octets bits.length bits).map fun g => BitVec.ofNat 8 (bitsValue g), bits.getD (t.toggle.getD 0) false, ?_⟩
  refine List.ext_getElem (by rw [length_toggledBits, long]) fun i before inside => ?_
  simp only [toggledBits, List.getElem_map, List.getElem_range]
  by_cases toggles : t.toggle = some i
  · rw [if_pos toggles, toggles]
    exact List.getD_eq_getElem _ _ inside
  · have octet : i / 8 < (octets bits.length bits).length := by rw [length_octets]; omega
    have taken : (octets bits.length bits)[i / 8] = (bits.drop (8 * (i / 8))).take 8 := by simp [octets]
    have low : i % 8 < 8 := Nat.mod_lt i (by decide)
    have at_ : ((bits.drop (8 * (i / 8))).take 8).getD (i % 8) false = bits.getD (8 * (i / 8) + i % 8) false := by
      simp [List.getD_eq_getElem?_getD, List.getElem?_drop, low]
    rw [if_neg toggles, payloadBit, List.getD_eq_getElem _ _ (by rwa [List.length_map]), List.getElem_map, taken,
      BitVec.getLsbD_ofNat, testBit_bitsValue, at_, Nat.div_add_mod, decide_eq_true low, Bool.true_and,
      List.getD_eq_getElem _ _ inside]

theorem Template.exists_fullFrame (t : Template) (P : List Interval → Prop) :
    (∃ payload bit, P (t.fullFrame payload bit)) ↔ ∃ r ∈ t.rawFrames, P (render r) := by
  constructor
  · rintro ⟨payload, bit, holds⟩
    exact ⟨_, ⟨_, ⟨_, length_toggledBits t payload bit, rfl⟩, rfl⟩, holds⟩
  · rintro ⟨_, ⟨_, ⟨bits, long, rfl⟩, rfl⟩, holds⟩
    obtain ⟨payload, bit, rfl⟩ := toggledBits_all t long
    exact ⟨payload, bit, holds⟩

/-! ### The reasons in their order (01 R14) -/

/-- 01 R14: the payload length does not fit the check. -/
def Template.lengthRefused (t : Template) : Bool :=
  match t.check with
  | .none => false
  | .invertBytes => decide (t.payloadBits % 8 ≠ 0) || decide (32 < t.payloadBits)
  | .sum8 => decide (t.payloadBits % 8 ≠ 0) || decide (56 < t.payloadBits)

/-- 01 R14: the toggle position lies outside the payload. -/
def Template.toggleRefused (t : Template) : Bool :=
  match t.toggle with
  | none => false
  | some p => decide (t.payloadBits ≤ p)

theorem Template.lengthRefused_iff (t : Template) :
    t.lengthRefused = true ↔
      (t.check = .invertBytes ∧ (t.payloadBits % 8 ≠ 0 ∨ 32 < t.payloadBits))
        ∨ (t.check = .sum8 ∧ (t.payloadBits % 8 ≠ 0 ∨ 56 < t.payloadBits)) := by
  unfold lengthRefused
  cases t.check <;> simp

theorem Template.toggleRefused_iff (t : Template) :
    t.toggleRefused = true ↔ ∃ p ∈ t.toggle, t.payloadBits ≤ p := by
  unfold toggleRefused
  cases t.toggle <;> simp

theorem Template.whole_of_length {t : Template} (fits : ¬ t.lengthRefused = true) :
    t.check ≠ .none → t.payloadBits % 8 = 0 := by
  rw [t.lengthRefused_iff] at fits
  intro checked
  by_contra odd
  cases check : t.check with
  | none => exact checked check
  | invertBytes => exact fits (.inl ⟨check, .inl odd⟩)
  | sum8 => exact fits (.inr ⟨check, .inl odd⟩)

theorem firstReason_cons (reason : InvalidReason) (applies : Bool) (rest : List (InvalidReason × Bool)) :
    (((reason, applies) :: rest).find? Prod.snd).map Prod.fst =
      if applies = true then some reason else (rest.find? Prod.snd).map Prod.fst := by
  cases applies <;> rfl

theorem Template.invalid?_eq (t : Template) :
    t.invalid? =
      if t.symbolCount.isNone = true then some .noSymbols
      else if (decide (t.symbolCount = some 4) && decide (t.payloadBits % 2 = 1)) = true then some .oddPayload
      else if t.lengthRefused = true then some .checkLength
      else if t.toggleRefused = true then some .toggleRange
      else if t.peaks.silent = true then some .noMark
      else if (decide (t.repeatForm = .marker) && !holdsMark t.marker) = true then some .badMarker
      else if decide (160 < t.peaks.top.count) = true then some .tooMany
      else if (decide (250000 < t.peaks.top.dur)
          || (decide (t.repeatForm = .marker) && decide (250000 < total t.marker))) = true then some .tooLong
      else none := by
  unfold invalid? reasons
  iterate 8 rw [firstReason_cons]
  rfl

/-! ### What a template that passes holds to -/

section
variable {t : Template} (even : t.symbolCount = some 4 → t.payloadBits % 2 = 0)
  (whole : t.check ≠ .none → t.payloadBits % 8 = 0)
include even whole

theorem Template.silent_iff : t.peaks.silent = true ↔ ∃ payload bit, holdsMark (t.fullFrame payload bit) = false := by
  rw [t.exists_fullFrame fun ivs => holdsMark ivs = false, (peaks_of even whole).silent_iff]
  simp only [render_holdsMark]

theorem Template.tooMany_iff (n : Nat) :
    n < t.peaks.top.count ↔ ∃ payload bit, n < (t.fullFrame payload bit).length := by
  rw [t.exists_fullFrame fun ivs => n < ivs.length, (peaks_of even whole).lt_count_iff]

theorem Template.tooLong_iff (n : Nat) :
    n < t.peaks.top.dur ↔ ∃ payload bit, n < total (t.fullFrame payload bit) := by
  rw [t.exists_fullFrame fun ivs => n < total ivs, (peaks_of even whole).lt_dur_iff]

end

/-! ### Committed templates (01 R15, 02 R34, R36) -/

theorem total_append (xs ys : List Interval) : total (xs ++ ys) = total xs + total ys := by
  rw [total, List.map_append, List.sum_append]
  rfl

theorem render_infix (raw : List Interval) : render raw <:+: merge raw :=
  (dropTrailing_prefix _).isInfix.trans (dropLeading_suffix _).isInfix

theorem render_total_le (raw : List Interval) : total (render raw) ≤ total raw := by
  obtain ⟨before, after, whole⟩ := render_infix raw
  rw [← merge_total raw, ← whole, total_append, total_append]
  omega

theorem merge_length_le (raw : List Interval) : (merge raw).length ≤ raw.length := by
  induction raw with
  | nil => exact Nat.le_refl 0
  | cons iv raw ih =>
    have grows (done : List Interval) : (mergeInto iv done).length ≤ done.length + 1 := by
      unfold mergeInto
      cases done with
      | nil => exact Nat.le_refl 1
      | cons next rest =>
        dsimp only
        split <;> simp
    rw [merge_cons, List.length_cons]
    exact (grows _).trans (Nat.succ_le_succ ih)

theorem render_length_le (raw : List Interval) : (render raw).length ≤ raw.length :=
  (render_infix raw).length_le.trans (merge_length_le raw)

theorem reason_none {c : Prop} [Decidable c] {why : InvalidReason} {rest : Option InvalidReason}
    (passes : (if c then some why else rest) = none) : ¬ c ∧ rest = none := by
  by_cases applies : c
  · rw [if_pos applies] at passes
    cases passes
  · rw [if_neg applies] at passes
    exact ⟨applies, passes⟩

/-- Settles O12: every full frame of a committed template holds a MARK and fits, and so does its marker frame. -/
theorem committedFramesFit : Obligations.CommittedFramesFit := by
  intro t committed
  have passes : t.invalid? = none := committed
  rw [t.invalid?_eq] at passes
  obtain ⟨_, passes⟩ := reason_none passes
  obtain ⟨notOdd, passes⟩ := reason_none passes
  obtain ⟨fits, passes⟩ := reason_none passes
  obtain ⟨_, passes⟩ := reason_none passes
  obtain ⟨marked, passes⟩ := reason_none passes
  obtain ⟨marker, passes⟩ := reason_none passes
  obtain ⟨few, passes⟩ := reason_none passes
  obtain ⟨short, _⟩ := reason_none passes
  simp only [Bool.and_eq_true, Bool.or_eq_true, decide_eq_true_eq, Bool.not_eq_true', not_and, not_or,
    Bool.not_eq_false] at notOdd marker few short
  have even : t.symbolCount = some 4 → t.payloadBits % 2 = 0 := fun four => by
    have := notOdd four
    omega
  have whole := Template.whole_of_length fits
  rw [Template.silent_iff even whole] at marked
  rw [Template.tooMany_iff even whole] at few
  rw [Template.tooLong_iff even whole] at short
  push Not at marked few short
  obtain ⟨short, markerShort⟩ := short
  refine ⟨fun payload bit => ⟨Bool.eq_true_of_not_eq_false (marked payload bit), few payload bit, short payload bit⟩,
    fun form => ?_⟩
  have holds : holdsMark t.markerFrame = true := (render_holdsMark t.marker).trans (marker form)
  have length : t.markerFrame.length ≤ t.marker.length := render_length_le t.marker
  have some_ : t.markerFrame ≠ [] := fun e => by
    rw [e] at holds
    cases holds
  exact ⟨holds, (render_total_le t.marker).trans (markerShort form), length,
    fun four => ⟨List.length_pos_iff.2 some_, length.trans four⟩⟩

/-! ### The order of the reasons -/

theorem Template.symbolCount_eq (t : Template) :
    t.symbolCount =
      if t.symbols[0] ≠ [] ∧ t.symbols[1] ≠ [] ∧ ¬ t.symbols[2] ≠ [] ∧ ¬ t.symbols[3] ≠ [] then some 2
      else if t.symbols[0] ≠ [] ∧ t.symbols[1] ≠ [] ∧ t.symbols[2] ≠ [] ∧ t.symbols[3] ≠ [] then some 4
      else none := by
  unfold symbolCount
  cases t.symbols[0] <;> cases t.symbols[1] <;> cases t.symbols[2] <;> cases t.symbols[3] <;> rfl

/-- Settles O11: the eight reasons of a refused commit, in their order. -/
theorem commitReasonsInOrder : Obligations.CommitReasonsInOrder := by
  intro t present two four badLength badToggle
  have count : t.symbolCount = if two then some 2 else if four then some 4 else none := t.symbolCount_eq
  have reasons := t.invalid?_eq
  have length : t.lengthRefused = true ↔ badLength := t.lengthRefused_iff
  have toggle : t.toggleRefused = true ↔ badToggle := t.toggleRefused_iff
  refine ⟨fun neither => ?_, fun odd => ?_, fun symbols => ?_⟩
  · rw [if_neg neither.1, if_neg neither.2] at count
    rw [reasons, if_pos (by rw [count]; rfl)]
  · have notTwo : ¬ two := fun is_ => is_.2.2.1 odd.1.2.2.1
    rw [if_neg notTwo, if_pos odd.1] at count
    rw [reasons, if_neg (by rw [count]; nofun), if_pos (by simp [count, odd.2])]
  have some_ : ¬ t.symbolCount.isNone = true := by
    rw [count]
    rcases symbols with is_ | ⟨is_, _⟩
    · rw [if_pos is_]; nofun
    · rw [if_neg fun is_' : two => is_'.2.2.1 is_.2.2.1, if_pos is_]; nofun
  have even : t.symbolCount = some 4 → t.payloadBits % 2 = 0 := fun is_ => by
    rcases symbols with two_ | ⟨_, even⟩
    · rw [count, if_pos two_] at is_
      cases is_
    · exact even
  have notOdd : ¬ (decide (t.symbolCount = some 4) && decide (t.payloadBits % 2 = 1)) = true := by
    simp only [Bool.and_eq_true, decide_eq_true_eq, not_and]
    intro is_
    have := even is_
    omega
  rw [if_neg some_, if_neg notOdd] at reasons
  refine ⟨fun bad => ?_, fun fits bad => ?_, fun fits inside => ?_⟩
  · rw [reasons, if_pos (length.2 bad)]
  · rw [reasons, if_neg fun refused => fits (length.1 refused), if_pos (toggle.2 bad)]
  rw [if_neg fun refused => fits (length.1 refused), if_neg fun refused => inside (toggle.1 refused)] at reasons
  have whole := Template.whole_of_length fun refused => fits (length.1 refused)
  intro noMark badMarker tooMany tooLong
  have silent : t.peaks.silent = true ↔ noMark := Template.silent_iff even whole
  have unmarked : (decide (t.repeatForm = .marker) && !holdsMark t.marker) = true ↔ badMarker := by
    simp [badMarker]
  have many : decide (160 < t.peaks.top.count) = true ↔ tooMany :=
    decide_eq_true_iff.trans (Template.tooMany_iff even whole 160)
  have long : (decide (250000 < t.peaks.top.dur)
      || (decide (t.repeatForm = .marker) && decide (250000 < total t.marker))) = true ↔ tooLong := by
    rw [Bool.or_eq_true, Bool.and_eq_true, decide_eq_true_iff, decide_eq_true_iff, decide_eq_true_iff,
      Template.tooLong_iff even whole]
  refine ⟨fun bad => ?_, fun ok bad => ?_, fun ok ok' bad => ?_, fun ok ok' ok'' bad => ?_, fun ok ok' ok'' ok''' => ?_⟩
  · rw [reasons, if_pos (silent.2 bad)]
  · rw [reasons, if_neg fun refused => ok (silent.1 refused), if_pos (unmarked.2 bad)]
  · rw [reasons, if_neg fun refused => ok (silent.1 refused), if_neg fun refused => ok' (unmarked.1 refused),
      if_pos (many.2 bad)]
  · rw [reasons, if_neg fun refused => ok (silent.1 refused), if_neg fun refused => ok' (unmarked.1 refused),
      if_neg fun refused => ok'' (many.1 refused), if_pos (long.2 bad)]
  have valid : t.invalid? = none := by
    rw [reasons, if_neg fun refused => ok (silent.1 refused), if_neg fun refused => ok' (unmarked.1 refused),
      if_neg fun refused => ok'' (many.1 refused), if_neg fun refused => ok''' (long.1 refused)]
  refine ⟨valid, fun s dt tag d ready misses free drafts holds => ?_⟩
  have commits := tplCommitInstalls s dt tag ready misses
  rw [free, drafts] at commits
  dsimp only at commits
  rw [holds, valid] at commits
  exact ⟨_, commits, congrArg Slot.state (Vector.getElem_set_self _), rfl⟩

end Sys2Proof.Machine
end
